-- ==== Sys2Proof/Word.lean ====
section
/-! DEFINITION. Word.lean: the words the manual's formats are made of (R179, R180). -/

namespace Sys2Proof

/-- A byte of a link frame or of a port record. -/
abbrev Byte := BitVec 8

/-- A 16-bit word of the settings image, or a pass sequence. -/
abbrev Half := BitVec 16

end Sys2Proof
end

