-- ==== Sys2Proof/Config.lean ====
section
/-! DEFINITION. Config.lean: the values the manual leaves open. Each is a constant with no body, so that a claim
about the model holds whatever the value is. -/

namespace Sys2Proof.Config

/-- R174 lets a transfer break off at any byte, and answers FRAME-ERROR with "the tag as received". Where the tag or the
command code was not received at all the manual names no value; the argument says which draw this is. DESIGN CHOICE
(log entry 9): a free value. -/
opaque unreceivedByte : Nat → Byte

/-- R89 and R180 report the close time remaining of a tray under construction in 2 bytes and do not say how a part of a
second is counted. The argument is the time left in milliseconds; the answer says whether the part second counts as one
more. DESIGN CHOICE (log entry 10): a free value. -/
opaque partSecondCounts : Nat → Bool

/-- R180 gives temperatures 2 bytes signed, while an invalid reading can lie outside that range (R93 shows 64,535).
The argument is the T10; the answer is what the 2 bytes hold. DESIGN CHOICE (log entry 11): a free value. -/
opaque wideTemperature : Int → Half

/-- R135 gives an admission entry a last ask time "while PENDING", and the Admission record of R180 has 4 bytes for it with
no presence byte. The arguments are the time of the entry's last ask and its state time; the answer is what the 4 bytes hold
once the entry is not PENDING. DESIGN CHOICE (log entry 31): a free value. -/
opaque pastLastAsk : BitVec 32 → BitVec 32 → BitVec 32

end Sys2Proof.Config
end

