-- ==== Sys2Proof/Syntax.lean ====
section
/-! DEFINITION. Syntax.lean: the commands the part takes, one constructor per row of spec/opcode_table.json, with the
operands the manual gives each: the parameters of a port command at the widths of R180, the payload fields of a link
frame at the widths of R179, the inputs a field-line event samples, and which timer a run-out belongs to. -/

namespace Sys2Proof

/-- The head of a command record (R174, R180) beside its command code: the host's tag and the parameter length it sent. -/
structure CmdHead where
  tag : BitVec 8
  paramLen : BitVec 8
  deriving DecidableEq, Repr

/-- The fields of WRITE-PRODUCT after the index and the EMPTY mark (R43, R180). Temperatures are signed. -/
structure ProductFields where
  code : BitVec 16
  flavour : BitVec 8
  cls : BitVec 8
  allowance : BitVec 24
  tref : BitVec 16
  tk : BitVec 16
  shelf : BitVec 8
  deriving DecidableEq, Repr

/-- The fields of WRITE-ORDER after the bank choice, the index and the EMPTY mark (R109, R110, R180). -/
structure OrderFields where
  order : BitVec 16
  product : BitVec 16
  minUseBy : BitVec 16
  quantity : BitVec 16
  assigned : BitVec 16
  cutOff : BitVec 32
  primary : BitVec 8
  alternate : BitVec 8
  deriving DecidableEq, Repr

/-- The payload of a ROW-PASS (R179): eight pot entries, lane 1 first. -/
structure RowPassFields where
  seq : BitVec 16
  lot : BitVec 24
  exposure : BitVec 24
  flags : BitVec 8
  pots : List (BitVec 16)
  deriving DecidableEq, Repr

/-- The payload of a TRAY-PASS (R179). -/
structure TrayPassFields where
  seq : BitVec 16
  trayId : BitVec 32
  lot : BitVec 24
  product : BitVec 16
  useBy : BitVec 16
  rows : BitVec 8
  pots : BitVec 8
  flags : BitVec 8
  exposure : BitVec 24
  deriving DecidableEq, Repr

/-- The payload of a MANIFEST (R179). -/
structure ManifestFields where
  trayId : BitVec 32
  lot : BitVec 24
  product : BitVec 16
  useBy : BitVec 16
  order : BitVec 16
  exposure : BitVec 24
  flags : BitVec 8
  deriving DecidableEq, Repr

/-- The payload of a LOT-OPEN (R53, R179). -/
structure LotOpenFields where
  lot : BitVec 24
  product : BitVec 16
  flavour : BitVec 8
  cls : BitVec 8
  tank : BitVec 8
  useBy : BitVec 16
  allowance : BitVec 24
  tref : BitVec 8
  tk : BitVec 16
  deriving DecidableEq, Repr

/-- The payload of a link frame, by kind (R151, R179). -/
inductive Payload where
  | credit (limit : BitVec 16) (room : BitVec 8)
  | admitReply (trayId : BitVec 32) (answer lane : BitVec 8)
  | rowPass (p : RowPassFields)
  | trayPass (p : TrayPassFields)
  | manifest (p : ManifestFields)
  | admitAsk (trayId : BitVec 32)
  | lotOpen (p : LotOpenFields)
  | lotClose (lot : BitVec 24)
  | stationState (role mode : BitVec 8)
  deriving DecidableEq, Repr

/-- The commands of the part: one constructor per row of spec/opcode_table.json, in the table's order. -/
inductive Instr where
  | hardReset
  /-- The bytes the image read delivered before it ended (R164, R181); 784 when it delivered the whole image. -/
  | loadComplete (image : List (BitVec 8))
  /-- A command transfer that fails the frame check (R174), with its code and tag where they were received. -/
  | frameError (code tag : Option (BitVec 8))
  | unknownCommand (code tag : BitVec 8)
  | responseTransfer
  | writeSetting (h : CmdHead) (number : BitVec 16) (value : BitVec 32)
  | readSetting (h : CmdHead) (number : BitVec 16)
  | start (h : CmdHead)
  | hold (h : CmdHead)
  | resume (h : CmdHead)
  | sanitise (h : CmdHead)
  | drainComplete
  | drainTimeout
  | endSanitise (h : CmdHead)
  | restart (h : CmdHead)
  | setClock (h : CmdHead) (value : BitVec 32)
  | setDay (h : CmdHead) (value : BitVec 16)
  | readStatus (h : CmdHead)
  | readNotices (h : CmdHead)
  | readPeers (h : CmdHead)
  /-- Lane 0 means ALL (R180). -/
  | forceReject (h : CmdHead) (position lane : BitVec 8)
  | readRow (h : CmdHead) (position : BitVec 8)
  | readArrival (h : CmdHead) (index : BitVec 8)
  | writeProduct (h : CmdHead) (index emptyMark : BitVec 8) (p : ProductFields)
  | writeTransition (h : CmdHead) (prev next kind count : BitVec 8)
  | openLot (h : CmdHead) (index tank : BitVec 8) (lot : BitVec 24)
  | closeLot (h : CmdHead)
  | readLot (h : CmdHead) (index : BitVec 8)
  | loadReel (h : CmdHead) (reel : BitVec 16) (flavour : BitVec 8) (useBy lids : BitVec 16)
  | splice (h : CmdHead)
  | readReels (h : CmdHead)
  | readTray (h : CmdHead) (place : BitVec 8)
  /-- Index 0xFF means not given (R180). -/
  | readZone (h : CmdHead) (index : BitVec 8)
  | writeOrder (h : CmdHead) (bank index emptyMark : BitVec 8) (o : OrderFields)
  | readOrder (h : CmdHead) (bank index : BitVec 8)
  | swapBook (h : CmdHead) (bank : BitVec 8)
  | retryTray (h : CmdHead) (cell : BitVec 8)
  | removeTray (h : CmdHead) (cell : BitVec 8)
  | readTrace (h : CmdHead)
  | freeTrace (h : CmdHead)
  | writeLane (h : CmdHead) (lane use : BitVec 8) (capacity occupancy order : BitVec 16)
  | readLane (h : CmdHead) (lane : BitVec 8)
  | readAdmission (h : CmdHead) (index : BitVec 8)
  | drawdown (h : CmdHead) (lane : BitVec 8) (count : BitVec 16)
  /-- Bit k-1 of `presence` is lane k's presence input, bit k-1 of `bondPass` is set when lane k's bond-check input
  reports a pass; both are sampled only where the count causes an index event (R9, R13, R71). -/
  | forwardCount (presence bondPass : BitVec 8)
  | reverseCount
  | rejectPulseEnd (lane : Nat)
  | credit (src tgt : BitVec 5) (limit : BitVec 16) (room : BitVec 8)
  | creditExpiry
  | creditRefresh
  | rowPass (src tgt : BitVec 5) (p : RowPassFields)
  | trayPass (src tgt : BitVec 5) (p : TrayPassFields)
  | chamberTrayPass (src tgt : BitVec 5) (p : TrayPassFields)
  | transitLimitExpiry
  | lotOpen (src tgt : BitVec 5) (p : LotOpenFields)
  | lotCloseFrame (src tgt : BitVec 5) (lot : BitVec 24)
  | lotOpenRepetition
  | pendingLotFramesQueued
  | exitSensorEvent
  | chillExitSensorEvent
  | trayCloseTime
  | infeedSensorEvent
  | chamberInfeedEvent
  /-- A completed probe pulse of `width` microseconds. -/
  | reading (width : Nat)
  | miss
  | stationSecond
  | seriesStart
  | admitReply (src tgt : BitVec 5) (trayId : BitVec 32) (answer lane : BitVec 8)
  | answerTimeout (slot : Nat)
  | repeatTimer (slot : Nat)
  | dueAskQueued
  | grantExpiry (cell : Nat)
  | releaseBegin
  | shuttleDone
  | shuttleTimeout
  | pendingTrayPassQueued
  | manifest (src tgt : BitVec 5) (p : ManifestFields)
  | admitAsk (src tgt : BitVec 5) (trayId : BitVec 32)
  | claimWindow (index : Nat)
  | arrivalWindow (index : Nat)
  | manifestLifetime (index : Nat)
  | pendingLapse (index : Nat)
  | stationState (src tgt : BitVec 5) (role mode : BitVec 8)
  | peerTimeout (station : Nat)
  | stationStatePeriod
  | pendingStationStatePlaced
  /-- A received frame, byte by byte, and whether it ended where its length said. -/
  | badFrame (endedRight : Bool) (bytes : List (BitVec 8))
  | frameOffer
  | frameSent
  | lostArbitration
  | corruptedOwnFrame
  | longArbitrationLoss
  | selectAsserted
  deriving DecidableEq, Repr

end Sys2Proof
end

