-- ==== Sys2Proof/Machine/Types.lean ====
section
/-! DEFINITION. Machine/Types.lean: the named sets of the manual (0.5.3) with the codes the formats give them
(R167, R179, R180), and the bounds of its counts. -/

namespace Sys2Proof.Machine

/-- The six roles (0.2). -/
inductive Role where | filler | lidder | trayer | chill | dispatch | chamber
  deriving DecidableEq, Repr

/-- Role codes (R179, R181). -/
def Role.code : Role → Nat
  | .filler => 1 | .lidder => 2 | .trayer => 3 | .chill => 4 | .dispatch => 5 | .chamber => 6

/-- The role a code names; none where it is unassigned. -/
def Role.ofCode : Nat → Option Role
  | 1 => some .filler | 2 => some .lidder | 3 => some .trayer | 4 => some .chill | 5 => some .dispatch
  | 6 => some .chamber | _ => none

/-- FILLER, LIDDER and TRAYER (0.2): the roles with a row window. -/
def Role.isRow : Role → Bool
  | .filler | .lidder | .trayer => true
  | _ => false

/-- The roles with an incoming side (chapter 2). -/
def Role.hasIncoming : Role → Bool
  | .lidder | .trayer | .chill | .dispatch => true
  | _ => false

/-- The roles with an outgoing side (chapter 2). -/
def Role.hasOutgoing : Role → Bool
  | .filler | .lidder | .trayer | .chill => true
  | _ => false

/-- The roles that use EXP and hold lots: every role but CHAMBER (R45, chapter 6). -/
def Role.holdsLots : Role → Bool
  | .chamber => false
  | _ => true

/-- The seven station modes (chapter 10). -/
inductive Mode where | starting | configuring | running | held | draining | sanitising | fault
  deriving DecidableEq, Repr

/-- Mode codes (R179). -/
def Mode.code : Mode → Nat
  | .starting => 1 | .configuring => 2 | .running => 3 | .held => 4 | .draining => 5 | .sanitising => 6 | .fault => 7

/-- The mode a code names; none where it is unassigned. -/
def Mode.ofCode : Nat → Option Mode
  | 1 => some .starting | 2 => some .configuring | 3 => some .running | 4 => some .held | 5 => some .draining
  | 6 => some .sanitising | 7 => some .fault | _ => none

/-- The HELD causes (R167), in the bit order of the Status record (R180). -/
inductive Cause where | hold | track | lidMismatch | noLids | bond | link
  deriving DecidableEq, Repr

/-- The bit of a cause in the cause set (R167, R180). -/
def Cause.mask : Cause → BitVec 8
  | .hold => 0x01#8 | .track => 0x02#8 | .lidMismatch => 0x04#8 | .noLids => 0x08#8 | .bond => 0x10#8 | .link => 0x20#8

/-- The reject reasons (R7). -/
inductive Reason where
  | purge | unknownLot | stray | lidMismatch | noLid | bond | uncertain | spent | host
  deriving DecidableEq, Repr

/-- The bit of a reason in a pot entry (R179). -/
def Reason.mask : Reason → BitVec 9
  | .purge => 0x001#9 | .unknownLot => 0x002#9 | .stray => 0x004#9 | .lidMismatch => 0x008#9 | .noLid => 0x010#9
  | .bond => 0x020#9 | .uncertain => 0x040#9 | .spent => 0x080#9 | .host => 0x100#9

/-- The notices (chapter 11, notice table). -/
inductive Notice where
  | trackFault | overrun | creditExpired | creditViolation | missing | lotTableFull | reelSpliced | lidMismatch | noLids
  | bondLane | probeFault | probeFailed | routeFailed | half | full | manifestFull | unclaimed | trayMissing
  | strayUntraced | linkFail | settingsBad | writtenOff | stationFault
  deriving DecidableEq, Repr

/-- The bit number of a notice in the Notices record (R180). -/
def Notice.bit : Notice → Nat
  | .trackFault => 0 | .overrun => 1 | .creditExpired => 2 | .creditViolation => 3 | .missing => 4 | .lotTableFull => 5
  | .reelSpliced => 6 | .lidMismatch => 7 | .noLids => 8 | .bondLane => 9 | .probeFault => 10 | .probeFailed => 11
  | .routeFailed => 12 | .half => 13 | .full => 14 | .manifestFull => 15 | .unclaimed => 16 | .trayMissing => 17
  | .strayUntraced => 18 | .linkFail => 19 | .settingsBad => 20 | .writtenOff => 21 | .stationFault => 22

/-- The mask of a notice in the latched set. -/
def Notice.mask (n : Notice) : BitVec 32 := BitVec.twoPow 32 n.bit

/-- The status codes of responses (R175, R180). -/
inductive Status where
  | ok | clamped | empty | busy | badMode | badValue | badRole | duplicate | full | barred | checkFail | unknownCommand
  | frameError
  deriving DecidableEq, Repr

/-- Status codes (R180). -/
def Status.code : Status → Nat
  | .ok => 0 | .clamped => 1 | .empty => 2 | .busy => 3 | .badMode => 4 | .badValue => 5 | .badRole => 6
  | .duplicate => 7 | .full => 8 | .barred => 9 | .checkFail => 10 | .unknownCommand => 11 | .frameError => 12

/-- Urgency classes (R99). A row of absent lot has none (R100). -/
inductive Urgency where | green | amber | red | spent
  deriving DecidableEq, Repr

/-- Urgency codes (R179). -/
def Urgency.code : Urgency → Nat
  | .green => 0 | .amber => 1 | .red => 2 | .spent => 3

/-- The class two urgency bits name (R179). -/
def Urgency.ofCode : Nat → Urgency
  | 0 => .green | 1 => .amber | 2 => .red | _ => .spent

/-- The codes of records, with 4 for unclassed (R180). -/
def urgencyCode : Option Urgency → Nat
  | some u => u.code
  | none => 4

/-- What the fault cause names (R171). -/
inductive FaultCause where | shuttle | settings
  deriving DecidableEq, Repr

/-- Fault cause codes, 0 for none (R180). -/
def faultCode : Option FaultCause → Nat
  | none => 0 | some .shuttle => 1 | some .settings => 2

/-- Lot states (R48). -/
inductive LotState where | opened | closed | retired
  deriving DecidableEq, Repr

/-- Lot state codes (R180). -/
def LotState.code : LotState → Nat
  | .opened => 0 | .closed => 1 | .retired => 2

/-- Entries of the allergen transition table (R44). -/
inductive Transition where | free | purge (rows : Nat) | sanitise
  deriving DecidableEq, Repr

/-- Probe states (R94). -/
inductive ProbeState where | ok | degraded | failed
  deriving DecidableEq, Repr

/-- Probe state codes (R180). -/
def ProbeState.code : ProbeState → Nat
  | .ok => 0 | .degraded => 1 | .failed => 2

/-- Dispatch states of a tray (R76). -/
inductive DispatchState where | unasked | asking | granted | routeHeld | releasing
  deriving DecidableEq, Repr

/-- Dispatch state codes (R180). -/
def DispatchState.code : DispatchState → Nat
  | .unasked => 0 | .asking => 1 | .granted => 2 | .routeHeld => 3 | .releasing => 4

/-- States of an order entry that is not EMPTY (R109). -/
inductive OrderState where | opened | filled | cut
  deriving DecidableEq, Repr

/-- Order state codes; EMPTY is 0 (R180). -/
def OrderState.code : OrderState → Nat
  | .opened => 1 | .filled => 2 | .cut => 3

/-- Phases of a request slot (R115). -/
inductive Phase where | asking | between
  deriving DecidableEq, Repr

/-- Phase codes; IDLE is 0 (R180). -/
def Phase.code : Phase → Nat
  | .asking => 1 | .between => 2

/-- What a lane takes (R131). -/
inductive LaneUse where | off | orders | stock | quarantine
  deriving DecidableEq, Repr

/-- Lane use codes (R180). -/
def LaneUse.code : LaneUse → Nat
  | .off => 0 | .orders => 1 | .stock => 2 | .quarantine => 3

/-- The lane use a code names; none where it is unassigned. -/
def LaneUse.ofCode : Nat → Option LaneUse
  | 0 => some .off | 1 => some .orders | 2 => some .stock | 3 => some .quarantine | _ => none

/-- States of an admission entry (R135). -/
inductive AdmState where | pending | ready | claimed | inbound
  deriving DecidableEq, Repr

/-- Admission state codes (R180). -/
def AdmState.code : AdmState → Nat
  | .pending => 0 | .ready => 1 | .claimed => 2 | .inbound => 3

/-- Outcomes of a chamber trace entry (R146). -/
inductive TraceOutcome where | admitted | missing | stray
  deriving DecidableEq, Repr

/-- Outcome codes (R180). -/
def TraceOutcome.code : TraceOutcome → Nat
  | .admitted => 0 | .missing => 1 | .stray => 2

/-- The three transmit places (R156). -/
inductive TxPlace where | creditSlot | answerQueue | mainQueue
  deriving DecidableEq, Repr

/-- Answers of an ADMIT-REPLY (R179). -/
inductive Answer where | wait | waitFull | grant | deny
  deriving DecidableEq, Repr

/-- Answer codes (R179). -/
def Answer.code : Answer → Nat
  | .wait => 1 | .waitFull => 2 | .grant => 3 | .deny => 4

/-- The answer a code names; none where it is unassigned (R179). -/
def Answer.ofCode : Nat → Option Answer
  | 1 => some .wait | 2 => some .waitFull | 3 => some .grant | 4 => some .deny | _ => none

/-- The frame kinds (R151). -/
inductive FrameKind where
  | credit | admitReply | rowPass | trayPass | manifest | admitAsk | lotOpen | lotClose | stationState
  deriving DecidableEq, Repr

/-- Every station count runs to 4,294,967,295 and stays there (R21, R40, R54, R73, R87, R104, R128, R148, R161, R176). -/
def countMax : Nat := 4294967295

/-- Adds to a station count, which stays at its maximum. -/
def bump (count amount : Nat) : Nat := min countMax (count + amount)

/-- The top of the exposure range (0.5.1). -/
def exposureMax : Nat := 16777215

/-- Modular order of close orders, arrival orders, creation orders and inbound orders (R48). -/
def orderBefore (a b : BitVec 32) : Bool := 1 ≤ (b - a).toNat && (b - a).toNat ≤ 2147483647

/-- A 32-bit counter that wraps from its maximum to 1 (R85, R135, R140). -/
def nextOrder (c : BitVec 32) : BitVec 32 := if c = 0xFFFFFFFF#32 then 1#32 else c + 1#32

/-- Moves a value to the nearer end of a range (R165). -/
def clampInt (lo hi v : Int) : Int := if v < lo then lo else if hi < v then hi else v

/-- Moves a value to the nearer end of a range. -/
def clampNat (lo hi v : Nat) : Nat := if v < lo then lo else if hi < v then hi else v

/-- Writes an element of a fixed table by a function of the old one; an index outside changes nothing. -/
def modifyAt {α : Type} (l : List α) (i : Nat) (f : α → α) : List α :=
  match l, i with
  | [], _ => []
  | x :: xs, 0 => f x :: xs
  | x :: xs, i + 1 => x :: modifyAt xs i f

/-- The element of a fixed table of optional entries. -/
def slotAt {α : Type} (l : List (Option α)) (i : Nat) : Option α := (l[i]?).join

/-- The number of entries held in a table of optional entries. -/
def heldCount {α : Type} (l : List (Option α)) : Nat := (l.filter Option.isSome).length

/-- The lowest index of a free entry. -/
def lowestFree {α : Type} (l : List (Option α)) : Option Nat := l.findIdx? Option.isNone

end Sys2Proof.Machine
end

