-- ==== Sys2Proof/Machine/Settings.lean ====
section
/-! DEFINITION. Machine/Settings.lean: the settings of every block with their ranges and defaults (R1, R25, R54, R77,
R91, R108, R130, R154, R164, R169, R170), numbered as R181 numbers them, and the product, transition and lane entries
that the settings image also carries. -/

namespace Sys2Proof.Machine

/-- What a setting may hold. -/
inductive Range where
  /-- A numeric setting: a value outside is clamped to the nearer end (R165). -/
  | span (lo hi : Int)
  /-- An enumerated setting: a value outside the set is refused, or takes the default from an image (R164, R165). -/
  | oneOf (codes : List Int)
  /-- The notice mask: one mark for each of the 23 notices (R178, R180). -/
  | marks
  deriving DecidableEq, Repr

/-- How many settings there are (R181). -/
def settingCount : Nat := 54

/-- The range of the `j`-th field of an acceptance filter (R154): enable, kind value, kind mask, source value, source mask. -/
def filterRange : Nat → Range
  | 0 => .oneOf [0, 1] | 1 => .span 0 15 | 2 => .span 0 15 | 3 => .span 0 31 | _ => .span 0 31

/-- The range of setting `n`, with `length` the window length in force, which bounds the named positions (R1);
none where the number names no setting. -/
def settingRange (length : Int) (n : Nat) : Option Range :=
  match n with
  | 0 => none
  | 1 => some (.oneOf [1, 2, 3, 4, 5, 6])
  | 2 => some (.span 1 30)
  | 3 => some .marks
  | 4 => some (.span 10 600)
  | 5 => some (.oneOf [0, 1])
  | 6 => some (.span 8 64)
  | 7 => some (.span 16 4095)
  | 8 => some (.span 1 8)
  | 9 | 10 | 11 => some (.span 1 (length - 1))
  | 12 | 13 => some (.span 0 30)
  | 14 => some (.span 50 1000)
  | 15 => some (.span 200 5000)
  | 16 => some (.span 1 600)
  | 17 | 18 => some (.span 0 30)
  | 19 => some (.span 1 4)
  | 20 => some (.span 5 600)
  | 21 => some (.span 500 1500)
  | 22 => some (.span 128 384)
  | 23 => some (.span (-300) 900)
  | 24 => some (.span 0 600)
  | 25 | 26 => some (.span 1 30)
  | 27 => some (.span 50 2000)
  | 28 => some (.span 20 1000)
  | 29 => some (.span 1 255)
  | 30 => some (.span 1 120)
  | 31 => some (.oneOf [0, 1])
  | 32 => some (.span 1 60)
  | 33 => some (.span 5 600)
  | 34 => some (.span 5 600)
  | n => if n ≤ settingCount then some (filterRange ((n - 35) % 5)) else none

/-- The factory default of setting `n` (the tables of R1, R25, R54, R77, R91, R108, R130, R154, R164, R169, R170, R178). -/
def settingDefault (n : Nat) : Int :=
  match n with
  | 1 => 1 | 2 => 1 | 3 => 0 | 4 => 120 | 5 => 1
  | 6 => 24 | 7 => 256 | 8 => 4 | 9 => 6 | 10 => 10 | 11 => 16
  | 12 => 0 | 13 => 0 | 14 => 200 | 15 => 1000 | 16 => 20 | 17 => 0 | 18 => 1
  | 19 => 2 | 20 => 30 | 21 => 1000 | 22 => 256 | 23 => 250 | 24 => 30
  | 25 => 21 | 26 => 22 | 27 => 250 | 28 => 100 | 29 => 40 | 30 => 20 | 31 => 1
  | 32 => 5 | 33 => 45 | 34 => 60
  | 35 => 1 | 36 => 8 | 37 => 14
  | 40 => 1 | 41 => 12 | 42 => 15
  | _ => 0

/-- The settings of the factory defaults, number 1 first. -/
def defaultSettings : List Int := (List.range settingCount).map (fun i => settingDefault (i + 1))

/-- A product table entry (R43). -/
structure Product where
  code : Nat
  flavour : Nat
  cls : Nat
  allowance : Nat
  tref : Nat
  tk : Nat
  shelf : Nat
  deriving DecidableEq, Repr

/-- A lane record (R131). Use and capacity belong to the settings image too (R164). -/
structure Lane where
  use : LaneUse
  capacity : Nat
  occupancy : Nat
  reserved : Nat
  order : Option Nat
  deriving DecidableEq, Repr

/-- A lane as either reset leaves it, with the use and capacity the image gives (R131, R149). -/
def Lane.fresh (use : LaneUse) (capacity : Nat) : Lane :=
  { use, capacity, occupancy := 0, reserved := 0, order := none }

/-- The factory default transition table: FREE on the diagonal, SANITISE everywhere else (R44). -/
def defaultTransition (i : Nat) : Transition := if i / 8 = i % 8 then .free else .sanitise

/-- The default table, row p of eight entries after row p - 1. -/
def defaultTransitions : List Transition := (List.range 64).map defaultTransition

/-- The default product table: empty (R164). -/
def defaultProducts : List (Option Product) := List.replicate 32 none

/-- The default lane table: every lane OFF with capacity 1 (R164). -/
def defaultLanes : List Lane := List.replicate 8 (Lane.fresh .off 1)

/-- The image words of setting `n` (R181): the notice mask takes two words, high word first. -/
def settingWords (n : Nat) (v : Int) : List Half :=
  if n = 3 then [BitVec.ofInt 16 (v / 65536), BitVec.ofInt 16 v] else [BitVec.ofInt 16 v]

/-- The image words of a product entry (R181). The other words of an empty entry are not read; the model holds them
as 0. DESIGN CHOICE (log entry 21), seen by no answer of the part. -/
def productWords : Option Product → List Half
  | none => List.replicate 8 0#16
  | some p =>
    [BitVec.ofNat 16 p.code, BitVec.ofNat 16 p.flavour, BitVec.ofNat 16 p.cls, BitVec.ofNat 16 (p.allowance / 65536),
      BitVec.ofNat 16 p.allowance, BitVec.ofNat 16 p.tref, BitVec.ofNat 16 p.tk, BitVec.ofNat 16 p.shelf]

/-- The image word of a transition entry: the kind in the high byte, the PURGE count in the low byte (R180, R181),
which is 0 where the kind has none. DESIGN CHOICE (log entry 21). -/
def transitionWord : Transition → Half
  | .free => 0#16
  | .purge n => BitVec.ofNat 16 (256 + n)
  | .sanitise => 512#16

/-- The image words of a lane: use and capacity (R181). -/
def laneWords (l : Lane) : List Half := [BitVec.ofNat 16 l.use.code, BitVec.ofNat 16 l.capacity]

/-- The words of the settings, number 1 first. -/
def settingsWords (vals : List Int) : List Half :=
  (List.range settingCount).flatMap (fun i => settingWords (i + 1) (vals.getD i 0))

/-- The working store laid out as the image is, with the check word excluded (R181). -/
def storeWords (vals : List Int) (products : List (Option Product)) (transitions : List Transition)
    (lanes : List Lane) : List Half :=
  settingsWords vals ++ products.flatMap productWords ++ transitions.map transitionWord ++ lanes.flatMap laneWords

/-- The 16-bit sum of R164. -/
def wordSum (ws : List Half) : Half := ws.foldl (· + ·) 0#16

end Sys2Proof.Machine
end

