-- ==== Sys2Proof/Machine/State.lean ====
section
/-! DEFINITION. Machine/State.lean: every piece of state the manual gives the part, one structure per block, the queue
of waiting commands, and the state after a hard reset. Times in milliseconds (`Nat`) are on the model's own scale
`nowMs`; times the manual takes from the station clock are `BitVec 32` (R172). Tables are lists of optional entries,
cells, slots and lanes being numbered from 1 in the manual and from index 0 here. -/

namespace Sys2Proof.Machine

/-- No command stops the machine: the manual gives each an effect in every mode and role, and a refusal at the port is
an answer (R175). Raised by nobody. -/
inductive Fault where
  deriving DecidableEq, Repr

/-- Why a command has no meaning. -/
inductive Refusal where
  /-- Raised by `exec` alone, for a command the model does not reach; no arm raises it. Safe. -/
  | notModelled (mnemonic : String)
  deriving DecidableEq, Repr

/-- A pot (R6): its lidded flag and its reject reason set, bit by bit as R179 codes it. -/
structure Pot where
  lidded : Bool
  reasons : BitVec 9
  deriving DecidableEq, Repr

/-- A row record without its local row number (R6, R30), with the class EXP keeps with it (R100). `pots` has an entry
for each of lanes 1 to 8. -/
structure RowBody where
  lot : Option Nat
  exposure : Nat
  purge : Bool
  uncertain : Bool
  pots : List (Option Pot)
  urgency : Option Urgency
  deriving DecidableEq, Repr

/-- A row of the window (R5, R6). -/
structure Row where
  number : Nat
  body : RowBody
  deriving DecidableEq, Repr

/-- A row arrivals entry (R30). -/
structure RowEntry where
  body : RowBody
  seq : BitVec 16
  since : Nat
  deriving DecidableEq, Repr

/-- A tray id: origin station and tray sequence, (0, 0) for a tray that arrived unannounced (R76). -/
structure TrayId where
  origin : Nat
  seq : Nat
  deriving DecidableEq, Repr

/-- A grant (R76), with its quarantine mark (R116) and the end of its lifetime (R122). -/
structure Grant where
  chamber : Nat
  lane : Nat
  time : BitVec 32
  marked : Bool
  deadline : Nat
  deriving DecidableEq, Repr

/-- A tray record (R76); `chambers` are the order chambers DSP keeps with an assigned tray (R109). -/
structure Tray where
  id : TrayId
  lot : Option Nat
  product : Option Nat
  useBy : Option Nat
  rows : Nat
  pots : Nat
  short : Bool
  exposure : Nat
  urgency : Urgency
  quarantine : Bool
  order : Option Nat
  route : Option Nat
  grant : Option Grant
  retry : Nat
  dstate : DispatchState
  chambers : Option (Nat × Nat)
  deriving DecidableEq, Repr

/-- A tray arrivals entry (R30). -/
structure TrayEntry where
  tray : Tray
  seq : BitVec 16
  since : Nat
  deriving DecidableEq, Repr

/-- The tray under construction with its close time (R78), and the mark of a close that is held back (R79). -/
structure Forming where
  tray : Tray
  deadline : Option Nat
  closeDue : Bool
  deriving DecidableEq, Repr

/-- A cell's tray with its arrival time and arrival order (R85). -/
structure Cell where
  tray : Tray
  arrivalTime : BitVec 32
  arrivalOrder : BitVec 32
  deriving DecidableEq, Repr

/-- A lot record (R45). -/
structure LotRec where
  id : Nat
  origin : Nat
  product : Nat
  flavour : Nat
  cls : Nat
  tank : Nat
  useBy : Nat
  allowance : Nat
  tref : Nat
  tk : Nat
  state : LotState
  refs : Nat
  closeOrder : BitVec 32
  closeTime : Option (BitVec 32)
  purgeLeft : Nat
  rowsFilled : Nat
  potsFilled : Nat
  potsReceived : Nat
  potsRejected : Nat
  deriving DecidableEq, Repr

/-- A reel record (R62). -/
structure Reel where
  id : Nat
  flavour : Nat
  useBy : Nat
  lids : Nat
  deriving DecidableEq, Repr

/-- An order entry that is not EMPTY (R109); `onAlternate` is the selector. -/
structure OrderEntry where
  state : OrderState
  order : Nat
  product : Nat
  minUseBy : Nat
  quantity : Nat
  assigned : Nat
  cutOff : BitVec 32
  primary : Nat
  alternate : Nat
  onAlternate : Bool
  deriving DecidableEq, Repr

/-- A request slot that is not IDLE (R115). `cell` is the index of the tray's cell; `askDue` marks a due ask that waits
for the main queue (R118); `latestAsk` names the latest ask the slot queued (R118). -/
structure Slot where
  cell : Nat
  target : Nat
  attempts : Nat
  phase : Phase
  answerAt : Option Nat
  repeatAt : Option Nat
  askDue : Bool
  flagged : Bool
  latestAsk : Nat
  deriving DecidableEq, Repr

/-- A trace entry, in the form of the role that wrote it (R124, R127, R146). -/
inductive TraceEntry where
  | release (tray : TrayId) (lot product order : Option Nat) (chamber lane exposure : Nat) (urgency : Urgency)
      (time : BitVec 32)
  | chamber (tray : TrayId) (outcome : TraceOutcome) (lane lot : Option Nat) (time : BitVec 32)
  deriving DecidableEq, Repr

/-- A manifest (R133); `since` is its time received on the model's scale. -/
structure Manifest where
  tray : TrayId
  requester : Nat
  lot : Option Nat
  product : Option Nat
  useBy : Option Nat
  order : Option Nat
  exposure : Nat
  urgency : Urgency
  quarantine : Bool
  received : BitVec 32
  since : Nat
  deriving DecidableEq, Repr

/-- An admission entry (R135). `lane` is the lane number 1 to 8; `stateSince`, `claimSince` and `askSince` carry the
state time, claim time and last ask time on the model's scale, for the windows. -/
structure Admission where
  tray : TrayId
  requester : Nat
  order : Option Nat
  quarantine : Bool
  urgency : Urgency
  state : AdmState
  lane : Option Nat
  stateTime : BitVec 32
  claimTime : Option (BitVec 32)
  lastAsk : BitVec 32
  creation : BitVec 32
  inbound : Option (BitVec 32)
  stateSince : Nat
  claimSince : Nat
  askSince : Nat
  deriving DecidableEq, Repr

/-- An unreserved note (R140). -/
structure Note where
  tray : TrayId
  lot : Option Nat
  deriving DecidableEq, Repr

/-- A frame of the transmit side (R150, R156). `serial` tells one ADMIT-ASK from another (R118). -/
structure Frame where
  target : Nat
  payload : Payload
  serial : Nat
  deriving DecidableEq, Repr

/-- The frame on the bus (R157): the place it was offered from, the frame, its bytes as sent, and whether a newer frame
has replaced it in its place meanwhile. -/
structure BusOffer where
  place : TxPlace
  frame : Frame
  bytes : List Byte
  replaced : Bool
  deriving DecidableEq, Repr

/-- A peer table entry (R160): the mode or UNKNOWN, and when the report its age comes from was accepted. -/
structure Peer where
  mode : Option Mode
  since : Option Nat
  deriving DecidableEq, Repr

/-- The last reading (R92, R93): a miss, or a T10 with its validity. -/
inductive LastReading where
  | miss
  | value (t10 : Int) (valid : Bool)
  deriving DecidableEq, Repr

/-- A response held in the response place (R174). -/
structure Response where
  tag : BitVec 8
  code : BitVec 8
  status : Status
  data : List Byte
  fetched : Bool
  deriving DecidableEq, Repr

/-- The held limit (R27). -/
structure HeldLimit where
  limit : BitVec 16
  since : Nat
  deriving DecidableEq, Repr

/-- Station Control (chapter 10) with the working store (R164), less the lane table, which ADM holds. -/
structure Stc where
  mode : Mode
  causes : BitVec 8
  fault : Option FaultCause
  settings : List Int
  products : List (Option Product)
  transitions : List Transition
  workingSum : Half
  clock : BitVec 32
  day : BitVec 16
  drainAt : Option Nat
  secondAt : Nat
  latched : BitVec 32
  deriving DecidableEq, Repr

/-- The attention line (R178) and the run-permit output (R19, R84, R86). -/
structure Out where
  attention : Bool
  runPermit : Bool
  deriving DecidableEq, Repr

/-- The station port (R174). -/
structure Port where
  place : Option Response
  restartPending : Bool
  lost : Nat
  delivered : List Byte
  deriving DecidableEq, Repr

/-- The Index Tracker (chapter 1). `pulses` holds, per lane, when a running reject pulse ends. -/
structure Idx where
  posCount : Nat
  debt : Nat
  window : List (Option Row)
  nextRow : Nat
  pulses : List (Option Nat)
  unknownRejects : Nat
  lost : Nat
  untracked : Nat
  deriving DecidableEq, Repr

/-- The Handoff Unit (chapter 2). -/
structure Hnd where
  nextSeq : BitVec 16
  everHeld : Bool
  held : Option HeldLimit
  inLoss : Bool
  expected : BitVec 16
  rowArrivals : List RowEntry
  trayArrivals : List TrayEntry
  room : Nat
  advertised : BitVec 16
  refreshAt : Option Nat
  missing : Nat
  stray : Nat
  dropped : Nat
  resync : Nat
  deriving DecidableEq, Repr

/-- The Lot Unit (chapter 3). -/
structure Lot where
  table : List (Option LotRec)
  openIdx : Option Nat
  prevClass : Option Nat
  sanitised : Bool
  pendingCloses : List Nat
  pendingOpen : Bool
  repeatAt : Option Nat
  closeCounter : BitVec 32
  discards : Nat
  deriving DecidableEq, Repr

/-- The Lid Unit (chapter 4). -/
structure Lid where
  active : Option Reel
  standby : Option Reel
  fails : List Nat
  tripped : BitVec 8
  applied : Nat
  splices : Nat
  mismatches : Nat
  bondFailures : Nat
  deriving DecidableEq, Repr

/-- The Tray Unit (chapter 5). -/
structure TrayUnit where
  forming : Option Forming
  formed : List Tray
  queue : List Tray
  cells : List (Option Cell)
  nextSeq : Nat
  nextArrival : BitVec 32
  lost : Nat
  unmatched : Nat
  untracked : Nat
  deriving DecidableEq, Repr

/-- The Exposure Unit (chapter 6). -/
structure Exp where
  probe : ProbeState
  bad : Nat
  lastValid : Option Int
  lastWidth : Option Nat
  lastReading : Option LastReading
  missAt : Option Nat
  invalid : Nat
  fallbackSeconds : Nat
  deriving DecidableEq, Repr

/-- The Dispatch Unit (chapter 7). `swap` is set when bank 1 is ACTIVE; `release` is the index of the cell whose release
is in flight, for which the shuttle command is driven. -/
structure Dsp where
  bank0 : List (Option OrderEntry)
  bank1 : List (Option OrderEntry)
  swap : Bool
  slots : List (Option Slot)
  nextAsk : Nat
  release : Option Nat
  shuttleAt : Option Nat
  pendingPass : Option Frame
  grants : Nat
  noAnswers : Nat
  unmatchedReplies : Nat
  routes : Nat
  expiredGrants : Nat
  releases : Nat
  unexpectedDone : Nat
  unnamedTrays : Nat
  deriving DecidableEq, Repr

/-- The Trace Ring (R126): held entries oldest first, of which the first `readCount` are read. -/
structure Trc where
  entries : List TraceEntry
  readCount : Nat
  writePos : Nat
  readPos : Nat
  deriving DecidableEq, Repr

/-- The Admission Unit (chapter 8). -/
structure Adm where
  lanes : List Lane
  manifests : List (Option Manifest)
  table : List (Option Admission)
  nextCreation : BitVec 32
  nextInbound : BitVec 32
  notes : List Note
  laneSelect : Nat
  admitted : Nat
  strays : Nat
  untracedStrays : Nat
  missing : Nat
  unclaimed : Nat
  lapsed : Nat
  withdrawn : Nat
  manifestDropped : Nat
  expiredManifests : Nat
  unansweredAsks : Nat
  droppedPasses : Nat
  droppedNotes : Nat
  deriving DecidableEq, Repr

/-- The Link Controller (chapter 9). -/
structure Lnk where
  creditSlot : Option Frame
  answerQ : List Frame
  mainQ : List Frame
  onBus : Option BusOffer
  failures : Nat
  waitSince : Option Nat
  peers : List Peer
  pendingState : Option Frame
  stateAt : Option Nat
  badFrames : Nat
  malformed : Nat
  noUse : Nat
  transmitted : Nat
  txFailures : Nat
  deriving DecidableEq, Repr

/-- The machine: a structure per block, the queue of waiting commands (first in, first out), and two fields of the
model's own: `nowMs`, the milliseconds since power-on, and `freeCount`, which free value is drawn next. -/
structure State where
  stc : Stc
  out : Out
  port : Port
  idx : Idx
  hnd : Hnd
  lot : Lot
  lid : Lid
  tray : TrayUnit
  exp : Exp
  dsp : Dsp
  trc : Trc
  adm : Adm
  lnk : Lnk
  nowMs : Nat
  freeCount : Nat
  pending : List Instr
  deriving DecidableEq, Repr

/-- STC after either reset but for the clock and the plant day (R173), the store at the factory defaults until the load
completes (DESIGN CHOICE, log entry 5). -/
def Stc.fresh (clock : BitVec 32) (day : BitVec 16) (secondAt : Nat) : Stc :=
  { mode := .starting, causes := 0#8, fault := none, settings := defaultSettings, products := defaultProducts,
    transitions := defaultTransitions,
    workingSum := wordSum (storeWords defaultSettings defaultProducts defaultTransitions defaultLanes),
    clock, day, drainAt := none, secondAt, latched := 0#32 }

/-- The outputs after either reset (R24, R90, R178). -/
def Out.fresh : Out := { attention := false, runPermit := false }

/-- The port after either reset (R174). -/
def Port.fresh : Port := { place := none, restartPending := false, lost := 0, delivered := [] }

/-- IDX after either reset (R24). -/
def Idx.fresh : Idx :=
  { posCount := 0, debt := 0, window := [], nextRow := 1, pulses := List.replicate 8 none, unknownRejects := 0,
    lost := 0, untracked := 0 }

/-- HND after either reset (R42). -/
def Hnd.fresh : Hnd :=
  { nextSeq := 0#16, everHeld := false, held := none, inLoss := false, expected := 0#16, rowArrivals := [],
    trayArrivals := [], room := 0, advertised := 0#16, refreshAt := none, missing := 0, stray := 0, dropped := 0,
    resync := 0 }

/-- LOT after either reset (R61). -/
def Lot.fresh : Lot :=
  { table := List.replicate 16 none, openIdx := none, prevClass := none, sanitised := false, pendingCloses := [],
    pendingOpen := false, repeatAt := none, closeCounter := 0#32, discards := 0 }

/-- LID after either reset (R75). -/
def Lid.fresh : Lid :=
  { active := none, standby := none, fails := List.replicate 8 0, tripped := 0#8, applied := 0, splices := 0,
    mismatches := 0, bondFailures := 0 }

/-- TRY after either reset (R90). -/
def TrayUnit.fresh : TrayUnit :=
  { forming := none, formed := [], queue := [], cells := List.replicate 12 none, nextSeq := 1, nextArrival := 1#32,
    lost := 0, unmatched := 0, untracked := 0 }

/-- EXP after either reset (R107). -/
def Exp.fresh : Exp :=
  { probe := .failed, bad := 0, lastValid := none, lastWidth := none, lastReading := none, missAt := none, invalid := 0,
    fallbackSeconds := 0 }

/-- DSP after either reset (R129). -/
def Dsp.fresh : Dsp :=
  { bank0 := List.replicate 32 none, bank1 := List.replicate 32 none, swap := false, slots := List.replicate 4 none,
    nextAsk := 0, release := none, shuttleAt := none, pendingPass := none, grants := 0, noAnswers := 0,
    unmatchedReplies := 0, routes := 0, expiredGrants := 0, releases := 0, unexpectedDone := 0, unnamedTrays := 0 }

/-- TRC after a hard reset (R129). -/
def Trc.fresh : Trc := { entries := [], readCount := 0, writePos := 0, readPos := 0 }

/-- ADM after either reset, the lane uses and capacities at their defaults until the load completes (R149). -/
def Adm.fresh : Adm :=
  { lanes := defaultLanes, manifests := List.replicate 32 none, table := List.replicate 16 none, nextCreation := 1#32,
    nextInbound := 1#32, notes := [], laneSelect := 0, admitted := 0, strays := 0, untracedStrays := 0, missing := 0,
    unclaimed := 0, lapsed := 0, withdrawn := 0, manifestDropped := 0, expiredManifests := 0, unansweredAsks := 0,
    droppedPasses := 0, droppedNotes := 0 }

/-- LNK after either reset (R163). -/
def Lnk.fresh : Lnk :=
  { creditSlot := none, answerQ := [], mainQ := [], onBus := none, failures := 0, waitSince := none,
    peers := List.replicate 30 { mode := none, since := none }, pendingState := none, stateAt := none, badFrames := 0,
    malformed := 0, noUse := 0, transmitted := 0, txFailures := 0 }

/-- The machine right after a hard reset (R173): every block at its values after reset, the clock and the plant day 0,
the trace ring empty, the mode STARTING. -/
def State.reset : State :=
  { stc := Stc.fresh 0#32 0#16 1000, out := Out.fresh, port := Port.fresh, idx := Idx.fresh, hnd := Hnd.fresh,
    lot := Lot.fresh, lid := Lid.fresh, tray := TrayUnit.fresh, exp := Exp.fresh, dsp := Dsp.fresh, trc := Trc.fresh,
    adm := Adm.fresh, lnk := Lnk.fresh, nowMs := 0, freeCount := 0, pending := [] }

end Sys2Proof.Machine
end

