-- ==== Sys2Proof/Machine/Operands.lean ====
section
/-! DEFINITION. Machine/Operands.lean: how a command's operands and a frame's fields are read (R179, R180), and the
settings in force by name (R181). -/

namespace Sys2Proof.Machine

/-! ### The settings in force -/

/-- The value in force of setting `n` (R165). -/
def State.setting (s : State) (n : Nat) : Int := s.stc.settings.getD (n - 1) 0

/-- The value in force of an unsigned setting. -/
def State.num (s : State) (n : Nat) : Nat := (s.setting n).toNat

/-- The station's role (setting 1). -/
def State.role (s : State) : Role := (Role.ofCode (s.num 1)).getD .filler

/-- The station mode (R164 to R171). -/
def State.mode (s : State) : Mode := s.stc.mode

/-- The station's own number (setting 2). -/
def State.own (s : State) : Nat := s.num 2

/-- The notice mask (setting 3, R178). -/
def State.noticeMask (s : State) : BitVec 32 := BitVec.ofInt 32 (s.setting 3)

/-- The drain timeout in ms (setting 4, R169). -/
def State.drainMs (s : State) : Nat := s.num 4 * 1000

/-- The sanitise-clears setting (R170). -/
def State.sanitiseClears (s : State) : Bool := s.num 5 = 1

/-- The window length L (R1). -/
def State.windowLength (s : State) : Nat := s.num 6

/-- The counts per index C (R1). -/
def State.countsPerIndex (s : State) : Nat := s.num 7

/-- The lane count N (R1). -/
def State.laneCount (s : State) : Nat := s.num 8

/-- The lid position (R1). -/
def State.lidPos (s : State) : Nat := s.num 9

/-- The bond position (R1). -/
def State.bondPos (s : State) : Nat := s.num 10

/-- The gate position (R1). -/
def State.gatePos (s : State) : Nat := s.num 11

/-- The upstream neighbour, 0 for none (R25). -/
def State.upstream (s : State) : Nat := s.num 12

/-- The downstream neighbour, 0 for none (R25). -/
def State.downstream (s : State) : Nat := s.num 13

/-- The credit refresh period in ms (R25). -/
def State.refreshMs (s : State) : Nat := s.num 14

/-- The credit expiry in ms (R25). -/
def State.creditExpiryMs (s : State) : Nat := s.num 15

/-- The transit limit in ms (R25). -/
def State.transitMs (s : State) : Nat := s.num 16 * 1000

/-- The lot source low setting (R54). -/
def State.lotSourceLow (s : State) : Nat := s.num 17

/-- The lot source high setting (R54). -/
def State.lotSourceHigh (s : State) : Nat := s.num 18

/-- Rows per tray (R77). -/
def State.rowsPerTray (s : State) : Nat := s.num 19

/-- The tray close time in ms (R77). -/
def State.closeMs (s : State) : Nat := s.num 20 * 1000

/-- The probe zero width W0 (R91). -/
def State.probeZero (s : State) : Int := s.setting 21

/-- The probe gain G (R91). -/
def State.probeGain (s : State) : Int := s.setting 22

/-- The fallback temperature (R91). -/
def State.fallback (s : State) : Int := s.setting 23

/-- The transfer seconds S (R91). -/
def State.transferSeconds (s : State) : Nat := s.num 24

/-- The stock chamber (R108). -/
def State.stockChamber (s : State) : Nat := s.num 25

/-- The quarantine chamber (R108). -/
def State.quarantineChamber (s : State) : Nat := s.num 26

/-- The repeat interval in ms (R108). -/
def State.repeatMs (s : State) : Nat := s.num 27

/-- The answer timeout in ms (R108). -/
def State.answerMs (s : State) : Nat := s.num 28

/-- The attempt limit (R108). -/
def State.attemptLimit (s : State) : Nat := s.num 29

/-- The grant lifetime in ms (R108). -/
def State.grantMs (s : State) : Nat := s.num 30 * 1000

/-- The release mode is SKIP, and not ARRIVAL (R108). -/
def State.skipMode (s : State) : Bool := s.num 31 = 1

/-- The claim window in ms (R130). -/
def State.claimMs (s : State) : Nat := s.num 32 * 1000

/-- The arrival window in ms (R130). -/
def State.arrivalMs (s : State) : Nat := s.num 33 * 1000

/-- The manifest lifetime in ms (R130). -/
def State.manifestMs (s : State) : Nat := s.num 34 * 1000

/-! ### Reading payload fields (R179) -/

/-- An id of 0 means absent. -/
def optId (n : Nat) : Option Nat := if n = 0 then none else some n

/-- A tray id is one byte of origin and 3 bytes of sequence, of which the low 20 bits are read. -/
def readTrayId (w : BitVec 32) : TrayId := { origin := w.toNat / 16777216, seq := w.toNat % 1048576 }

/-- A tray id as sent. -/
def writeTrayId (t : TrayId) : BitVec 32 := BitVec.ofNat 32 (t.origin * 16777216 + t.seq)

/-- A pot entry: bit 15 present, bit 14 lidded, bits 8 to 0 the reasons; bits 13 to 9 are ignored. -/
def readPot (w : BitVec 16) : Option Pot :=
  if w.getLsbD 15 then some { lidded := w.getLsbD 14, reasons := w.setWidth 9 } else none

/-- A pot entry as sent. What a receiver ignores, bits 13 to 9 and the rest of an empty entry, is sent as 0. DESIGN CHOICE
(log entry 43). -/
def writePot : Option Pot → BitVec 16
  | none => 0#16
  | some p => BitVec.ofNat 16 (32768 + (if p.lidded then 16384 else 0) + p.reasons.toNat)

/-- The announced row of a ROW-PASS. -/
def readRowPass (p : RowPassFields) : RowBody :=
  { lot := optId p.lot.toNat, exposure := p.exposure.toNat, purge := p.flags.getLsbD 0, uncertain := p.flags.getLsbD 1,
    pots := (List.range 8).map (fun k => readPot (p.pots.getD k 0#16)), urgency := none }

/-- The flags byte of a row: bit 0 purge, bit 1 uncertain. -/
def rowFlags (b : RowBody) : Nat := (if b.purge then 1 else 0) + (if b.uncertain then 2 else 0)

/-- The ROW-PASS carrying a row less its local row number (R10, R26). -/
def writeRowPass (seq : BitVec 16) (b : RowBody) : RowPassFields :=
  { seq, lot := BitVec.ofNat 24 (b.lot.getD 0), exposure := BitVec.ofNat 24 b.exposure,
    flags := BitVec.ofNat 8 (rowFlags b), pots := (List.range 8).map (fun k => writePot (slotAt b.pots k)) }

/-- The urgency bits 3-2 of the tray flags byte. -/
def flagsUrgency (flags : BitVec 8) : Urgency := Urgency.ofCode (flags.toNat / 4 % 4)

/-- A product code carried with its presence bit: absent where the bit is clear or the code is 0. -/
def carriedProduct (flags : BitVec 8) (code : BitVec 16) : Option Nat :=
  if flags.getLsbD 4 then optId code.toNat else none

/-- A use-by day carried with the same presence bit. -/
def carriedUseBy (flags : BitVec 8) (day : BitVec 16) : Option Nat :=
  if flags.getLsbD 4 then some day.toNat else none

/-- The announced tray of a TRAY-PASS, its dispatch fields at their initial values (R76). Rows and pot count are held
as carried. DEDUCED (log entry 20): no rule checks them. -/
def readTrayPass (p : TrayPassFields) : Tray :=
  { id := readTrayId p.trayId, lot := optId p.lot.toNat, product := carriedProduct p.flags p.product,
    useBy := carriedUseBy p.flags p.useBy, rows := p.rows.toNat, pots := p.pots.toNat, short := p.flags.getLsbD 0,
    exposure := p.exposure.toNat, urgency := flagsUrgency p.flags, quarantine := p.flags.getLsbD 1, order := none,
    route := none, grant := none, retry := 0, dstate := .unasked, chambers := none }

/-- The tray flags byte: short, quarantine, urgency, product-and-use-by present. -/
def trayFlags (short quarantine : Bool) (u : Urgency) (present : Bool) : Nat :=
  (if short then 1 else 0) + (if quarantine then 2 else 0) + 4 * u.code + (if present then 16 else 0)

/-- The TRAY-PASS carrying a tray record (R26, R76). With its product-and-use-by bit clear
the two fields are sent as 0. DESIGN CHOICE (log entry 43). -/
def writeTrayPass (seq : BitVec 16) (t : Tray) : TrayPassFields :=
  { seq, trayId := writeTrayId t.id, lot := BitVec.ofNat 24 (t.lot.getD 0), product := BitVec.ofNat 16 (t.product.getD 0),
    useBy := BitVec.ofNat 16 (t.useBy.getD 0), rows := BitVec.ofNat 8 t.rows, pots := BitVec.ofNat 8 t.pots,
    flags := BitVec.ofNat 8 (trayFlags t.short t.quarantine t.urgency (t.product.isSome || t.useBy.isSome)),
    exposure := BitVec.ofNat 24 t.exposure }

/-- The MANIFEST of a tray (R117); bit 0 of its flags byte is sent as 0 (R179). With its
product-and-use-by bit clear the two fields are sent as 0. DESIGN CHOICE (log entry 43). -/
def writeManifest (t : Tray) : ManifestFields :=
  { trayId := writeTrayId t.id, lot := BitVec.ofNat 24 (t.lot.getD 0), product := BitVec.ofNat 16 (t.product.getD 0),
    useBy := BitVec.ofNat 16 (t.useBy.getD 0), order := BitVec.ofNat 16 (t.order.getD 0),
    exposure := BitVec.ofNat 24 t.exposure,
    flags := BitVec.ofNat 8 (trayFlags false t.quarantine t.urgency (t.product.isSome || t.useBy.isSome)) }

/-- The LOT-OPEN of a lot (R53). -/
def writeLotOpen (r : LotRec) : LotOpenFields :=
  { lot := BitVec.ofNat 24 r.id, product := BitVec.ofNat 16 r.product, flavour := BitVec.ofNat 8 r.flavour,
    cls := BitVec.ofNat 8 r.cls, tank := BitVec.ofNat 8 r.tank, useBy := BitVec.ofNat 16 r.useBy,
    allowance := BitVec.ofNat 24 r.allowance, tref := BitVec.ofNat 8 r.tref, tk := BitVec.ofNat 16 r.tk }

/-- Every field of a LOT-OPEN lies within its range, the knee at or above the reference, the lot id not 0 (R54). -/
def lotOpenInRange (p : LotOpenFields) : Bool :=
  p.lot.toNat ≠ 0 && (1 ≤ p.product.toNat && p.product.toNat ≤ 9999) && 1 ≤ p.flavour.toNat && p.cls.toNat ≤ 7 &&
    (1 ≤ p.tank.toNat && p.tank.toNat ≤ 16) && p.tref.toNat ≤ 150 && (p.tref.toNat ≤ p.tk.toNat && p.tk.toNat ≤ 400)

/-! ### Lanes and pots -/

/-- Lane `k + 1` of a set of inputs, for lanes 1 to `n`; inputs above `n` are not sampled (R1). -/
def sensed (inputs : BitVec 8) (n k : Nat) : Bool := k < n && inputs.getLsbD k

/-- The lanes 1 to `n` sensed, as a list of one Bool per lane 1 to 8. -/
def sensedLanes (inputs : BitVec 8) (n : Nat) : List Bool := (List.range 8).map (sensed inputs n)

/-- How many lanes are sensed. -/
def sensedCount (inputs : BitVec 8) (n : Nat) : Nat := ((sensedLanes inputs n).filter id).length

/-- Adds a reason to a pot's reason set (R6). -/
def Pot.mark (p : Pot) (r : Reason) : Pot := { p with reasons := p.reasons ||| r.mask }

/-- A pot whose reason set is not empty (R6). -/
def Pot.marked (p : Pot) : Bool := p.reasons ≠ 0#9

/-- The reason is in the pot's set. -/
def Pot.has (p : Pot) (r : Reason) : Bool := p.reasons &&& r.mask ≠ 0#9

/-- A new pot with a clear lidded flag and the reasons given. -/
def Pot.fresh (reasons : BitVec 9) : Pot := { lidded := false, reasons }

/-- Adds a reason to every present pot of a row. -/
def RowBody.markAll (b : RowBody) (r : Reason) : RowBody :=
  { b with pots := b.pots.map (fun o => o.map (fun p => p.mark r)) }

/-- The number of present pots. -/
def RowBody.potCount (b : RowBody) : Nat := heldCount b.pots

/-- The row holds at least one pot. -/
def RowBody.hasPots (b : RowBody) : Bool := b.pots.any Option.isSome

/-- A row standing at window position `p` (R5). -/
def State.rowAt (s : State) (p : Nat) : Option Row := slotAt s.idx.window p

/-- A tray in the cell of index `i` (cell number `i + 1`). -/
def State.cellAt (s : State) (i : Nat) : Option Cell := slotAt s.tray.cells i

/-- The request slot of index `i` (slot number `i + 1`), none when IDLE. -/
def State.slot (s : State) (i : Nat) : Option Slot := slotAt s.dsp.slots i

end Sys2Proof.Machine
end

