-- ==== Sys2Proof/Machine/Formats.lean ====
section
/-! DEFINITION. Machine/Formats.lean: the byte layouts of link frames (R150, R151, R179) and the pieces port records are
laid out from (R180). -/

namespace Sys2Proof.Machine

/-! ### Bytes -/

/-- `n` in `k` bytes, most significant byte first; a value too wide keeps its low bytes. -/
def beBytes : Nat → Nat → List Byte
  | 0, _ => []
  | k + 1, n => BitVec.ofNat 8 (n / 256 ^ k) :: beBytes k n

/-- One byte. -/
def byte (n : Nat) : List Byte := beBytes 1 n

/-- A Bool as one byte, 1 or 0. -/
def boolByte (b : Bool) : List Byte := byte (if b then 1 else 0)

/-- An optional id whose absence is 0 (R180). -/
def idBytes (k : Nat) (o : Option Nat) : List Byte := beBytes k (o.getD 0)

/-- An optional field preceded by a presence byte; an absent one is followed by zeros. DEDUCED (log entry 12). -/
def presentBytes (k : Nat) (o : Option Nat) : List Byte := boolByte o.isSome ++ beBytes k (o.getD 0)

/-- The sum of a list of bytes modulo 256. -/
def byteSum (bs : List Byte) : Byte := bs.foldl (· + ·) 0#8

/-- The check byte brings the sum of every byte of the record to 0 modulo 256 (R180). -/
def withCheck (bs : List Byte) : List Byte := bs ++ [0#8 - byteSum bs]

/-- A big-endian number. -/
def beNat (bs : List Byte) : Nat := bs.foldl (fun n b => n * 256 + b.toNat) 0

/-! ### Frame kinds (R151) -/

/-- The code of a kind. -/
def FrameKind.code : FrameKind → Nat
  | .credit => 1 | .admitReply => 2 | .rowPass => 3 | .trayPass => 4 | .manifest => 5 | .admitAsk => 6 | .lotOpen => 8
  | .lotClose => 9 | .stationState => 12

/-- The kind a code names; none where it is not assigned. -/
def FrameKind.ofCode : Nat → Option FrameKind
  | 1 => some .credit | 2 => some .admitReply | 3 => some .rowPass | 4 => some .trayPass | 5 => some .manifest
  | 6 => some .admitAsk | 8 => some .lotOpen | 9 => some .lotClose | 12 => some .stationState | _ => none

/-- The priority class of a kind. -/
def FrameKind.cls : FrameKind → Nat
  | .credit | .admitReply => 0
  | .rowPass | .trayPass | .manifest => 1
  | .admitAsk | .lotOpen | .lotClose => 2
  | .stationState => 3

/-- A kind of broadcast form goes to station 0; the others are directed. -/
def FrameKind.broadcast : FrameKind → Bool
  | .lotOpen | .lotClose | .stationState => true
  | _ => false

/-- The payload length of a kind in bytes (R179). -/
def FrameKind.length : FrameKind → Nat
  | .credit => 3 | .admitReply => 6 | .rowPass => 25 | .trayPass => 19 | .manifest => 17 | .admitAsk => 4 | .lotOpen => 16
  | .lotClose => 3 | .stationState => 2

/-- The transmit place of a kind. -/
def FrameKind.place : FrameKind → TxPlace
  | .credit => .creditSlot | .admitReply => .answerQueue | _ => .mainQueue

/-- The kinds each role has a use for (R155). -/
def Role.uses : Role → FrameKind → Bool
  | .filler, k => k = .credit || k = .stationState
  | .lidder, k | .trayer, k => k = .rowPass || k = .credit || k = .lotOpen || k = .lotClose || k = .stationState
  | .chill, k => k = .trayPass || k = .credit || k = .lotOpen || k = .lotClose || k = .stationState
  | .dispatch, k => k = .trayPass || k = .admitReply || k = .lotOpen || k = .lotClose || k = .stationState
  | .chamber, k => k = .manifest || k = .admitAsk || k = .trayPass || k = .stationState

/-- The kind of a payload. -/
def payloadKind : Payload → FrameKind
  | .credit _ _ => .credit
  | .admitReply _ _ _ => .admitReply
  | .rowPass _ => .rowPass
  | .trayPass _ => .trayPass
  | .manifest _ => .manifest
  | .admitAsk _ => .admitAsk
  | .lotOpen _ => .lotOpen
  | .lotClose _ => .lotClose
  | .stationState _ _ => .stationState

/-- The bytes of a payload, fields in the order R179 lists them. -/
def payloadBytes : Payload → List Byte
  | .credit limit room => beBytes 2 limit.toNat ++ byte room.toNat
  | .admitReply t answer lane => beBytes 4 t.toNat ++ byte answer.toNat ++ byte lane.toNat
  | .rowPass p =>
    beBytes 2 p.seq.toNat ++ beBytes 3 p.lot.toNat ++ beBytes 3 p.exposure.toNat ++ byte p.flags.toNat ++
      p.pots.flatMap (fun w => beBytes 2 w.toNat)
  | .trayPass p =>
    beBytes 2 p.seq.toNat ++ beBytes 4 p.trayId.toNat ++ beBytes 3 p.lot.toNat ++ beBytes 2 p.product.toNat ++
      beBytes 2 p.useBy.toNat ++ byte p.rows.toNat ++ byte p.pots.toNat ++ byte p.flags.toNat ++
      beBytes 3 p.exposure.toNat
  | .manifest p =>
    beBytes 4 p.trayId.toNat ++ beBytes 3 p.lot.toNat ++ beBytes 2 p.product.toNat ++ beBytes 2 p.useBy.toNat ++
      beBytes 2 p.order.toNat ++ beBytes 3 p.exposure.toNat ++ byte p.flags.toNat
  | .admitAsk t => beBytes 4 t.toNat
  | .lotOpen p =>
    beBytes 3 p.lot.toNat ++ beBytes 2 p.product.toNat ++ byte p.flavour.toNat ++ byte p.cls.toNat ++
      byte p.tank.toNat ++ beBytes 2 p.useBy.toNat ++ beBytes 3 p.allowance.toNat ++ byte p.tref.toNat ++
      beBytes 2 p.tk.toNat
  | .lotClose lot => beBytes 3 lot.toNat
  | .stationState role mode => byte role.toNat ++ byte mode.toNat

/-! ### Heads, CRC and whole frames (R150, R179) -/

/-- The head of a frame: class, kind code, source, target, payload length. -/
structure Head where
  cls : Nat
  kind : Nat
  source : Nat
  target : Nat
  length : Nat
  deriving DecidableEq, Repr

/-- The 3 head bytes; bits 7 and 6 of the third are sent as 0. -/
def headBytes (h : Head) : List Byte :=
  beBytes 3 (h.cls * 4194304 + h.kind * 262144 + h.source * 8192 + h.target * 256 + h.length)

/-- The head read from 3 bytes; bits 7 and 6 of the third are ignored. -/
def readHead (bs : List Byte) : Head :=
  let n := beNat (bs.take 3)
  { cls := n / 4194304 % 4, kind := n / 262144 % 16, source := n / 8192 % 32, target := n / 256 % 32, length := n % 64 }

/-- One bit of the CRC with polynomial 0x1021, not reflected. -/
def crcBit (crc : BitVec 16) : BitVec 16 :=
  if crc.getLsbD 15 then (crc <<< 1) ^^^ 0x1021#16 else crc <<< 1

/-- Eight bits of the CRC. -/
def crcByte (crc : BitVec 16) (b : Byte) : BitVec 16 :=
  crcBit (crcBit (crcBit (crcBit (crcBit (crcBit (crcBit (crcBit (crc ^^^ (b.setWidth 16 <<< 8)))))))))

/-- The CRC over head and payload, starting from 0xFFFF. -/
def crc16 (bs : List Byte) : BitVec 16 := bs.foldl crcByte 0xFFFF#16

/-- A frame as sent by station `source`: head, payload and CRC, high byte first. LNK fills in the source, the class and
the length (R150). -/
def frameBytes (source : Nat) (f : Frame) : List Byte :=
  let k := payloadKind f.payload
  let body := headBytes { cls := k.cls, kind := k.code, source, target := f.target, length := k.length } ++
    payloadBytes f.payload
  body ++ beBytes 2 (crc16 body).toNat

/-- What R153 makes of a received frame. -/
inductive FrameVerdict where
  | bad | malformed | notForUs | good (k : FrameKind)
  deriving DecidableEq, Repr

/-- The source lies in 1 to 30 and the target in 0 to 30 (R153). -/
def stationsInRange (source target : Nat) : Bool := 1 ≤ source && source ≤ 30 && target ≤ 30

/-- The frame has the kind's form: directed kinds are directed, broadcast kinds are broadcast (R153). -/
def formOk (k : FrameKind) (target : Nat) : Bool := k.broadcast = (target = 0)

/-- The checks of R153 after the CRC check, on a head whose kind code, class and length are as received. -/
def headVerdict (own : Nat) (h : Head) : FrameVerdict :=
  if !stationsInRange h.source h.target then .malformed
  else if h.target ≠ 0 && h.target ≠ own then .notForUs
  else
    match FrameKind.ofCode h.kind with
    | none => .malformed
    | some k =>
      if h.cls ≠ k.cls || h.length ≠ k.length then .malformed
      else if !formOk k h.target then .malformed
      else .good k

/-- The CRC is good, the payload length is at most 40, and the frame ended where its length said (R153). -/
def frameSound (endedRight : Bool) (bytes : List Byte) : Bool :=
  let len := (readHead bytes).length
  endedRight && len ≤ 40 && bytes.length = len + 5 &&
    beNat (bytes.drop (len + 3)) = (crc16 (bytes.take (len + 3))).toNat

/-- The whole check of R153 on a received frame, byte by byte. -/
def frameVerdict (own : Nat) (endedRight : Bool) (bytes : List Byte) : FrameVerdict :=
  if frameSound endedRight bytes then headVerdict own (readHead bytes) else .bad

/-! ### Pieces of port records (R180) -/

/-- A temperature, 2 bytes signed; a value that does not fit is an open value (R180, log entry 11). -/
def temperatureBytes (t : Int) : List Byte :=
  beBytes 2 (if -32768 ≤ t ∧ t ≤ 32767 then BitVec.ofInt 16 t else Config.wideTemperature t).toNat

/-- A count, 4 bytes. -/
def countBytes (n : Nat) : List Byte := beBytes 4 n

/-- A clock value, 4 bytes. -/
def clockBytes (c : BitVec 32) : List Byte := beBytes 4 c.toNat

/-- A tray id, 4 bytes. -/
def trayIdBytes (t : TrayId) : List Byte := beBytes 4 (writeTrayId t).toNat

/-- An age in milliseconds, 2 bytes, saturating at 65535 (R41, R160). -/
def ageBytes (now since : Nat) : List Byte := beBytes 2 (min 65535 (now - since))

/-- A response record as shifted out: tag, command code, status, data length, data, check (R174, R180). -/
def responseBytes (tag code : BitVec 8) (status : Status) (data : List Byte) : List Byte :=
  withCheck ([tag, code] ++ byte status.code ++ beBytes 2 data.length ++ data)

end Sys2Proof.Machine
end

