-- ==== Sys2Proof/Machine/Flags.lean ====
section
/-! DEFINITION. Machine/Flags.lean: the flag sets of Station Control: the latched notices with the attention line
(R177, R178) and the cause set as a set (R167). What a cause does to the mode is in ModeOps.lean. -/

namespace Sys2Proof.Machine

/-- The attention line as R178 has it: asserted while at least one latched notice is not masked. -/
def attentionOf (latched mask : BitVec 32) : Bool := latched &&& ~~~mask ≠ 0#32

/-- STC works the attention line out again (R178). -/
def updateAttention (s : State) : State :=
  { s with out := { s.out with attention := attentionOf s.stc.latched s.noticeMask } }

/-- Latches a notice: already latched, the set is unchanged (R177); the line is worked out again (R178). -/
def latch (n : Notice) (s : State) : State :=
  updateAttention { s with stc := { s.stc with latched := s.stc.latched ||| n.mask } }

/-- A notice is in the latched set. -/
def State.latchedNotice (s : State) (n : Notice) : Bool := s.stc.latched.getLsbD n.bit

/-- A cause is in the cause set (R167). -/
def State.hasCause (s : State) (c : Cause) : Bool := s.stc.causes &&& c.mask ≠ 0#8

/-- Adds a cause to the set, whatever it does to the mode. -/
def putCause (c : Cause) (s : State) : State := { s with stc := { s.stc with causes := s.stc.causes ||| c.mask } }

/-- Removes a cause from the set, whatever it does to the mode. -/
def dropCause (c : Cause) (s : State) : State :=
  { s with stc := { s.stc with causes := s.stc.causes &&& ~~~c.mask } }

end Sys2Proof.Machine
end

