-- ==== Sys2Proof/Machine/Ops.lean ====
section
/-! DEFINITION. Machine/Ops.lean: the operations many commands share: elapsed time, the three transmit places of LNK
(R156), STATION-STATE (R159), and writing the trace ring (R126). -/

namespace Sys2Proof.Machine

/-! ### Time -/

/-- Taking a timer's run-out brings the elapsed time to at least the timer's deadline. DESIGN CHOICE (log entry 3). -/
def timeTo (deadline : Nat) (s : State) : State := { s with nowMs := max s.nowMs deadline }

/-! ### The transmit side (R156) -/

/-- The capacity of the main queue. -/
def mainCapacity : Nat := 16

/-- The capacity of the answer queue. -/
def answerCapacity : Nat := 8

/-- The main queue has room for `n` frames. -/
def mainHasRoom (s : State) (n : Nat) : Bool := s.lnk.mainQ.length + n ≤ mainCapacity

/-- A frame joins the main queue as the newest; a full queue takes none. -/
def pushMain (f : Frame) (s : State) : State :=
  if mainHasRoom s 1 then { s with lnk.mainQ := s.lnk.mainQ ++ [f] } else s

/-- A frame joins the answer queue as the newest; a full queue takes none. -/
def pushAnswer (f : Frame) (s : State) : State :=
  if s.lnk.answerQ.length < answerCapacity then { s with lnk.answerQ := s.lnk.answerQ ++ [f] } else s

/-- A frame of a payload to a target, with no serial. -/
def frameTo (target : Nat) (p : Payload) : Frame := { target, payload := p, serial := 0 }

/-- The frame is a STATION-STATE. -/
def Frame.isState (f : Frame) : Bool := payloadKind f.payload = .stationState

/-- A newer frame has replaced the one on the bus in its place (R157). -/
def noteReplaced (onBus : Option BusOffer) (isIt : BusOffer → Bool) : Option BusOffer :=
  onBus.map (fun o => if isIt o then { o with replaced := true } else o)

/-- Places a CREDIT in the credit slot, replacing any CREDIT still waiting there (R38, R156, R157). -/
def placeInCreditSlot (f : Frame) (s : State) : State :=
  { s with lnk.creditSlot := some f, lnk.onBus := noteReplaced s.lnk.onBus (fun o => o.place = .creditSlot) }

/-- The STATION-STATE of the station's role and mode as they stand (R159). -/
def stateFrame (s : State) : Frame :=
  frameTo 0 (.stationState (BitVec.ofNat 8 s.role.code) (BitVec.ofNat 8 s.mode.code))

/-- A STATION-STATE that falls due: it replaces one still waiting in the main queue, or joins the queue, or is held
pending where the queue is full; the 1 s period restarts at each placement (R156, R157, R159). -/
def placeState (f : Frame) (s : State) : State :=
  if s.lnk.mainQ.any Frame.isState then
    { s with
      lnk.mainQ := s.lnk.mainQ.map (fun g => if g.isState then f else g)
      lnk.onBus := noteReplaced s.lnk.onBus (fun o => o.place = .mainQueue && o.frame.isState)
      lnk.pendingState := none
      lnk.stateAt := some (s.nowMs + 1000) }
  else if mainHasRoom s 1 then
    { s with
      lnk.mainQ := s.lnk.mainQ ++ [f]
      lnk.pendingState := none
      lnk.stateAt := some (s.nowMs + 1000) }
  else { s with lnk.pendingState := some f }

/-! ### The trace ring (R126) -/

/-- The size of the ring. -/
def ringSize : Nat := 128

/-- The free count (R126). -/
def traceFree (s : State) : Nat := ringSize - s.trc.entries.length

/-- Latches HALF or FULL where the number of held entries has just become 64 or 128. -/
def latchRing (s : State) : State :=
  if s.trc.entries.length = 64 then latch .half s
  else if s.trc.entries.length = ringSize then latch .full s
  else s

/-- Writes an entry as the newest held entry, unread. A write is made only into a free entry (R126, R146). -/
def writeTrace (e : TraceEntry) (s : State) : State :=
  if s.trc.entries.length < ringSize then
    latchRing { s with trc.entries := s.trc.entries ++ [e], trc.writePos := (s.trc.writePos + 1) % ringSize }
  else s

end Sys2Proof.Machine
end

