-- ==== Sys2Proof/Machine/LotOps.lean ====
section
/-! DEFINITION. Machine/LotOps.lean: the shared operations of the Lot Unit: looking a lot up, references and lot states
(R47, R48), finding a place (R46), closing and announcing (R51 to R53). -/

namespace Sys2Proof.Machine

/-- The record of a lot id in a lot table, in any state (R45). -/
def findLotIn (t : List (Option LotRec)) (id : Nat) : Option LotRec :=
  (t.find? (fun e => e.any (fun r => r.id = id))).join

/-- The record of a lot id, in any state. -/
def findLot (s : State) (id : Nat) : Option LotRec := findLotIn s.lot.table id

/-- The lot record a row, entry or tray names, where its lot is present and held. -/
def lotOf (s : State) (o : Option Nat) : Option LotRec := o.bind (findLot s)

/-- Changes the record of a lot id. -/
def updateLot (id : Nat) (f : LotRec → LotRec) (s : State) : State :=
  { s with lot.table := s.lot.table.map (fun e => e.map (fun r => if r.id = id then f r else r)) }

/-- Changes the record a row, entry or tray names; a record of absent lot names none. -/
def updateNamed (o : Option Nat) (f : LotRec → LotRec) (s : State) : State :=
  match o with
  | none => s
  | some id => updateLot id f s

/-- One more record names the lot; a RETIRED lot becomes CLOSED again (R47, R48). -/
def LotRec.arrive (r : LotRec) : LotRec :=
  { r with refs := r.refs + 1, state := if r.refs = 0 && r.state = .retired then .closed else r.state }

/-- One record fewer names the lot; a CLOSED lot whose count falls to 0 becomes RETIRED (R47, R48). -/
def LotRec.depart (r : LotRec) : LotRec :=
  { r with refs := r.refs - 1, state := if r.refs ≤ 1 && r.state = .closed then .retired else r.state }

/-- A record naming the lot has arrived at the station (R47). -/
def lotArrive (o : Option Nat) (s : State) : State := updateNamed o LotRec.arrive s

/-- A record naming the lot has left the station (R47). -/
def lotDepart (o : Option Nat) (s : State) : State := updateNamed o LotRec.depart s

/-- An OPEN lot becomes CLOSED with its close order and time stamped, then RETIRED if nothing names it (R48). -/
def LotRec.close (r : LotRec) (order clock : BitVec 32) : LotRec :=
  { r with
    state := if r.refs = 0 then .retired else .closed
    closeOrder := order
    closeTime := some clock }

/-- Closes the lot at entry `i` if it is OPEN (R48). The record takes the counter as it stands, which then increases by 1.
DEDUCED (log entry 13). -/
def closeEntry (i : Nat) (s : State) : State :=
  match slotAt s.lot.table i with
  | none => s
  | some r =>
    if r.state = .opened then
      { s with
        lot.table := s.lot.table.set i (some (r.close s.lot.closeCounter s.stc.clock))
        lot.closeCounter := s.lot.closeCounter + 1#32 }
    else s

/-- The RETIRED entry with the smallest close order (R46). -/
def oldestRetired (t : List (Option LotRec)) : Option Nat :=
  (List.range t.length).foldl
    (fun best i =>
      match slotAt t i with
      | none => best
      | some r =>
        if r.state = .retired then
          match best.bind (slotAt t) with
          | none => some i
          | some b => if orderBefore r.closeOrder b.closeOrder then some i else best
        else best)
    none

/-- The place of a new lot record: the lowest free entry, otherwise the RETIRED entry with the smallest close order,
otherwise none (R46). -/
def findPlace (t : List (Option LotRec)) : Option Nat :=
  match lowestFree t with
  | some i => some i
  | none => oldestRetired t

/-- A LOT-CLOSE falls due: queued in the main queue, or held pending, where it keeps its place behind a LOT-CLOSE that is
already pending (R53). -/
def announceClose (id : Nat) (s : State) : State :=
  if s.lot.pendingCloses.isEmpty && mainHasRoom s 1 then pushMain (frameTo 0 (.lotClose (BitVec.ofNat 24 id))) s
  else { s with lot.pendingCloses := s.lot.pendingCloses ++ [id] }

/-- The open lot's record (R49). -/
def openLotRec (s : State) : Option LotRec := s.lot.openIdx.bind (slotAt s.lot.table)

/-- A LOT-OPEN of the open lot falls due: queued with the lot's fields as they stand, its repetition running from then;
or held pending, where it stays behind a pending LOT-CLOSE (R53). -/
def announceOpen (s : State) : State :=
  match openLotRec s with
  | none => s
  | some r =>
    if s.lot.pendingCloses.isEmpty && mainHasRoom s 1 then
      let t := pushMain (frameTo 0 (.lotOpen (writeLotOpen r))) s
      { t with lot.pendingOpen := false, lot.repeatAt := some (s.nowMs + 5000) }
    else { s with lot.pendingOpen := true, lot.repeatAt := none }

/-- The open lot, if there is one, becomes CLOSED; a pending LOT-OPEN is cancelled, its repetition stops, and its
LOT-CLOSE is queued or made pending (R51, R52, R53, R59). -/
def closeOpenLot (s : State) : State :=
  match s.lot.openIdx with
  | none => s
  | some i =>
    let id := ((slotAt s.lot.table i).map LotRec.id).getD 0
    let t := closeEntry i s
    announceClose id { t with lot.openIdx := none, lot.pendingOpen := false, lot.repeatAt := none }

end Sys2Proof.Machine
end

