-- ==== Sys2Proof/Machine/ExposureOps.lean ====
section
/-! DEFINITION. Machine/ExposureOps.lean: the arithmetic of the Exposure Unit: the conversion of a reading (R93), the
zone temperature (R95), the increment (R96), accrual (R98), urgency (R99, R100), SPENT marking (R101, R102) and the
projection (R103). -/

namespace Sys2Proof.Machine

/-- (W - W0) × G / 256 rounded to the nearest integer, halves away from zero (R93). -/
def convertReading (w w0 g : Int) : Int :=
  let x := (w - w0) * g
  let m := (2 * x.natAbs + 256) / 512
  if x < 0 then -(m : Int) else (m : Int)

/-- A T10 in -300 to 900 is valid (R93). -/
def validT10 (t : Int) : Bool := -300 ≤ t && t ≤ 900

/-- The zone temperature in use (R95). -/
def zoneTemperature (s : State) : Int :=
  match s.exp.probe with
  | .ok | .degraded => s.exp.lastValid.getD s.fallback
  | .failed => s.fallback

/-- The increment in EU per second for a lot's reference and knee at a zone temperature (R96). -/
def increment (tref tk : Nat) (t10 : Int) : Nat :=
  let knee := if tk < tref then tref else tk
  let e := (t10 - tref).toNat
  let e1 := min e (knee - tref)
  let e2 := (t10 - knee).toNat
  e1 + 2 * e2

/-- The increment of a lot at the zone temperature in use. -/
def lotIncrement (s : State) (r : LotRec) : Nat := increment r.tref r.tk (zoneTemperature s)

/-- Exposure saturates at 16,777,215 (R98). -/
def accrue (exposure inc : Nat) : Nat := min exposureMax (exposure + inc)

/-- The margin of R99. -/
def margin (allowance exposure : Nat) : Nat := allowance - exposure

/-- The urgency class of R99. -/
def classOf (allowance exposure : Nat) : Urgency :=
  let m := margin allowance exposure
  if m = 0 then .spent
  else if m ≤ allowance / 8 then .red
  else if m ≤ allowance / 2 then .amber
  else .green

/-- Classes a row (R100): a row of absent lot has no class. A row classed SPENT that has not passed the gate has SPENT
added to every present pot (R101). -/
def classifyRow (lot : Option LotRec) (beforeGate : Bool) (b : RowBody) : RowBody :=
  match lot with
  | none => { b with urgency := none }
  | some r =>
    let u := classOf r.allowance b.exposure
    let c := { b with urgency := some u }
    if u = .spent && beforeGate then c.markAll .spent else c

/-- Classes a tray that names a lot; a SPENT tray has its quarantine flag set (R100, R102). A tray of absent lot keeps its
class. -/
def classifyTray (lot : Option LotRec) (t : Tray) : Tray :=
  match lot with
  | none => t
  | some r =>
    let u := classOf r.allowance t.exposure
    { t with urgency := u, quarantine := t.quarantine || u = .spent }

/-- One second's accrual and classing of a row; a record of absent lot is not accrued (R97, R98, R100). -/
def accrueRow (s : State) (beforeGate : Bool) (b : RowBody) : RowBody :=
  match lotOf s b.lot with
  | none => b
  | some r => classifyRow (some r) beforeGate { b with exposure := accrue b.exposure (lotIncrement s r) }

/-- One second's accrual and classing of a tray (R97, R98, R100). -/
def accrueTray (s : State) (t : Tray) : Tray :=
  match lotOf s t.lot with
  | none => t
  | some r => classifyTray (some r) { t with exposure := accrue t.exposure (lotIncrement s r) }

/-- The tray is projected spent (R103); a tray of absent lot is not projected. -/
def projectedSpent (s : State) (t : Tray) : Bool :=
  match lotOf s t.lot with
  | none => false
  | some r => r.allowance ≤ min exposureMax (t.exposure + lotIncrement s r * s.transferSeconds)

end Sys2Proof.Machine
end

