-- ==== Sys2Proof/Machine/FlowOps.lean ====
section
/-! DEFINITION. Machine/FlowOps.lean: the sending rule (R27), room (R37), the advertised limit and CREDIT (R38), and the
run permits (R19, R84, R86). -/

namespace Sys2Proof.Machine

/-- The sending rule admits the next sequence (R27). -/
def admitsNext (s : State) : Bool :=
  match s.hnd.held with
  | none => false
  | some h => 1 ≤ (h.limit - s.hnd.nextSeq).toNat && (h.limit - s.hnd.nextSeq).toNat ≤ 32767

/-- A pass may be queued now: the sending rule admits the next sequence and the main queue has room (R26). -/
def maySend (s : State) : Bool := admitsNext s && mainHasRoom s 1

/-- A station with downstream neighbour 0 holds no credit at any time (R25). -/
def dropCredit (s : State) : State := if s.downstream = 0 then { s with hnd.held := none } else s

/-- CREDIT frames go out targeted at the upstream neighbour, and with upstream neighbour 0 none goes out (R25): a CREDIT that
waits when the neighbour changes leaves the slot, or takes the new neighbour as its target. DESIGN CHOICE (log entry 38). -/
def aimCredit (s : State) : State :=
  match s.lnk.creditSlot with
  | none => s
  | some f =>
    if s.upstream = 0 then { s with lnk.creditSlot := none }
    else if f.target = s.upstream then s
    else placeInCreditSlot { f with target := s.upstream } s

/-- The number of entries in the arrivals list of the role (R30). -/
def arrivalsCount (s : State) : Nat :=
  match s.role with
  | .lidder | .trayer => s.hnd.rowArrivals.length
  | .chill | .dispatch => s.hnd.trayArrivals.length
  | _ => 0

/-- The capacity of an arrivals list (R30). -/
def arrivalsCapacity : Nat := 8

/-- The capacity of the formed-tray queue. -/
def formedCapacity : Nat := 16

/-- The capacity of CHILL's tray queue. -/
def queueCapacity : Nat := 48

/-- The number of free cells (R85). -/
def freeCells (s : State) : Nat := s.tray.cells.length - heldCount s.tray.cells

/-- The formed-tray queue is full. -/
def formedFull (s : State) : Bool := formedCapacity ≤ s.tray.formed.length

/-- The room of R37, with a floor of 0. -/
def roomOf (s : State) : Nat :=
  if s.mode = .running then
    let a := arrivalsCount s
    match s.role with
    | .lidder => arrivalsCapacity - a
    | .trayer => if formedFull s then 0 else arrivalsCapacity - a
    | .chill => min (arrivalsCapacity - a) (queueCapacity - s.tray.queue.length - a)
    | .dispatch => min (arrivalsCapacity - a) (freeCells s - a)
    | _ => 0
  else 0

/-- Places a CREDIT carrying the advertised limit and the room; each placement restarts the refresh period. A station
with no upstream neighbour, or no incoming side, places none (R38). A period that runs keeps its deadline when CONFIGURING
writes another refresh period; the next placement takes the new one. DESIGN CHOICE (log entry 33). -/
def placeCredit (s : State) : State :=
  if s.role.hasIncoming && s.upstream ≠ 0 && s.mode ≠ .starting then
    let limit := s.hnd.expected + BitVec.ofNat 16 s.hnd.room
    let t := placeInCreditSlot (frameTo s.upstream (.credit limit (BitVec.ofNat 8 s.hnd.room))) s
    { t with hnd.advertised := limit, hnd.refreshAt := some (s.nowMs + s.refreshMs) }
  else s

/-- The modes in which a run permit may be on (R19, R84, R86). -/
def permitMode (m : Mode) : Bool := m = .running || m = .draining

/-- The row at the exit position may leave now, or there is none to hold the permit off (R19). -/
def exitFree (s : State) : Bool :=
  match s.rowAt (s.windowLength - 1) with
  | none => true
  | some r => !r.body.hasPots || (if s.role = .trayer then !formedFull s else maySend s)

/-- The run-permit output (R19, R84) or infeed permit (R86) as the role has it. -/
def permitOf (s : State) : Bool :=
  permitMode s.mode &&
    match s.role with
    | .filler | .lidder | .trayer => exitFree s
    | .chill => s.tray.queue.isEmpty || maySend s
    | .dispatch => 0 < freeCells s
    | .chamber => false

/-- The run permit is worked out again. -/
def updatePermit (s : State) : State := { s with out.runPermit := permitOf s }

/-- HND recomputes room; where it is greater than the one before, a CREDIT is placed (R37, R38). -/
def updateRoom (s : State) : State :=
  let t := { s with hnd.room := roomOf s }
  if s.hnd.room < roomOf s then placeCredit t else t

/-- After an event that touched what they depend on, room is recomputed once and the run permit worked out again (R19, R37,
R38, R84, R86). DEDUCED (log entry 7): one recomputation for what one event changes together. -/
def settleFlow (s : State) : State := updatePermit (updateRoom s)

/-- The stray advance of R34 and R35: the expected sequence increases by 1; `settleSince` places its CREDIT. -/
def strayAdvance (s : State) : State := { s with hnd.expected := s.hnd.expected + 1#16 }

/-- `settleFlow` after a stray advance, which places a CREDIT at once (R34, R35, R38). -/
def settleAdvance (s : State) : State := updatePermit (placeCredit { s with hnd.room := roomOf s })

end Sys2Proof.Machine
end

