-- ==== Sys2Proof/Machine/DispatchOps.lean ====
section
/-! DEFINITION. Machine/DispatchOps.lean: the shared operations of the Dispatch Unit: the ACTIVE bank and a tray's entry
(R109), assignment (R112), unassignment (R113), route failure (R120), and ranking by arrival order (R116, R123). Cells and
slots are given by index here, their numbers less one. -/

namespace Sys2Proof.Machine

/-- The bank the swap flag names (R109). -/
def activeBank (s : State) : List (Option OrderEntry) := if s.dsp.swap then s.dsp.bank1 else s.dsp.bank0

/-- The other bank. -/
def standbyBank (s : State) : List (Option OrderEntry) := if s.dsp.swap then s.dsp.bank0 else s.dsp.bank1

/-- Writes the ACTIVE bank. -/
def setActive (b : List (Option OrderEntry)) (s : State) : State :=
  if s.dsp.swap then { s with dsp.bank1 := b } else { s with dsp.bank0 := b }

/-- Writes the STANDBY bank. -/
def setStandby (b : List (Option OrderEntry)) (s : State) : State :=
  if s.dsp.swap then { s with dsp.bank0 := b } else { s with dsp.bank1 := b }

/-- The index of a tray's entry: the first entry of the ACTIVE bank that is not EMPTY and holds the tray's order id
(R109). -/
def entryIndex (s : State) (order : Option Nat) : Option Nat :=
  order.bind (fun id => (activeBank s).findIdx? (fun e => e.any (fun r => r.order = id)))

/-- The tray's entry. -/
def trayEntry (s : State) (order : Option Nat) : Option OrderEntry :=
  (entryIndex s order).bind (slotAt (activeBank s))

/-- Changes an entry of the ACTIVE bank. -/
def updateEntry (i : Nat) (f : OrderEntry → OrderEntry) (s : State) : State :=
  setActive (modifyAt (activeBank s) i (Option.map f)) s

/-- The entry's current chamber (R109). -/
def OrderEntry.current (e : OrderEntry) : Nat := if e.onAlternate then e.alternate else e.primary

/-- The cut-off is at or below the station clock (R113, R114). -/
def OrderEntry.past (e : OrderEntry) (clock : BitVec 32) : Bool := e.cutOff.toNat ≤ clock.toNat

/-- One assigned tray fewer; a FILLED entry becomes OPEN, or CUT if its cut-off has passed (R113). -/
def OrderEntry.unassign (e : OrderEntry) (clock : BitVec 32) : OrderEntry :=
  { e with
    assigned := e.assigned - 1
    state := if e.state = .filled then (if e.past clock then .cut else .opened) else e.state }

/-- Unassigns the entry of a tray that holds an order id and has an entry (R113). -/
def unassign (order : Option Nat) (s : State) : State :=
  match entryIndex s order with
  | none => s
  | some i => updateEntry i (fun e => e.unassign s.stc.clock) s

/-- Changes the cell of index `i`, where it holds a tray. -/
def updateCell (i : Nat) (f : Cell → Cell) (s : State) : State :=
  { s with tray.cells := modifyAt s.tray.cells i (Option.map f) }

/-- Changes the tray in the cell of index `i`. -/
def updateCellTray (i : Nat) (f : Tray → Tray) (s : State) : State :=
  updateCell i (fun c => { c with tray := f c.tray }) s

/-- Sets a request slot. -/
def setSlot (j : Nat) (o : Option Slot) (s : State) : State := { s with dsp.slots := s.dsp.slots.set j o }

/-- The index of the slot whose series is for the tray in cell `i` (R115). -/
def slotOfCell (s : State) (i : Nat) : Option Nat := s.dsp.slots.findIdx? (fun o => o.any (fun x => x.cell = i))

/-- The tray becomes UNASKED with no grant. -/
def Tray.drop (t : Tray) : Tray := { t with grant := none, dstate := .unasked }

/-- EXP hands DSP a tray in a cell that has gained the quarantine flag (R113): it is taken off its order and routed to the
quarantine chamber; a series whose MANIFEST went out without the flag is abandoned, and a grant not marked quarantine is
dropped. A tray being released is left as it is. -/
def handOver (i : Nat) (s : State) : State :=
  match s.cellAt i with
  | none => s
  | some c =>
    if c.tray.dstate = .releasing then s
    else
      let t := unassign c.tray.order s
      let u := updateCellTray i
        (fun x => { x with order := none, route := some s.quarantineChamber, chambers := none }) t
      match c.tray.dstate with
      | .asking =>
        match slotOfCell s i with
        | none => u
        | some j =>
          if (s.slot j).any Slot.flagged then u
          else updateCellTray i (fun x => { x with dstate := .unasked }) (setSlot j none u)
      | .granted => if c.tray.grant.any Grant.marked then u else updateCellTray i Tray.drop u
      | _ => u

/-- A tray in a cell gains the quarantine flag, once (R102, R103, R113). -/
def flagCell (i : Nat) (s : State) : State :=
  match s.cellAt i with
  | none => s
  | some c =>
    if c.tray.quarantine then s else handOver i (updateCellTray i (fun t => { t with quarantine := true }) s)

/-- DSP asks EXP for the projection of the tray in cell `i` (R103). -/
def projectCell (i : Nat) (s : State) : State :=
  match s.cellAt i with
  | none => s
  | some c => if projectedSpent s c.tray then flagCell i s else s

/-- An OPEN entry fits a tray: same product, minimum use-by at or below the tray's, assigned below the quantity (R112). -/
def OrderEntry.fits (e : OrderEntry) (t : Tray) : Bool :=
  e.state = .opened && t.product = some e.product && t.useBy.any (fun d => e.minUseBy ≤ d) && e.assigned < e.quantity

/-- One more assigned tray; at the quantity the entry becomes FILLED (R112). -/
def OrderEntry.assign (e : OrderEntry) : OrderEntry :=
  { e with assigned := e.assigned + 1, state := if e.assigned + 1 = e.quantity then .filled else e.state }

/-- DSP routes a tray placed in cell `i` (R112). -/
def assignCell (i : Nat) (s : State) : State :=
  match s.cellAt i with
  | none => s
  | some c =>
    let t := c.tray
    if t.id = { origin := 0, seq := 0 } then
      let u := updateCellTray i
        (fun x => { x with order := none, route := some s.quarantineChamber, dstate := .routeHeld }) s
      latch .routeFailed { u with dsp.unnamedTrays := bump u.dsp.unnamedTrays 1 }
    else if t.quarantine then
      updateCellTray i (fun x => { x with order := none, route := some s.quarantineChamber, dstate := .unasked }) s
    else
      match (activeBank s).findIdx? (fun e => e.any (fun r => r.fits t)) with
      | some j =>
        match slotAt (activeBank s) j with
        | none => s
        | some e =>
          updateCellTray i
            (fun x => { x with
              order := some e.order, route := some e.current, chambers := some (e.primary, e.alternate),
              dstate := .unasked })
            (updateEntry j OrderEntry.assign s)
      | none => updateCellTray i (fun x => { x with order := none, route := some s.stockChamber, dstate := .unasked }) s

/-- The other order chamber: the alternate if the route was the primary, and the primary otherwise (R120). -/
def otherChamber (route : Option Nat) (primary alternate : Nat) : Nat :=
  if route = some primary then alternate else primary

/-- The new route of a tray whose route failed at retry status 0 or 1 (R120): the tray's entry is used where it has one,
its order chambers otherwise; a stock or quarantine tray keeps its route. -/
def flippedRoute (s : State) (t : Tray) : Option Nat :=
  if t.order.isNone then t.route
  else
    match trayEntry s t.order with
    | some e => some (otherChamber t.route e.primary e.alternate)
    | none =>
      match t.chambers with
      | some (p, a) => some (otherChamber t.route p a)
      | none => t.route

/-- The selector names the other chamber if the entry's current chamber is the one that failed (R120). -/
def OrderEntry.turn (e : OrderEntry) (failed : Nat) : OrderEntry :=
  if e.current = failed then { e with onAlternate := !e.onAlternate } else e

/-- The route of the tray in cell `i` fails at chamber `failed` (R120). -/
def routeFails (i failed : Nat) (s : State) : State :=
  match s.cellAt i with
  | none => s
  | some c =>
    if c.tray.retry ≤ 1 then
      let u := updateCellTray i
        (fun x => { x with retry := c.tray.retry + 1, route := flippedRoute s c.tray, dstate := .unasked }) s
      let v := { u with dsp.routes := bump u.dsp.routes 1 }
      match entryIndex s c.tray.order with
      | none => v
      | some j => updateEntry j (fun e => e.turn failed) v
    else latch .routeFailed (updateCellTray i (fun x => { x with dstate := .routeHeld }) s)

/-- The index of the cell of lowest arrival order among those whose cell satisfies `p` (R85, R116, R123). -/
def oldestCell (s : State) (p : Cell → Bool) : Option Nat :=
  (List.range s.tray.cells.length).foldl
    (fun best i =>
      match s.cellAt i with
      | none => best
      | some c =>
        if p c then
          match best.bind s.cellAt with
          | none => some i
          | some b => if orderBefore c.arrivalOrder b.arrivalOrder then some i else best
        else best)
    none

/-- The RED cell of lowest arrival order satisfying `p`, otherwise the cell of lowest arrival order satisfying `p`. -/
def redFirst (s : State) (p : Cell → Bool) : Option Nat :=
  match oldestCell s (fun c => p c && c.tray.urgency = .red) with
  | some i => some i
  | none => oldestCell s p

/-- LNK's peer table as it stands: the station's own entry holds its own mode; none is UNKNOWN (R160). When CONFIGURING
writes another station number, the entry of the former one shows what its list holds. DESIGN CHOICE (log entry 36). -/
def peerMode (s : State) (station : Nat) : Option Mode :=
  if station = s.own then some s.mode
  else if station = 0 then none
  else (s.lnk.peers[station - 1]?).bind Peer.mode

/-- The peer check of R117: a chamber reported in CONFIGURING, SANITISING or FAULT is not asked. -/
def peerRefuses (s : State) (station : Nat) : Bool :=
  let m := peerMode s station
  m = some .configuring || m = some .sanitising || m = some .fault

end Sys2Proof.Machine
end

