-- ==== Sys2Proof/Machine/AdmissionOps.lean ====
section
/-! DEFINITION. Machine/AdmissionOps.lean: the shared operations of the Admission Unit: lanes and placement (R131, R132),
finding a tray's manifest and entry, ending a reservation, and serving (R138). -/

namespace Sys2Proof.Machine

/-- An ORDERS lane whose occupancy plus reserved is 0 loses its current order id (R131). -/
def Lane.settle (l : Lane) : Lane :=
  if l.use = .orders && l.occupancy + l.reserved = 0 then { l with order := none } else l

/-- A lane is available while occupancy plus reserved is below its capacity (R131). -/
def Lane.available (l : Lane) : Bool := l.occupancy + l.reserved < l.capacity

/-- The lane's free room (R131). -/
def Lane.freeRoom (l : Lane) : Nat := l.capacity - l.occupancy - l.reserved

/-- Changes lane `n` (1 to 8). -/
def updateLane (n : Nat) (f : Lane → Lane) (s : State) : State :=
  if n = 0 then s else { s with adm.lanes := modifyAt s.adm.lanes (n - 1) f }

/-- Lane `n` (1 to 8). -/
def State.lane (s : State) (n : Nat) : Option Lane := if n = 0 then none else s.adm.lanes[n - 1]?

/-- The lane gives up one reservation (R133, R139, R141). -/
def Lane.release (l : Lane) : Lane := Lane.settle { l with reserved := l.reserved - 1 }

/-- The lane takes one reservation. -/
def Lane.reserve (l : Lane) : Lane := { l with reserved := l.reserved + 1 }

/-- The lane takes an admitted tray in place of its reservation (R142). -/
def Lane.occupy (l : Lane) : Lane := Lane.settle { l with occupancy := l.occupancy + 1, reserved := l.reserved - 1 }

/-- The needed use of a tray (R132). -/
def neededUse (quarantine : Bool) (order : Option Nat) : LaneUse :=
  if quarantine then .quarantine else if order.isSome then .orders else .stock

/-- Among the available lanes of a use, the index of the one with the most free room, the lowest-numbered on a tie. -/
def roomiest (lanes : List Lane) (use : LaneUse) : Option Nat :=
  (List.range lanes.length).foldl
    (fun best i =>
      match lanes[i]? with
      | none => best
      | some l =>
        if l.use = use && l.available then
          match best.bind (fun j => lanes[j]?) with
          | none => some i
          | some b => if b.freeRoom < l.freeRoom then some i else best
        else best)
    none

/-- The index of the ORDERS lane that holds an order id. -/
def laneOfOrder (lanes : List Lane) (order : Option Nat) : Option Nat :=
  lanes.findIdx? (fun l => l.use = .orders && l.order = order)

/-- The placement of a tray as a lane number, none where there is none (R132). -/
def placement (lanes : List Lane) (quarantine : Bool) (order : Option Nat) : Option Nat :=
  match neededUse quarantine order with
  | .orders =>
    match laneOfOrder lanes order with
    | some i => if (lanes[i]?).any Lane.available then some (i + 1) else none
    | none => (lanes.findIdx? (fun l => l.use = .orders && l.occupancy + l.reserved = 0)).map (· + 1)
  | u => (roomiest lanes u).map (· + 1)

/-- The index of the manifest of a tray id (R133). -/
def manifestIndex (s : State) (t : TrayId) : Option Nat :=
  s.adm.manifests.findIdx? (fun m => m.any (fun x => x.tray = t))

/-- The manifest of a tray id. -/
def manifestOf (s : State) (t : TrayId) : Option Manifest := (manifestIndex s t).bind (slotAt s.adm.manifests)

/-- The index of the admission entry of a tray id (R135). -/
def admissionIndex (s : State) (t : TrayId) : Option Nat :=
  s.adm.table.findIdx? (fun e => e.any (fun x => x.tray = t))

/-- The admission entry at an index. -/
def State.admission (s : State) (i : Nat) : Option Admission := slotAt s.adm.table i

/-- Sets an entry of the admission table. -/
def setAdmission (i : Nat) (e : Option Admission) (s : State) : State := { s with adm.table := s.adm.table.set i e }

/-- Removes the manifest of a tray id, if there is one. -/
def dropManifest (t : TrayId) (s : State) : State :=
  match manifestIndex s t with
  | none => s
  | some i => { s with adm.manifests := s.adm.manifests.set i none }

/-- The entry stands for room held in a lane: READY, CLAIMED or INBOUND (R135). -/
def Admission.holdsRoom (e : Admission) : Bool := e.state ≠ .pending

/-- The reserved total of R135. -/
def reservedTotal (s : State) : Nat := (s.adm.table.filter (fun o => o.any Admission.holdsRoom)).length

/-- The number of entries in a state. -/
def admissionsIn (s : State) (st : AdmState) : Nat := (s.adm.table.filter (fun o => o.any (fun e => e.state = st))).length

/-- The entry's lane number, 0 where it has none. -/
def Admission.laneNo (e : Admission) : Nat := e.lane.getD 0

/-- Serves one PENDING entry if its placement names a lane (R138): it becomes READY with that lane, the lane's reserved
increases by 1, and an ORDERS lane that held no order takes the entry's order id (R132). -/
def serveEntry (i : Nat) (s : State) : State :=
  match s.admission i with
  | none => s
  | some e =>
    match placement s.adm.lanes e.quarantine e.order with
    | none => s
    | some n =>
      let t := updateLane n
        (fun l => { l.reserve with order := if neededUse e.quarantine e.order = .orders then e.order else l.order }) s
      setAdmission i
        (some { e with state := .ready, lane := some n, stateTime := s.stc.clock, stateSince := s.nowMs }) t

/-- Both conditions of serving: the mode is RUNNING, and the reserved total plus 1 is at or below the free count (R138). -/
def mayServe (s : State) : Bool := s.mode = .running && reservedTotal s + 1 ≤ traceFree s

/-- Goes through PENDING entries in their ranking and stops as soon as a condition fails (R138). -/
def serveList : List Nat → State → State
  | [], s => s
  | i :: is, s => if mayServe s then serveList is (serveEntry i s) else s

/-- Puts an index into a list kept in a ranking. -/
def insertRanked (before : Nat → Nat → Bool) (x : Nat) : List Nat → List Nat
  | [] => [x]
  | y :: ys => if before x y then x :: y :: ys else y :: insertRanked before x ys

/-- The entry at `i` ranks before the entry at `j`: RED first, then the lowest creation order (R138). -/
def ranksBefore (s : State) (i j : Nat) : Bool :=
  match s.admission i, s.admission j with
  | some a, some b =>
    if (a.urgency = .red) = (b.urgency = .red) then orderBefore a.creation b.creation else a.urgency = .red
  | _, _ => false

/-- The PENDING entries in the ranking of R138. -/
def pendingRanked (s : State) : List Nat :=
  ((List.range s.adm.table.length).filter (fun i => (s.admission i).any (fun e => e.state = .pending))).foldr
    (insertRanked (ranksBefore s)) []

/-- ADM serves the PENDING entries (R138). -/
def serve (s : State) : State := if s.role = .chamber then serveList (pendingRanked s) s else s

/-- An entry and its manifest are removed (R134). -/
def removeEntry (i : Nat) (e : Admission) (s : State) : State := dropManifest e.tray (setAdmission i none s)

/-- Steps 1 and 2 of a discard (R139): the reservation is given up, the entry and its manifest are removed. -/
def endReservation (i : Nat) (e : Admission) (s : State) : State :=
  removeEntry i e (updateLane e.laneNo Lane.release s)

/-- Steps 1 to 3 of a tray declared missing (R141), and its count. -/
def declareMissing (i : Nat) (e : Admission) (s : State) : State :=
  let lot := (manifestOf s e.tray).bind Manifest.lot
  let t := writeTrace (.chamber e.tray .missing e.lane lot s.stc.clock) s
  let u := endReservation i e t
  { u with adm.missing := bump u.adm.missing 1 }

/-- A READY entry discarded (R139), and its count. -/
def discardReady (i : Nat) (e : Admission) (s : State) : State :=
  let u := endReservation i e s
  { u with adm.unclaimed := bump u.adm.unclaimed 1 }

end Sys2Proof.Machine
end

