-- ==== Sys2Proof/Machine/ModeOps.lean ====
section
/-! DEFINITION. Machine/ModeOps.lean: changes of the station mode and the causes that make them (R159, R167 to R171), and
what both resets do (R173). -/

namespace Sys2Proof.Machine

/-- The station enters a mode: every block sees it at once, and a STATION-STATE carrying it falls due (R159). -/
def enterMode (m : Mode) (s : State) : State :=
  let t := { s with stc.mode := m }
  placeState (stateFrame t) t

/-- The station enters RUNNING, and a chamber serves (R138). -/
def enterRunning (s : State) : State := serve (enterMode .running s)

/-- A cause is added: RUNNING becomes HELD, any other mode is unchanged (R167). -/
def addCause (c : Cause) (s : State) : State :=
  let t := putCause c s
  if s.mode = .running then enterMode .held t else t

/-- When the set is empty while the mode is HELD, the station enters RUNNING at once (R167). -/
def runIfClear (s : State) : State :=
  if s.mode = .held && s.stc.causes = 0#8 then enterRunning s else s

/-- RUNNING if the cause set is empty, HELD otherwise (R166, R170). -/
def enterByCauses (s : State) : State := if s.stc.causes = 0#8 then enterRunning s else enterMode .held s

/-- Entry to SANITISING (R20, R74, R147, R169): the drain timer stops; IDX's counts and LID's lane counts and tripped set
are cleared; a chamber empties its manifest table and its notes. -/
def enterSanitising (s : State) : State :=
  let t := enterMode .sanitising { s with stc.drainAt := none }
  match s.role with
  | .filler | .trayer => { t with idx.posCount := 0, idx.debt := 0 }
  | .lidder => { t with idx.posCount := 0, idx.debt := 0, lid.fails := List.replicate 8 0, lid.tripped := 0#8 }
  | .chamber => { t with adm.manifests := List.replicate 32 none, adm.notes := [] }
  | _ => t

/-- Entry to FAULT with its cause; STATION-FAULT is latched, and a drain ends unfinished (R169, R171). -/
def enterFault (c : FaultCause) (s : State) : State :=
  latch .stationFault (enterMode .fault { s with stc.fault := some c, stc.drainAt := none })

/-- The station is empty: every store its role keeps is empty (R169). -/
def stationEmpty (s : State) : Bool :=
  let windowEmpty := heldCount s.idx.window = 0
  match s.role with
  | .filler => windowEmpty
  | .lidder => windowEmpty && s.hnd.rowArrivals.isEmpty
  | .trayer => windowEmpty && s.hnd.rowArrivals.isEmpty && s.tray.forming.isNone && s.tray.formed.isEmpty
  | .chill => s.hnd.trayArrivals.isEmpty && s.tray.queue.isEmpty
  | .dispatch => s.hnd.trayArrivals.isEmpty && heldCount s.tray.cells = 0
  | .chamber => heldCount s.adm.table = 0

/-- A hard reset (R173): every block at its values after reset, with the clock, the plant day and the trace ring. The
queue of commands and the draw of free values are not the part's. -/
def hardReset (s : State) : State := { State.reset with pending := s.pending, freeCount := s.freeCount }

/-- The trace ring after RESTART: entries kept in order, each made unread, the read position at the oldest (R129). -/
def Trc.unread (t : Trc) : Trc :=
  { t with readCount := 0, readPos := (t.writePos + ringSize - t.entries.length) % ringSize }

/-- The reset that RESTART orders (R173): as a hard reset, but the clock (still counting), the plant day and the trace
entries are kept. What the port has already shifted out stays out. -/
def restartReset (s : State) : State :=
  { State.reset with
    stc := Stc.fresh s.stc.clock s.stc.day s.stc.secondAt
    port.delivered := s.port.delivered
    trc := s.trc.unread
    nowMs := s.nowMs
    freeCount := s.freeCount
    pending := s.pending }

end Sys2Proof.Machine
end

