-- ==== Sys2Proof/Machine/PortOps.lean ====
section
/-! DEFINITION. Machine/PortOps.lean: the response place and the order of checks every command passes (R174, R175), with
the code, parameter length and roles of each command (R175, R180). -/

namespace Sys2Proof.Machine

/-- What a command's own rule answers: its status, the data of the answer, and the state it leaves. -/
structure Reply where
  status : Status
  data : List Byte
  state : State

/-- An answer that changes nothing (R175). -/
def refuse (st : Status) (s : State) : Reply := { status := st, data := [], state := s }

/-- OK with no data. -/
def accept (s : State) : Reply := { status := .ok, data := [], state := s }

/-- OK with a record, changing nothing. -/
def report (data : List Byte) (s : State) : Reply := { status := .ok, data, state := s }

/-- The place holds a response that has not been fetched (R174). -/
def State.unfetched (s : State) : Bool := s.port.place.any (fun r => !r.fetched)

/-- A response replaces whatever the place held; an unfetched one replaced is counted lost (R174). -/
def putResponse (tag code : BitVec 8) (st : Status) (data : List Byte) (s : State) : State :=
  { s with
    port.place := some { tag, code, status := st, data, fetched := false }
    port.lost := if s.unfetched then bump s.port.lost 1 else s.port.lost }

/-- The checks of R175 between the command code and the command's own rule, in their order: the status of the first one
that fails. `always` marks RESTART, `roles` the command's roles, `enums` that its enumerated parameters hold assigned
codes. -/
def portCheck (paramLen : Nat) (always : Bool) (roles : Role → Bool) (enums : Bool) (h : CmdHead) (s : State) :
    Option Status :=
  if h.paramLen.toNat ≠ paramLen then some .badValue
  else if s.mode = .starting && !always then some .badMode
  else if !roles s.role then some .badRole
  else if !enums then some .badValue
  else none

/-- A command that passes the frame check is decoded and answered (R174, R175). While a RESTART waits for its answer to be
fetched, the select of the command transfer takes the reset and the command is not taken. The answer is worked out before a
response it replaces is counted lost. DESIGN CHOICE (log entry 46). -/
def portCommand (code paramLen : Nat) (always : Bool) (roles : Role → Bool) (enums : Bool) (own : State → Reply)
    (h : CmdHead) (s : State) : State :=
  if s.port.restartPending then restartReset s
  else
    match portCheck paramLen always roles enums h s with
    | some st => putResponse h.tag (BitVec.ofNat 8 code) st [] s
    | none =>
      let r := own s
      putResponse h.tag (BitVec.ofNat 8 code) r.status r.data r.state

/-! ### Roles of the commands (the command table of R175) -/

/-- Every role. -/
def anyRole (_ : Role) : Bool := true

/-- LIDDER, TRAYER, CHILL and DISPATCH. -/
def arrivalRoles (r : Role) : Bool := r.hasIncoming

/-- One role only. -/
def onlyRole (q r : Role) : Bool := r = q

/-- TRAYER, CHILL and DISPATCH. -/
def trayRoles (r : Role) : Bool := r = .trayer || r = .chill || r = .dispatch

/-- DISPATCH and CHAMBER. -/
def traceRoles (r : Role) : Bool := r = .dispatch || r = .chamber

/-! ### Command codes (R180) -/

/-- The parameter bytes of an assigned command code; none where the code is not assigned. -/
def commandParams (code : Nat) : Option Nat :=
  match code with
  | 0x01 => some 6 | 0x02 => some 2 | 0x03 | 0x04 | 0x05 | 0x06 | 0x07 | 0x08 => some 0 | 0x09 => some 4 | 0x0A => some 2
  | 0x0B | 0x0C | 0x0D => some 0 | 0x10 => some 2 | 0x11 | 0x12 => some 1 | 0x18 => some 14 | 0x19 => some 4
  | 0x1A => some 5 | 0x1B => some 0 | 0x1C => some 1 | 0x20 => some 7 | 0x21 | 0x22 => some 0 | 0x28 | 0x29 => some 1
  | 0x30 => some 19 | 0x31 => some 2 | 0x32 | 0x33 | 0x34 => some 1 | 0x35 | 0x36 => some 0 | 0x38 => some 8
  | 0x39 | 0x3A => some 1 | 0x3B => some 3 | _ => none

/-- The fetch code (R180). -/
def fetchCode : Nat := 0xFF

/-- The bank choice holds an assigned code: STANDBY 0, ACTIVE 1 (R180). -/
def bankAssigned (bank : BitVec 8) : Bool := bank = 0#8 || bank = 1#8

/-- The kind of a transition entry holds an assigned code (R180). -/
def kindAssigned (kind : BitVec 8) : Bool := kind.toNat ≤ 2

/-- A byte of the tag or the code as received, or a free value where it was not received (R174, log entry 9). -/
def receivedByte (o : Option (BitVec 8)) (draw : Nat) : BitVec 8 := o.getD (Config.unreceivedByte draw)

end Sys2Proof.Machine
end

