-- ==== Sys2Proof/WellFormed.lean ====
section
/-! DEFINITION. WellFormed.lean: the commands whose operands the manual can give: a timer names a thing that exists (R18,
R85, R115, R133, R135, R160), a ROW-PASS has eight pot entries (R179), the code of a transfer arrives before its tag (R180). -/

namespace Sys2Proof

/-- A number from 1 to `n`. -/
def numbered (n k : Nat) : Bool := 1 ≤ k && k ≤ n

/-- The operands of a command are ones the manual can give. -/
def Instr.wellFormed : Instr → Bool
  | .frameError code tag => code.isSome || tag.isNone
  | .rejectPulseEnd lane => numbered 8 lane
  | .rowPass _ _ p => p.pots.length = 8
  | .answerTimeout slot | .repeatTimer slot => numbered 4 slot
  | .grantExpiry cell => numbered 12 cell
  | .claimWindow index | .arrivalWindow index | .pendingLapse index => index < 16
  | .manifestLifetime index => index < 32
  | .peerTimeout station => numbered 30 station
  | .hardReset | .loadComplete _ | .unknownCommand _ _ | .responseTransfer | .writeSetting _ _ _ | .readSetting _ _
  | .start _ | .hold _ | .resume _ | .sanitise _ | .drainComplete | .drainTimeout | .endSanitise _ | .restart _
  | .setClock _ _ | .setDay _ _ | .readStatus _ | .readNotices _ | .readPeers _ | .forceReject _ _ _ | .readRow _ _
  | .readArrival _ _ | .writeProduct _ _ _ _ | .writeTransition _ _ _ _ _ | .openLot _ _ _ _ | .closeLot _
  | .readLot _ _ | .loadReel _ _ _ _ _ | .splice _ | .readReels _ | .readTray _ _ | .readZone _ _
  | .writeOrder _ _ _ _ _ | .readOrder _ _ _ | .swapBook _ _ | .retryTray _ _ | .removeTray _ _ | .readTrace _
  | .freeTrace _ | .writeLane _ _ _ _ _ _ | .readLane _ _ | .readAdmission _ _ | .drawdown _ _ _ | .forwardCount _ _
  | .reverseCount | .credit _ _ _ _ | .creditExpiry | .creditRefresh | .trayPass _ _ _ | .chamberTrayPass _ _ _
  | .transitLimitExpiry | .lotOpen _ _ _ | .lotCloseFrame _ _ _ | .lotOpenRepetition | .pendingLotFramesQueued
  | .exitSensorEvent | .chillExitSensorEvent | .trayCloseTime | .infeedSensorEvent | .chamberInfeedEvent | .reading _
  | .miss | .stationSecond | .seriesStart | .admitReply _ _ _ _ _ | .dueAskQueued | .releaseBegin | .shuttleDone
  | .shuttleTimeout | .pendingTrayPassQueued | .manifest _ _ _ | .admitAsk _ _ _ | .stationState _ _ _ _
  | .stationStatePeriod | .pendingStationStatePlaced | .badFrame _ _ | .frameOffer | .frameSent | .lostArbitration
  | .corruptedOwnFrame | .longArbitrationLoss | .selectAsserted => true

end Sys2Proof
end

