-- ==== Sys2Proof/Decode.lean ====
section
/-! DEFINITION. Decode.lean: the command a word of the table spells (the table gives no bits, so none); and the commands that
whole port transfers (R174, R180) and link frames (R150, R179) spell, with their encoders. -/

namespace Sys2Proof

/-- The table gives no row any bits: no word spells a command. -/
def decodeTableWord (_nbits _w : Nat) : Option Instr := none

namespace Decode

/-- The field of `k` bytes at offset `i`. -/
def field (bytes : List Byte) (i k : Nat) : Nat := Machine.beNat ((bytes.drop i).take k)

/-- The fields of WRITE-PRODUCT after the EMPTY mark. -/
def productFields (ps : List Byte) : ProductFields :=
  { code := .ofNat 16 (field ps 2 2), flavour := .ofNat 8 (field ps 4 1), cls := .ofNat 8 (field ps 5 1),
    allowance := .ofNat 24 (field ps 6 3), tref := .ofNat 16 (field ps 9 2), tk := .ofNat 16 (field ps 11 2),
    shelf := .ofNat 8 (field ps 13 1) }

/-- The fields of WRITE-ORDER after the EMPTY mark. -/
def orderFields (ps : List Byte) : OrderFields :=
  { order := .ofNat 16 (field ps 3 2), product := .ofNat 16 (field ps 5 2), minUseBy := .ofNat 16 (field ps 7 2),
    quantity := .ofNat 16 (field ps 9 2), assigned := .ofNat 16 (field ps 11 2), cutOff := .ofNat 32 (field ps 13 4),
    primary := .ofNat 8 (field ps 17 1), alternate := .ofNat 8 (field ps 18 1) }

/-- The command of an assigned code, its parameters in the order and at the widths of R180; bytes that a wrong parameter
length leaves out read as 0 and are not used (R175). -/
def command (code : Nat) (h : CmdHead) (ps : List Byte) : Option Instr :=
  let b1 := fun i => BitVec.ofNat 8 (field ps i 1)
  let b2 := fun i => BitVec.ofNat 16 (field ps i 2)
  match code with
  | 0x01 => some (.writeSetting h (b2 0) (.ofNat 32 (field ps 2 4)))
  | 0x02 => some (.readSetting h (b2 0))
  | 0x03 => some (.start h)
  | 0x04 => some (.hold h)
  | 0x05 => some (.resume h)
  | 0x06 => some (.sanitise h)
  | 0x07 => some (.endSanitise h)
  | 0x08 => some (.restart h)
  | 0x09 => some (.setClock h (.ofNat 32 (field ps 0 4)))
  | 0x0A => some (.setDay h (b2 0))
  | 0x0B => some (.readStatus h)
  | 0x0C => some (.readNotices h)
  | 0x0D => some (.readPeers h)
  | 0x10 => some (.forceReject h (b1 0) (b1 1))
  | 0x11 => some (.readRow h (b1 0))
  | 0x12 => some (.readArrival h (b1 0))
  | 0x18 => some (.writeProduct h (b1 0) (b1 1) (productFields ps))
  | 0x19 => some (.writeTransition h (b1 0) (b1 1) (b1 2) (b1 3))
  | 0x1A => some (.openLot h (b1 0) (b1 1) (.ofNat 24 (field ps 2 3)))
  | 0x1B => some (.closeLot h)
  | 0x1C => some (.readLot h (b1 0))
  | 0x20 => some (.loadReel h (b2 0) (b1 2) (b2 3) (b2 5))
  | 0x21 => some (.splice h)
  | 0x22 => some (.readReels h)
  | 0x28 => some (.readTray h (b1 0))
  | 0x29 => some (.readZone h (b1 0))
  | 0x30 => some (.writeOrder h (b1 0) (b1 1) (b1 2) (orderFields ps))
  | 0x31 => some (.readOrder h (b1 0) (b1 1))
  | 0x32 => some (.swapBook h (b1 0))
  | 0x33 => some (.retryTray h (b1 0))
  | 0x34 => some (.removeTray h (b1 0))
  | 0x35 => some (.readTrace h)
  | 0x36 => some (.freeTrace h)
  | 0x38 => some (.writeLane h (b1 0) (b1 1) (b2 2) (b2 4) (b2 6))
  | 0x39 => some (.readLane h (b1 0))
  | 0x3A => some (.readAdmission h (b1 0))
  | 0x3B => some (.drawdown h (b1 0) (b2 1))
  | _ => none

/-- A command transfer passes the frame check (R174): whole bytes, as many as the parameter length says, summing to 0. -/
def transferSound (wholeBytes : Bool) (bytes : List Byte) : Bool :=
  wholeBytes && 4 ≤ bytes.length && bytes.length = field bytes 2 1 + 4 && Machine.byteSum bytes = 0#8

/-- The command a port transfer spells (R174, R175, R180): a response transfer where the first byte is the fetch code. -/
def portTransfer (wholeBytes : Bool) (bytes : List Byte) : Instr :=
  if bytes[0]? = some 0xFF#8 then .responseTransfer
  else if !transferSound wholeBytes bytes then .frameError bytes[0]? bytes[1]?
  else
    let code := bytes.getD 0 0#8
    let h : CmdHead := { tag := bytes.getD 1 0#8, paramLen := bytes.getD 2 0#8 }
    match command code.toNat h ((bytes.drop 3).dropLast) with
    | some c => c
    | none => .unknownCommand code h.tag

/-- The payload of a kind, its fields in the order and at the widths of R179. -/
def payload (k : Machine.FrameKind) (ps : List Byte) : Payload :=
  match k with
  | .credit => .credit (.ofNat 16 (field ps 0 2)) (.ofNat 8 (field ps 2 1))
  | .admitReply => .admitReply (.ofNat 32 (field ps 0 4)) (.ofNat 8 (field ps 4 1)) (.ofNat 8 (field ps 5 1))
  | .rowPass =>
    .rowPass
      { seq := .ofNat 16 (field ps 0 2), lot := .ofNat 24 (field ps 2 3), exposure := .ofNat 24 (field ps 5 3),
        flags := .ofNat 8 (field ps 8 1), pots := (List.range 8).map (fun i => .ofNat 16 (field ps (9 + 2 * i) 2)) }
  | .trayPass =>
    .trayPass
      { seq := .ofNat 16 (field ps 0 2), trayId := .ofNat 32 (field ps 2 4), lot := .ofNat 24 (field ps 6 3),
        product := .ofNat 16 (field ps 9 2), useBy := .ofNat 16 (field ps 11 2), rows := .ofNat 8 (field ps 13 1),
        pots := .ofNat 8 (field ps 14 1), flags := .ofNat 8 (field ps 15 1), exposure := .ofNat 24 (field ps 16 3) }
  | .manifest =>
    .manifest
      { trayId := .ofNat 32 (field ps 0 4), lot := .ofNat 24 (field ps 4 3), product := .ofNat 16 (field ps 7 2),
        useBy := .ofNat 16 (field ps 9 2), order := .ofNat 16 (field ps 11 2), exposure := .ofNat 24 (field ps 13 3),
        flags := .ofNat 8 (field ps 16 1) }
  | .admitAsk => .admitAsk (.ofNat 32 (field ps 0 4))
  | .lotOpen =>
    .lotOpen
      { lot := .ofNat 24 (field ps 0 3), product := .ofNat 16 (field ps 3 2), flavour := .ofNat 8 (field ps 5 1),
        cls := .ofNat 8 (field ps 6 1), tank := .ofNat 8 (field ps 7 1), useBy := .ofNat 16 (field ps 8 2),
        allowance := .ofNat 24 (field ps 10 3), tref := .ofNat 8 (field ps 13 1), tk := .ofNat 16 (field ps 14 2) }
  | .lotClose => .lotClose (.ofNat 24 (field ps 0 3))
  | .stationState => .stationState (.ofNat 8 (field ps 0 1)) (.ofNat 8 (field ps 1 1))

/-- The command that the reception of a payload is. -/
def reception (src tgt : BitVec 5) : Payload → Instr
  | .credit limit room => .credit src tgt limit room
  | .admitReply t a l => .admitReply src tgt t a l
  | .rowPass p => .rowPass src tgt p
  | .trayPass p => .trayPass src tgt p
  | .manifest p => .manifest src tgt p
  | .admitAsk t => .admitAsk src tgt t
  | .lotOpen p => .lotOpen src tgt p
  | .lotClose lot => .lotCloseFrame src tgt lot
  | .stationState r m => .stationState src tgt r m

/-- The command a received frame spells (R150, R153, R179): the reception of its payload where the CRC and length are good and
the kind's class and length are the kind's; a BAD_FRAME otherwise, which the checks of R153 then judge. -/
def linkFrame (endedRight : Bool) (bytes : List Byte) : Instr :=
  let h := Machine.readHead bytes
  match Machine.FrameKind.ofCode h.kind with
  | none => .badFrame endedRight bytes
  | some k =>
    if Machine.frameSound endedRight bytes && h.cls = k.cls && h.length = k.length then
      reception (.ofNat 5 h.source) (.ofNat 5 h.target) (payload k ((bytes.drop 3).take k.length))
    else .badFrame endedRight bytes

/-- The bytes of a value, most significant first. -/
def bytesOf {w : Nat} (k : Nat) (v : BitVec w) : List Byte := Machine.beBytes k v.toNat

/-- The code and parameters a port command is sent with (R180); none for a command that is no port command. -/
def portParams : Instr → Option (Nat × CmdHead × List Byte)
  | .writeSetting h n v => some (0x01, h, bytesOf 2 n ++ bytesOf 4 v)
  | .readSetting h n => some (0x02, h, bytesOf 2 n)
  | .start h => some (0x03, h, [])
  | .hold h => some (0x04, h, [])
  | .resume h => some (0x05, h, [])
  | .sanitise h => some (0x06, h, [])
  | .endSanitise h => some (0x07, h, [])
  | .restart h => some (0x08, h, [])
  | .setClock h v => some (0x09, h, bytesOf 4 v)
  | .setDay h v => some (0x0A, h, bytesOf 2 v)
  | .readStatus h => some (0x0B, h, [])
  | .readNotices h => some (0x0C, h, [])
  | .readPeers h => some (0x0D, h, [])
  | .forceReject h p l => some (0x10, h, [p, l])
  | .readRow h p => some (0x11, h, [p])
  | .readArrival h i => some (0x12, h, [i])
  | .writeProduct h i e p =>
    some (0x18, h, [i, e] ++ bytesOf 2 p.code ++ [p.flavour, p.cls] ++ bytesOf 3 p.allowance ++ bytesOf 2 p.tref ++
      bytesOf 2 p.tk ++ [p.shelf])
  | .writeTransition h p q k n => some (0x19, h, [p, q, k, n])
  | .openLot h i t l => some (0x1A, h, [i, t] ++ bytesOf 3 l)
  | .closeLot h => some (0x1B, h, [])
  | .readLot h i => some (0x1C, h, [i])
  | .loadReel h r f u l => some (0x20, h, bytesOf 2 r ++ [f] ++ bytesOf 2 u ++ bytesOf 2 l)
  | .splice h => some (0x21, h, [])
  | .readReels h => some (0x22, h, [])
  | .readTray h p => some (0x28, h, [p])
  | .readZone h i => some (0x29, h, [i])
  | .writeOrder h b i e o =>
    some (0x30, h, [b, i, e] ++ bytesOf 2 o.order ++ bytesOf 2 o.product ++ bytesOf 2 o.minUseBy ++
      bytesOf 2 o.quantity ++ bytesOf 2 o.assigned ++ bytesOf 4 o.cutOff ++ [o.primary, o.alternate])
  | .readOrder h b i => some (0x31, h, [b, i])
  | .swapBook h b => some (0x32, h, [b])
  | .retryTray h c => some (0x33, h, [c])
  | .removeTray h c => some (0x34, h, [c])
  | .readTrace h => some (0x35, h, [])
  | .freeTrace h => some (0x36, h, [])
  | .writeLane h l u c o d => some (0x38, h, [l, u] ++ bytesOf 2 c ++ bytesOf 2 o ++ bytesOf 2 d)
  | .readLane h l => some (0x39, h, [l])
  | .readAdmission h i => some (0x3A, h, [i])
  | .drawdown h l n => some (0x3B, h, [l] ++ bytesOf 2 n)
  | .hardReset | .loadComplete _ | .frameError _ _ | .unknownCommand _ _ | .responseTransfer | .drainComplete
  | .drainTimeout | .forwardCount _ _ | .reverseCount | .rejectPulseEnd _ | .credit _ _ _ _ | .creditExpiry
  | .creditRefresh | .rowPass _ _ _ | .trayPass _ _ _ | .chamberTrayPass _ _ _ | .transitLimitExpiry | .lotOpen _ _ _
  | .lotCloseFrame _ _ _ | .lotOpenRepetition | .pendingLotFramesQueued | .exitSensorEvent | .chillExitSensorEvent
  | .trayCloseTime | .infeedSensorEvent | .chamberInfeedEvent | .reading _ | .miss | .stationSecond | .seriesStart
  | .admitReply _ _ _ _ _ | .answerTimeout _ | .repeatTimer _ | .dueAskQueued | .grantExpiry _ | .releaseBegin
  | .shuttleDone | .shuttleTimeout | .pendingTrayPassQueued | .manifest _ _ _ | .admitAsk _ _ _ | .claimWindow _
  | .arrivalWindow _ | .manifestLifetime _ | .pendingLapse _ | .stationState _ _ _ _ | .peerTimeout _
  | .stationStatePeriod | .pendingStationStatePlaced | .badFrame _ _ | .frameOffer | .frameSent | .lostArbitration
  | .corruptedOwnFrame | .longArbitrationLoss | .selectAsserted => none

/-- The command record of a port command (R180). -/
def portRecord (i : Instr) : Option (List Byte) :=
  (portParams i).map (fun x =>
    Machine.withCheck ([BitVec.ofNat 8 x.1, x.2.1.tag, x.2.1.paramLen] ++ x.2.2))

/-- The command's parameter length is the one it takes (R175, R180). -/
def lengthRight (i : Instr) : Bool := (portParams i).any (fun x => x.2.1.paramLen.toNat = x.2.2.length)

end Decode

end Sys2Proof
end

