-- ==== Sys2Proof/Machine/Records.lean ====
section
/-! DEFINITION. Machine/Records.lean: the response data of every reading command (R180), field by field in the order
R180 lists. -/

namespace Sys2Proof.Machine

/-- The Row record (R23): N pot entries, lane 1 first. -/
def rowRecord (s : State) (p : Nat) (r : Row) : List Byte :=
  byte p ++ beBytes 2 r.number ++ idBytes 3 r.body.lot ++ beBytes 3 r.body.exposure ++
    byte (urgencyCode r.body.urgency) ++ byte (rowFlags r.body) ++
    (List.range s.laneCount).flatMap (fun k => beBytes 2 (writePot (slotAt r.body.pots k)).toNat)

/-- The Arrival record of a row entry (R41). -/
def rowArrivalRecord (s : State) (e : RowEntry) : List Byte :=
  beBytes 2 e.seq.toNat ++ ageBytes s.nowMs e.since ++ byte (urgencyCode e.body.urgency) ++
    (payloadBytes (.rowPass (writeRowPass e.seq e.body))).drop 2

/-- The Arrival record of a tray entry (R41). -/
def trayArrivalRecord (s : State) (e : TrayEntry) : List Byte :=
  beBytes 2 e.seq.toNat ++ ageBytes s.nowMs e.since ++ byte e.tray.urgency.code ++
    (payloadBytes (.trayPass (writeTrayPass e.seq e.tray))).drop 2

/-- The Lot record (R60); the counts a role does not keep are never raised, and are 0. -/
def lotRecord (r : LotRec) (isOpenLot : Bool) : List Byte :=
  beBytes 3 r.id ++ byte r.origin ++ beBytes 2 r.product ++ byte r.flavour ++ byte r.cls ++ byte r.tank ++
    beBytes 2 r.useBy ++ beBytes 3 r.allowance ++ beBytes 2 r.tref ++ beBytes 2 r.tk ++ byte r.state.code ++
    boolByte isOpenLot ++ byte r.refs ++ clockBytes r.closeOrder ++ boolByte r.closeTime.isSome ++
    clockBytes (r.closeTime.getD 0#32) ++ byte r.purgeLeft ++ beBytes 3 r.rowsFilled ++ countBytes r.potsFilled ++
    countBytes r.potsReceived ++ countBytes r.potsRejected

/-- One reel place of the Reels record; the fields of an absent reel are sent as 0 (log entry 12). -/
def reelBytes (o : Option Reel) : List Byte :=
  boolByte o.isSome ++ beBytes 2 ((o.map Reel.id).getD 0) ++ byte ((o.map Reel.flavour).getD 0) ++
    beBytes 2 ((o.map Reel.useBy).getD 0) ++ beBytes 2 ((o.map Reel.lids).getD 0)

/-- The Reels record (R73). -/
def reelsRecord (s : State) : List Byte :=
  reelBytes s.lid.active ++ reelBytes s.lid.standby ++
    (List.range s.laneCount).flatMap (fun k => byte (s.lid.fails.getD k 0)) ++ [s.lid.tripped]

/-- The grant of the Tray record. -/
def grantBytes (g : Option Grant) : List Byte :=
  boolByte g.isSome ++ byte ((g.map Grant.chamber).getD 0) ++ byte ((g.map Grant.lane).getD 0) ++
    clockBytes ((g.map Grant.time).getD 0#32)

/-- The Tray record (R89): the TRAY-PASS fields after the tray id, the dispatch fields, the close time remaining, the
arrival time and the arrival order. -/
def trayRecord (place : Nat) (t : Tray) (closeLeft : Nat) (arrivalTime arrivalOrder : BitVec 32) : List Byte :=
  byte place ++ trayIdBytes t.id ++ (payloadBytes (.trayPass (writeTrayPass 0#16 t))).drop 6 ++ idBytes 2 t.order ++
    idBytes 1 t.route ++ grantBytes t.grant ++ byte t.retry ++ byte t.dstate.code ++ beBytes 2 closeLeft ++
    clockBytes arrivalTime ++ clockBytes arrivalOrder

/-- The close time remaining in seconds (R89); how a part second is counted is open (log entry 10). -/
def closeRemaining (now : Nat) (deadline : Option Nat) : Nat :=
  match deadline with
  | none => 0
  | some d =>
    let ms := d - now
    ms / 1000 + (if ms % 1000 ≠ 0 && Config.partSecondCounts ms then 1 else 0)

/-- The knee after the guard of R96. -/
def usedKnee (r : LotRec) : Nat := max r.tref r.tk

/-- The lot fields of the Zone record (R105), absent where no lot is named or the entry is free. -/
def zoneLotBytes (s : State) (o : Option LotRec) : List Byte :=
  boolByte o.isSome ++ beBytes 3 ((o.map LotRec.id).getD 0) ++ beBytes 2 ((o.map LotRec.tref).getD 0) ++
    beBytes 2 ((o.map usedKnee).getD 0) ++ beBytes 2 ((o.map (lotIncrement s)).getD 0)

/-- The last reading in the Zone record: presence 1, or 2 for a miss, whose T10 and valid bytes are sent as 0. DEDUCED (log
entry 12). -/
def readingBytes : Option LastReading → List Byte
  | none => byte 0 ++ beBytes 2 0 ++ byte 0
  | some .miss => byte 2 ++ beBytes 2 0 ++ byte 0
  | some (.value t valid) => byte 1 ++ temperatureBytes t ++ boolByte valid

/-- An optional temperature with its presence byte. -/
def presentTemperature (o : Option Int) : List Byte := boolByte o.isSome ++ temperatureBytes (o.getD 0)

/-- The Zone record (R105). -/
def zoneRecord (s : State) (o : Option LotRec) : List Byte :=
  presentBytes 2 s.exp.lastWidth ++ readingBytes s.exp.lastReading ++ presentTemperature s.exp.lastValid ++
    byte s.exp.probe.code ++ byte s.exp.bad ++ temperatureBytes (zoneTemperature s) ++ countBytes s.exp.invalid ++
    countBytes s.exp.fallbackSeconds ++ zoneLotBytes s o

/-- The Order record (R110, R180). The selector byte is 0 for PRIMARY; 1 for ALTERNATE is a DESIGN CHOICE (log entry 42). -/
def orderRecord (bank : Nat) (e : OrderEntry) : List Byte :=
  byte bank ++ byte e.state.code ++ beBytes 2 e.order ++ beBytes 2 e.product ++ beBytes 2 e.minUseBy ++
    beBytes 2 e.quantity ++ beBytes 2 e.assigned ++ clockBytes e.cutOff ++ byte e.primary ++ byte e.alternate ++
    boolByte e.onAlternate

/-- The Lane record (R148). -/
def laneRecord (n : Nat) (l : Lane) : List Byte :=
  byte n ++ byte l.use.code ++ beBytes 2 l.capacity ++ beBytes 2 l.occupancy ++ byte l.reserved ++ idBytes 2 l.order

/-- The last ask time in the Admission record: an entry has one while PENDING (R135); after that the bytes are an open value
(log entry 31). -/
def Admission.reportedAsk (e : Admission) : BitVec 32 :=
  if e.state = .pending then e.lastAsk else Config.pastLastAsk e.lastAsk e.stateTime

/-- The Admission record (R148): the entry's fields, then the lot id, product code, use-by day and exposure of its
manifest. -/
def admissionRecord (index : Nat) (e : Admission) (m : Option Manifest) : List Byte :=
  byte index ++ trayIdBytes e.tray ++ byte e.requester ++ idBytes 2 e.order ++ boolByte e.quarantine ++
    byte e.urgency.code ++ byte e.state.code ++ byte e.laneNo ++ clockBytes e.stateTime ++
    boolByte e.claimTime.isSome ++ clockBytes (e.claimTime.getD 0#32) ++ clockBytes e.reportedAsk ++
    clockBytes e.creation ++ clockBytes (e.inbound.getD 0#32) ++ idBytes 3 (m.bind Manifest.lot) ++
    idBytes 2 (m.bind Manifest.product) ++ presentBytes 2 (m.bind Manifest.useBy) ++
    beBytes 3 ((m.map Manifest.exposure).getD 0)

/-- The Trace record of an entry, in the form of the role that wrote it, with the held, free and reserved counts as that
form lists them (R127, R180). DEDUCED (log entry 22). -/
def traceRecord (s : State) (e : TraceEntry) : List Byte :=
  match e with
  | .release t lot product order chamber lane exposure urgency time =>
    trayIdBytes t ++ idBytes 3 lot ++ idBytes 2 product ++ idBytes 2 order ++ byte chamber ++ byte lane ++
      beBytes 3 exposure ++ byte urgency.code ++ clockBytes time ++ byte s.trc.entries.length ++ byte (traceFree s)
  | .chamber t outcome lane lot time =>
    trayIdBytes t ++ byte outcome.code ++ idBytes 1 lane ++ idBytes 3 lot ++ clockBytes time ++
      byte s.trc.entries.length ++ byte (traceFree s) ++ byte (reservedTotal s)

/-- The age of a peer entry in ms: 0 for the station's own and until a report has been accepted (R160, log entry 16). -/
def peerAge (s : State) (station : Nat) : Nat :=
  if station = s.own then 0
  else (((s.lnk.peers[station - 1]?).bind Peer.since).map (fun t => s.nowMs - t)).getD 0

/-- The Peers record (R161). -/
def peersRecord (s : State) : List Byte :=
  (List.range 30).flatMap (fun i =>
    byte (((peerMode s (i + 1)).map Mode.code).getD 0) ++ beBytes 2 (min 65535 (peerAge s (i + 1))))

/-- The Setting record (R181): two's complement in 4 bytes. -/
def settingRecord (v : Int) : List Byte := beBytes 4 (BitVec.ofInt 32 v).toNat

/-! ### The Status record (R176, R180) -/

/-- The common part. -/
def statusCommon (s : State) : List Byte :=
  byte s.role.code ++ byte s.own ++ byte s.mode.code ++ [s.stc.causes] ++ byte (faultCode s.stc.fault) ++
    clockBytes s.stc.clock ++ beBytes 2 s.stc.day.toNat ++ beBytes 4 s.stc.latched.toNat ++
    beBytes 4 s.noticeMask.toNat ++ boolByte s.out.attention ++ countBytes s.port.lost

/-- The IDX part (R21). -/
def statusIdx (s : State) : List Byte :=
  if s.role.isRow then
    countBytes s.idx.unknownRejects ++ countBytes s.idx.lost ++ countBytes s.idx.untracked ++
      beBytes 2 s.idx.posCount ++ beBytes 2 s.idx.debt
  else []

/-- A field of a side or store of the role; of one the role does not keep it is sent as 0 (R180). -/
def keptBytes (kept : Bool) (bs : List Byte) : List Byte := if kept then bs else List.replicate bs.length 0#8

/-- The HND part (R38, R40), its incoming side and its outgoing side as the role keeps them; every role but CHAMBER uses
HND. -/
def statusHnd (s : State) : List Byte :=
  if s.role = .chamber then []
  else
    keptBytes s.role.hasIncoming
        (beBytes 2 s.hnd.expected.toNat ++ byte s.hnd.room ++ beBytes 2 s.hnd.advertised.toNat) ++
      keptBytes s.role.hasOutgoing
        (beBytes 2 s.hnd.nextSeq.toNat ++ boolByte s.hnd.held.isSome ++
          beBytes 2 ((s.hnd.held.map (fun h => h.limit.toNat)).getD 0) ++
          beBytes 2 ((s.hnd.held.map (fun h => min 65535 (s.nowMs - h.since))).getD 0)) ++
      keptBytes s.role.hasIncoming
        (countBytes s.hnd.missing ++ countBytes s.hnd.stray ++ countBytes s.hnd.dropped) ++
      keptBytes s.role.hasOutgoing (countBytes s.hnd.resync)

/-- The number of lots in a state. -/
def lotsIn (s : State) (st : LotState) : Nat := (s.lot.table.filter (fun o => o.any (fun r => r.state = st))).length

/-- The LOT part (R60), with FILLER's own fields. -/
def statusLot (s : State) : List Byte :=
  if s.role.holdsLots then
    byte (lotsIn s .opened) ++ byte (lotsIn s .closed) ++ byte (lotsIn s .retired) ++ countBytes s.lot.discards ++
      (if s.role = .filler then
        beBytes 3 (((openLotRec s).map LotRec.id).getD 0) ++ presentBytes 1 s.lot.prevClass ++
          boolByte s.lot.sanitised ++ byte s.lot.pendingCloses.length
      else [])
  else []

/-- The LID part (R73). -/
def statusLid (s : State) : List Byte :=
  if s.role = .lidder then
    countBytes s.lid.applied ++ countBytes s.lid.splices ++ countBytes s.lid.mismatches ++ countBytes s.lid.bondFailures
  else []

/-- The trays in each store of the role, in the order of the store table of the Trays chapter (R87). A store of
another role has no byte. DESIGN CHOICE (log entry 48). -/
def storeCounts (s : State) : List Byte :=
  match s.role with
  | .trayer => boolByte s.tray.forming.isSome ++ byte s.tray.formed.length
  | .chill => byte s.tray.queue.length
  | .dispatch => byte (heldCount s.tray.cells)
  | _ => []

/-- The TRY part (R87). -/
def statusTry (s : State) : List Byte :=
  if trayRoles s.role then
    countBytes s.tray.lost ++ countBytes s.tray.unmatched ++ countBytes s.tray.untracked ++ storeCounts s
  else []

/-- One request slot (R128), with the tray id of the tray in its cell. -/
def slotBytes (s : State) (j : Nat) : List Byte :=
  match s.slot j with
  | none => List.replicate 7 0#8
  | some x =>
    byte x.phase.code ++ trayIdBytes (((s.cellAt x.cell).map (fun c => c.tray.id)).getD { origin := 0, seq := 0 }) ++
      byte x.target ++ byte x.attempts

/-- The DSP with TRC part (R128, R146): at CHAMBER the DSP fields are sent as 0, at DISPATCH the reserved count is 0. -/
def statusDsp (s : State) : List Byte :=
  if s.role = .dispatch then
    boolByte s.dsp.swap ++ (List.range 4).flatMap (slotBytes s) ++ byte ((s.dsp.release.map (· + 1)).getD 0) ++
      countBytes s.dsp.grants ++ countBytes s.dsp.noAnswers ++ countBytes s.dsp.unmatchedReplies ++
      countBytes s.dsp.routes ++ countBytes s.dsp.expiredGrants ++ countBytes s.dsp.releases ++
      countBytes s.dsp.unexpectedDone ++ countBytes s.dsp.unnamedTrays ++ byte s.trc.entries.length ++
      byte (traceFree s) ++ byte 0
  else if s.role = .chamber then
    List.replicate 62 0#8 ++ byte s.trc.entries.length ++ byte (traceFree s) ++ byte (reservedTotal s)
  else []

/-- The ADM part (R148). -/
def statusAdm (s : State) : List Byte :=
  if s.role = .chamber then
    byte (admissionsIn s .pending) ++ byte (admissionsIn s .ready) ++ byte (admissionsIn s .claimed) ++
      byte (admissionsIn s .inbound) ++ countBytes s.adm.admitted ++ countBytes s.adm.strays ++
      countBytes s.adm.untracedStrays ++ countBytes s.adm.missing ++ countBytes s.adm.unclaimed ++
      countBytes s.adm.lapsed ++ countBytes s.adm.withdrawn ++ countBytes s.adm.manifestDropped ++
      countBytes s.adm.expiredManifests ++ countBytes s.adm.unansweredAsks ++ countBytes s.adm.droppedPasses ++
      countBytes s.adm.droppedNotes
  else []

/-- The LNK part (R161). -/
def statusLnk (s : State) : List Byte :=
  boolByte s.lnk.creditSlot.isSome ++ byte s.lnk.answerQ.length ++ byte s.lnk.mainQ.length ++
    boolByte s.lnk.pendingState.isSome ++ byte s.lnk.failures ++ boolByte (s.hasCause .link) ++
    countBytes s.lnk.badFrames ++ countBytes s.lnk.malformed ++ countBytes s.lnk.noUse ++
    countBytes s.lnk.transmitted ++ countBytes s.lnk.txFailures

/-- A part preceded by its length in 1 byte. -/
def sized (part : List Byte) : List Byte := byte part.length ++ part

/-- The Status record. -/
def statusRecord (s : State) : List Byte :=
  statusCommon s ++ sized (statusIdx s) ++ sized (statusHnd s) ++ sized (statusLot s) ++ sized (statusLid s) ++
    sized (statusTry s) ++ sized (statusDsp s) ++ sized (statusAdm s) ++ sized (statusLnk s)

end Sys2Proof.Machine
end

