-- ==== Sys2Proof/Machine/TrayOps.lean ====
section
/-! DEFINITION. Machine/TrayOps.lean: the shared operations of the Tray Unit: starting, joining and closing a tray at
TRAYER (R78, R79), writing a tray off (R80), sending the head on (R26, R81, R83), and placing a tray (R82, R85). -/

namespace Sys2Proof.Machine

/-- A new tray of a row's lot (R78): the product and use-by day are read from the lot table where the lot is held; a tray of
absent lot is quarantined. It holds GREEN until EXP classes it (R100). -/
def newTray (s : State) (lot : Option Nat) : Tray :=
  { id := { origin := 0, seq := 0 }, lot, product := (lotOf s lot).map LotRec.product,
    useBy := (lotOf s lot).map LotRec.useBy, rows := 0, pots := 0, short := false, exposure := 0, urgency := .green,
    quarantine := lot.isNone, order := none, route := none, grant := none, retry := 0, dstate := .unasked,
    chambers := none }

/-- The tray of an unannounced arrival (R82, R100). -/
def strayTray : Tray :=
  { id := { origin := 0, seq := 0 }, lot := none, product := none, useBy := none, rows := 1, pots := 1, short := true,
    exposure := 0, urgency := .green, quarantine := true, order := none, route := none, grant := none, retry := 0,
    dstate := .unasked, chambers := none }

/-- The next tray sequence, which wraps from 1,048,575 to 1 (R79). -/
def nextTraySeq (n : Nat) : Nat := if n = 1048575 then 1 else n + 1

/-- The tray under construction takes its tray id and joins the formed-tray queue (R79). While the queue is full the close
is held back and the tray stays under construction. -/
def closeTray (short : Bool) (s : State) : State :=
  match s.tray.forming with
  | none => s
  | some f =>
    if formedFull s then { s with tray.forming := some { f with closeDue := true } }
    else
      { s with
        tray.forming := none
        tray.formed := s.tray.formed ++
          [{ f.tray with id := { origin := s.own, seq := s.tray.nextSeq }, short := f.tray.short || short }]
        tray.nextSeq := nextTraySeq s.tray.nextSeq }

/-- A held-back close takes place when the queue has ceased to be full (R79, R81). -/
def closeHeldBack (s : State) : State :=
  if s.tray.forming.any Forming.closeDue && !formedFull s then closeTray true s else s

/-- In DRAINING the tray under construction closes short once the window holds no row with pots and the row arrivals list is
empty (R79). -/
def closeOnDrain (s : State) : State :=
  if s.role = .trayer && s.mode = .draining && s.tray.forming.isSome && s.hnd.rowArrivals.isEmpty &&
      !s.idx.window.any (fun o => o.any (fun r => r.body.hasPots)) then closeTray true s
  else s

/-- The tray as a row joins it (R78, steps 1 to 3). -/
def Tray.join (t : Tray) (b : RowBody) : Tray :=
  { t with
    rows := t.rows + 1
    pots := t.pots + b.potCount
    exposure := max t.exposure b.exposure
    quarantine := t.quarantine || b.uncertain }

/-- Starts a new tray from a row where none is under construction: LOT counts the tray as naming the lot (R78, R47). -/
def startTray (lot : Option Nat) (s : State) : State :=
  if s.tray.forming.isSome then s
  else lotArrive lot { s with tray.forming := some { tray := newTray s lot, deadline := none, closeDue := false } }

/-- A row joins the tray under construction (R78, steps 1 to 7). -/
def joinTray (b : RowBody) (s : State) : State :=
  match s.tray.forming with
  | none => s
  | some f =>
    let t := classifyTray (lotOf s b.lot) (f.tray.join b)
    let u := lotDepart b.lot
      { s with tray.forming := some { f with tray := t, deadline := some (s.nowMs + s.closeMs) } }
    if t.rows = s.rowsPerTray then closeTray false u else u

/-- A row that leaves the window into tray forming (R11, R78): a tray of another lot closes short first. -/
def formRow (b : RowBody) (s : State) : State :=
  let t := if s.tray.forming.any (fun f => f.tray.lot ≠ b.lot) then closeTray true s else s
  joinTray b (startTray b.lot t)

/-- Steps 2 to 4 of a write-off at an exit (R80). -/
def writeOffTray (t : Tray) (s : State) : State :=
  let u := lotDepart t.lot s
  latch .overrun { u with tray.lost := bump u.tray.lost 1 }

/-- HND takes the next sequence and a TRAY-PASS carrying the head tray is queued to the downstream neighbour; the tray is
reported to LOT as leaving (R26, R81, R83). -/
def sendTray (t : Tray) (s : State) : State :=
  let u := pushMain (frameTo s.downstream (.trayPass (writeTrayPass s.hnd.nextSeq t))) s
  lotDepart t.lot { u with hnd.nextSeq := s.hnd.nextSeq + 1#16 }

/-- The head tray, already out of its store, is sent where it may leave and written off otherwise. `may` is the sending rule
with the main queue, as they stood. -/
def releaseHead (may : Bool) (t : Tray) (s : State) : State := if may then sendTray t s else writeOffTray t s

/-- A tray written off at the infeed has not entered a store (R80): it is counted and OVERRUN is latched. -/
def refuseTray (s : State) : State := latch .overrun { s with tray.lost := bump s.tray.lost 1 }

/-- LOT counts a tray that enters CHILL or DISPATCH: its record names the lot, and the lot's pots received rise by its pot
count (R47, R57). -/
def receiveTray (t : Tray) (s : State) : State :=
  updateNamed t.lot (fun r => { r with potsReceived := bump r.potsReceived t.pots }) (lotArrive t.lot s)

/-- CHILL places a tray (R82). -/
def placeInQueue (t : Tray) (s : State) : State :=
  if s.tray.queue.length < queueCapacity then
    receiveTray t { s with tray.queue := s.tray.queue ++ [classifyTray (lotOf s t.lot) t] }
  else refuseTray s

/-- DISPATCH places a tray in the lowest-numbered free cell, and DSP routes it (R85, R112). -/
def placeInCell (t : Tray) (s : State) : State :=
  match lowestFree s.tray.cells with
  | none => refuseTray s
  | some i =>
    let c : Cell :=
      { tray := { classifyTray (lotOf s t.lot) t with
          order := none, route := none, grant := none, retry := 0, dstate := .unasked, chambers := none }
        arrivalTime := s.stc.clock
        arrivalOrder := s.tray.nextArrival }
    assignCell i
      (receiveTray t
        { s with tray.cells := s.tray.cells.set i (some c), tray.nextArrival := nextOrder s.tray.nextArrival })

/-- The cell of index `i` becomes empty and its tray is reported to LOT as leaving (R85). -/
def emptyCell (i : Nat) (s : State) : State :=
  match s.cellAt i with
  | none => s
  | some c => lotDepart c.tray.lot { s with tray.cells := s.tray.cells.set i none }

end Sys2Proof.Machine
end

