-- ==== Sys2Proof/Machine/WindowOps.lean ====
section
/-! DEFINITION. Machine/WindowOps.lean: the stages of the index event (R9 to R18) with pairing (R33, R34) and the lid and
bond treatments (R65 to R68, R71, R72). -/

namespace Sys2Proof.Machine

/-! ### Rows of the window -/

/-- Changes the row at window position `p`, where there is one. -/
def updateRow (p : Nat) (f : RowBody → RowBody) (s : State) : State :=
  { s with idx.window := modifyAt s.idx.window p (Option.map (fun r => { r with body := f r.body })) }

/-- The local row number after `n` (R6). -/
def nextRowNumber (n : Nat) : Nat := if n = 65535 then 1 else n + 1

/-- A row enters position 0 with the next local row number (R6, R8, R15). -/
def enterRow (b : RowBody) (s : State) : State :=
  { s with
    idx.window := some { number := s.idx.nextRow, body := b } :: s.idx.window.tail
    idx.nextRow := nextRowNumber s.idx.nextRow }

/-! ### Exit (R10 to R12) -/

/-- A row that cannot leave is written off (R12). -/
def writeOffRow (b : RowBody) (s : State) : State :=
  let u := lotDepart b.lot s
  latch .overrun { u with idx.lost := bump u.idx.lost b.potCount }

/-- A ROW-PASS carrying the row is queued to the downstream neighbour with the next sequence (R10, R26). -/
def sendRow (b : RowBody) (s : State) : State :=
  let u := pushMain (frameTo s.downstream (.rowPass (writeRowPass s.hnd.nextSeq b))) s
  lotDepart b.lot { u with hnd.nextSeq := s.hnd.nextSeq + 1#16 }

/-- The exit stage: the row at L-1 is dropped, leaves, joins tray forming or is written off (R10, R11, R12). -/
def exitStage (s : State) : State :=
  match s.rowAt (s.windowLength - 1) with
  | none => s
  | some r =>
    if !r.body.hasPots then lotDepart r.body.lot s
    else if s.role = .trayer then (if formedFull s then writeOffRow r.body s else formRow r.body s)
    else if maySend s then sendRow r.body s
    else writeOffRow r.body s

/-- The advance stage: every row moves up one position, and position 0 is empty (R9). -/
def advanceStage (s : State) : State :=
  { s with idx.window := none :: s.idx.window.take (s.windowLength - 1) }

/-! ### Fill (R13 to R16, R33, R34) -/

/-- Pots newly sensed, with the reasons given. -/
def sensedPots (lanes : List Bool) (reasons : BitVec 9) : List (Option Pot) :=
  lanes.map (fun b => if b then some (Pot.fresh reasons) else none)

/-- The lot's counts at the creation of a row with `n` pots at FILLER (R13, R14). -/
def LotRec.fill (r : LotRec) (n : Nat) : LotRec :=
  { r with
    purgeLeft := r.purgeLeft - 1
    rowsFilled := min 16777215 (r.rowsFilled + 1)
    potsFilled := bump r.potsFilled n }

/-- The reason every present pot of a new row carries, by the open lot (R14). -/
def fillReasons : Option LotRec → BitVec 9
  | none => Reason.unknownLot.mask
  | some r => if r.purgeLeft = 0 then 0#9 else Reason.purge.mask

/-- The row FILLER creates from the lanes sensed (R13, R14), before EXP classes it. -/
def filledRow (lot : Option LotRec) (lanes : List Bool) : RowBody :=
  { lot := lot.map LotRec.id, exposure := 0, purge := lot.any (fun r => r.purgeLeft ≠ 0), uncertain := false,
    pots := sensedPots lanes (fillReasons lot), urgency := none }

/-- FILLER creates a row: it takes its lot from the open lot, LOT counts it, EXP classes it (R8, R13, R14, R100). -/
def createRow (lanes : List Bool) (s : State) : State :=
  let lot := openLotRec s
  let b := filledRow lot lanes
  enterRow (classifyRow lot true b) (updateNamed b.lot (fun r => r.fill b.potCount) (lotArrive b.lot s))

/-- One lane of a pairing (R33): the announced pot where it is sensed, a STRAY pot where none was announced. -/
def pairLane (announced : Option Pot) (isSensed : Bool) : Option Pot :=
  match announced, isSensed with
  | some p, true => some p
  | none, true => some (Pot.fresh Reason.stray.mask)
  | _, false => none

/-- The announced pots that are not sensed (R33). -/
def missingPots (announced : List (Option Pot)) (lanes : List Bool) : Nat :=
  ((announced.zip lanes).filter (fun x => x.1.isSome && !x.2)).length

/-- The pots sensed where none was announced (R33). -/
def strayPots (announced : List (Option Pot)) (lanes : List Bool) : Nat :=
  ((announced.zip lanes).filter (fun x => x.1.isNone && x.2)).length

/-- The entering row of a pairing: announced lot, exposure and flags, pots as sensed, UNCERTAIN on every pot of an uncertain
row (R15, R33). -/
def pairedRow (b : RowBody) (lanes : List Bool) : RowBody :=
  let c := { b with pots := List.zipWith pairLane b.pots lanes }
  if b.uncertain then c.markAll .uncertain else c

/-- The row of a stray arrival (R34). -/
def strayRow (lanes : List Bool) : RowBody :=
  { lot := none, exposure := 0, purge := false, uncertain := false, pots := sensedPots lanes Reason.stray.mask,
    urgency := none }

/-- The oldest row arrivals entry is paired with the lanes sensed; an empty list makes a stray row and a stray advance
(R15, R33, R34, R57). -/
def pairRow (lanes : List Bool) (s : State) : State :=
  match s.hnd.rowArrivals with
  | [] =>
    let b := strayRow lanes
    enterRow b (strayAdvance { s with hnd.stray := bump s.hnd.stray b.potCount })
  | e :: rest =>
    let b := pairedRow e.body lanes
    let t := { s with
      hnd.rowArrivals := rest
      hnd.missing := bump s.hnd.missing (missingPots e.body.pots lanes)
      hnd.stray := bump s.hnd.stray (strayPots e.body.pots lanes) }
    let u := updateNamed b.lot (fun r => { r with potsReceived := bump r.potsReceived b.potCount }) t
    enterRow (classifyRow (lotOf u b.lot) true b) u

/-- The modes in which a sensed row becomes a record, by role (R16). -/
def fillAllowed (role : Role) (m : Mode) : Bool :=
  match role with
  | .filler => m = .running || m = .held || m = .fault
  | _ => m ≠ .sanitising

/-- The fill stage (R13 to R16): nothing sensed leaves position 0 empty. -/
def fillStage (presence : BitVec 8) (s : State) : State :=
  let n := sensedCount presence s.laneCount
  let lanes := sensedLanes presence s.laneCount
  if n = 0 then s
  else if !fillAllowed s.role s.mode then { s with idx.untracked := bump s.idx.untracked n }
  else if s.role = .filler then createRow lanes s
  else pairRow lanes s

/-! ### The lid position (R65 to R69) -/

/-- A pot to lid: present, with no reason and no lid (R66). -/
def Pot.toLid (p : Pot) : Bool := p.reasons = 0#9 && !p.lidded

/-- A reel matches a lot: same flavour and use-by day (R62). -/
def Reel.suits (r : Reel) (l : LotRec) : Bool := r.flavour = l.flavour && r.useBy = l.useBy

/-- An automatic splice (R65). -/
def splice (s : State) : State :=
  latch .reelSpliced
    { s with lid.active := s.lid.standby, lid.standby := none, lid.splices := bump s.lid.splices 1 }

/-- LID finds a row mismatched: the mismatch count, the cause and the notice (R67, R68, R69). -/
def reelMismatch (s : State) : State :=
  latch .lidMismatch (addCause .lidMismatch { s with lid.mismatches := bump s.lid.mismatches 1 })

/-- LID finds no reel: the cause and the notice (R66, R68, R69). -/
def reelsOut (s : State) : State := latch .noLids (addCause .noLids s)

/-- One lid is used: the count falls by 1 and the lids-applied count rises; an exhausted reel is spliced out at once (R65,
R68). -/
def useLid (r : Reel) (s : State) : State :=
  let t := { s with lid.applied := bump s.lid.applied 1 }
  if r.lids ≤ 1 then splice t else { t with lid.active := some { r with lids := r.lids - 1 } }

/-- Lids a row's pots in lane order, ACTIVE having been found to match (R68). Once a splice leaves no reel, or one that does
not match, every pot still to lid gains NO-LID, with the cause and notice of R69 added where there is such a pot. -/
def lidPots (l : LotRec) : List (Option Pot) → State → List (Option Pot) × State
  | [], s => ([], s)
  | none :: rest, s =>
    let (ps, t) := lidPots l rest s
    (none :: ps, t)
  | some p :: rest, s =>
    if !p.toLid then
      let (ps, t) := lidPots l rest s
      (some p :: ps, t)
    else
      match s.lid.active with
      | none => ((some p :: rest).map (Option.map (fun q => if q.toLid then q.mark .noLid else q)), reelsOut s)
      | some r =>
        if r.suits l then
          let (ps, t) := lidPots l rest (useLid r s)
          (some { p with lidded := true } :: ps, t)
        else
          ((some p :: rest).map (Option.map (fun q => if q.toLid then q.mark .noLid else q)), reelMismatch s)

/-- The row holds a pot to lid. -/
def RowBody.needsLid (b : RowBody) : Bool := b.pots.any (fun o => o.any Pot.toLid)

/-- The check of a row against ACTIVE (R67), and its lidding (R68). -/
def checkReel (p : Nat) (b : RowBody) (l : LotRec) (s : State) : State :=
  match s.lid.active with
  | none => s
  | some r =>
    if r.suits l then
      let (ps, t) := lidPots l b.pots s
      updateRow p (fun c => { c with pots := ps }) t
    else reelMismatch (updateRow p (fun c => c.markAll .lidMismatch) s)

/-- The lid treatment of the row at the lid position (R66). -/
def lidStage (s : State) : State :=
  let p := s.lidPos
  match s.rowAt p with
  | none => s
  | some r =>
    if !r.body.needsLid then s
    else
      match lotOf s r.body.lot with
      | none => s
      | some l =>
        if s.lid.active.isNone && s.lid.standby.isNone then
          reelsOut (updateRow p
            (fun c => { c with pots := c.pots.map (Option.map (fun q => if q.toLid then q.mark .noLid else q)) }) s)
        else checkReel p r.body l (if s.lid.active.isNone then splice s else s)

/-! ### The bond position (R71, R72) -/

/-- A lane reaches 3 consecutive failures (R72). -/
def tripLane (k : Nat) (s : State) : State :=
  addCause .bond
    (latch .bondLane
      { s with lid.fails := s.lid.fails.set k 0, lid.tripped := s.lid.tripped ||| BitVec.twoPow 8 k })

/-- One lane's bond sample, lane `k + 1` (R71). -/
def bondLane (p k : Nat) (pass : Bool) (s : State) : State :=
  if pass then { s with lid.fails := s.lid.fails.set k 0 }
  else
    let t := updateRow p (fun b => { b with pots := modifyAt b.pots k (Option.map (fun q => q.mark .bond)) }) s
    let n := s.lid.fails.getD k 0 + 1
    let u := { t with lid.bondFailures := bump t.lid.bondFailures 1, lid.fails := t.lid.fails.set k n }
    if 3 ≤ n then tripLane k u else u

/-- The bond samples of the lanes given, in order: a lane without a lidded pot is not sampled (R71). -/
def bondLanes (p : Nat) (passes : BitVec 8) : List Nat → State → State
  | [], s => s
  | k :: ks, s =>
    let lidded := (s.rowAt p).any (fun r => (slotAt r.body.pots k).any Pot.lidded)
    bondLanes p passes ks (if lidded then bondLane p k (passes.getLsbD k) s else s)

/-- The bond treatment of the row at the bond position (R71). -/
def bondStage (passes : BitVec 8) (s : State) : State := bondLanes s.bondPos passes (List.range s.laneCount) s

/-! ### The gate (R17, R18) -/

/-- How many pots of a row the gate removes. -/
def RowBody.markedCount (b : RowBody) : Nat := (b.pots.filter (fun o => o.any Pot.marked)).length

/-- The pots that stay (R17). -/
def RowBody.gated (b : RowBody) : RowBody :=
  { b with pots := b.pots.map (fun o => o.bind (fun p => if p.marked then none else some p)) }

/-- The pulses after a gate treatment: each marked lane's output is driven for 50 ms from now (R18). -/
def gatePulses (now : Nat) (pots : List (Option Pot)) (pulses : List (Option Nat)) : List (Option Nat) :=
  List.zipWith (fun pulse o => if o.any Pot.marked then some (now + 50) else pulse) pulses pots

/-- LOT, or the unknown-lot reject count, takes the pots removed (R17). -/
def countRejects (lot : Option Nat) (n : Nat) (s : State) : State :=
  match lot with
  | none => { s with idx.unknownRejects := bump s.idx.unknownRejects n }
  | some id => updateLot id (fun r => { r with potsRejected := bump r.potsRejected n }) s

/-- The gate treatment of the row at the gate position (R17). -/
def gateStage (s : State) : State :=
  match s.rowAt s.gatePos with
  | none => s
  | some r =>
    countRejects r.body.lot r.body.markedCount
      (updateRow s.gatePos RowBody.gated
        { s with idx.pulses := gatePulses s.nowMs r.body.pots s.idx.pulses })

/-! ### The index event (R9) -/

/-- The treat stage: lid and bond at LIDDER, then the gate (R9). -/
def treatStage (passes : BitVec 8) (s : State) : State :=
  gateStage (if s.role = .lidder then bondStage passes (lidStage s) else s)

/-- What follows a change of a step from `s` to `t`: room and permit are worked out again, with a CREDIT at once where the
expected sequence has advanced by a stray (R34, R37, R38, R19). -/
def settleSince (s t : State) : State := if t.hnd.expected = s.hnd.expected then settleFlow t else settleAdvance t

/-- Stages 1 to 3 of an index event (R9). An entry that left the arrivals list, or a stray advance, makes its CREDIT here,
with the room as it stands before any row is treated (R34, R37, R38). -/
def fillWindow (presence : BitVec 8) (s : State) : State :=
  settleSince s (fillStage presence (advanceStage (exitStage s)))

/-- The four stages of an index event (R9), then TRAYER's drain condition (R79) and the flow: a cause that stage 4 adds
makes the room 0 after stage 3 has made its CREDIT (R37, R38). -/
def indexEvent (presence bondPass : BitVec 8) (s : State) : State :=
  settleFlow (closeOnDrain (treatStage bondPass (fillWindow presence s)))

/-- IDX takes counts (R2): at the row roles, in RUNNING, HELD, DRAINING, SANITISING and FAULT. -/
def takesCounts (s : State) : Bool := s.role.isRow && s.mode ≠ .starting && s.mode ≠ .configuring

/-- Step 1 of a TRACK-FAULT (R4): pots of rows below the gate gain UNCERTAIN; step 2: every row is marked uncertain. -/
def trackRows (gate : Nat) (w : List (Option Row)) : List (Option Row) :=
  w.mapIdx (fun p o => o.map (fun r =>
    { r with body := { (if p < gate then r.body.markAll .uncertain else r.body) with uncertain := true } }))

/-- A TRACK-FAULT (R4). One taken while TRACK is already a cause leaves the cause set and the latched notices as they
were. -/
def trackFault (s : State) : State :=
  let t := { s with idx.window := trackRows s.gatePos s.idx.window, idx.debt := 0 }
  if s.hasCause .track then t else latch .trackFault (addCause .track t)

end Sys2Proof.Machine
end

