-- ==== Sys2Proof/Machine/LinkOps.lean ====
section
/-! DEFINITION. Machine/LinkOps.lean: the receive side of LNK (R153 to R155, R162), the offer and its outcomes (R157,
R158), and the peer table (R160). -/

namespace Sys2Proof.Machine

/-! ### Receiving -/

/-- A received value matches a filter's value where the mask holds 1 (R154). -/
def maskMatch (value mask v : Nat) : Bool := (v ^^^ value) &&& mask = 0

/-- Acceptance filter `k`, 1 to 4, is enabled and matches a frame's kind and source (R154). -/
def filterMatches (s : State) (k : Nat) (kind : FrameKind) (source : Nat) : Bool :=
  s.num (30 + 5 * k) = 1 && maskMatch (s.num (31 + 5 * k)) (s.num (32 + 5 * k)) kind.code &&
    maskMatch (s.num (33 + 5 * k)) (s.num (34 + 5 * k)) source

/-- A frame that passes R153 is accepted: a directed one always, a broadcast where an enabled filter matches (R154). -/
def accepts (s : State) (kind : FrameKind) (source target : Nat) : Bool :=
  target ≠ 0 || filterMatches s 1 kind source || filterMatches s 2 kind source || filterMatches s 3 kind source ||
    filterMatches s 4 kind source

/-- The head of a frame of a kind whose class and length are the kind's. -/
def kindHead (kind : FrameKind) (src tgt : BitVec 5) : Head :=
  { cls := kind.cls, kind := kind.code, source := src.toNat, target := tgt.toNat, length := kind.length }

/-- A malformed frame is counted (R153, R160). -/
def countMalformed (s : State) : State := { s with lnk.malformed := bump s.lnk.malformed 1 }

/-- A frame is counted as of no use to the role (R155). -/
def countNoUse (s : State) : State := { s with lnk.noUse := bump s.lnk.noUse 1 }

/-- What LNK does with a frame whose CRC is good: the checks of R153, the discard of STARTING (R162), acceptance (R154),
the role's use (R155), and then the block that takes the kind. -/
def receive (kind : FrameKind) (src tgt : BitVec 5) (block : State → State) (s : State) : State :=
  match headVerdict s.own (kindHead kind src tgt) with
  | .malformed => countMalformed s
  | .bad | .notForUs => s
  | .good _ =>
    if s.mode = .starting then s
    else if !accepts s kind src.toNat tgt.toNat then s
    else if !s.role.uses kind then countNoUse s
    else block s

/-! ### The offer (R157) -/

/-- The frame LNK would offer at an idle bus: the credit slot, then the answer queue's head, then the main queue's. -/
def nextOffer (s : State) : Option (TxPlace × Frame) :=
  match s.lnk.creditSlot with
  | some f => some (.creditSlot, f)
  | none =>
    match s.lnk.answerQ with
    | f :: _ => some (.answerQueue, f)
    | [] =>
      match s.lnk.mainQ with
      | f :: _ => some (.mainQueue, f)
      | [] => none

/-- A sent frame leaves its place; one that a newer frame has replaced meanwhile is not there any more (R157). -/
def takeFromPlace (o : BusOffer) (s : State) : State :=
  if o.replaced then s
  else
    match o.place with
    | .creditSlot => { s with lnk.creditSlot := none }
    | .answerQueue => { s with lnk.answerQ := s.lnk.answerQ.tail }
    | .mainQueue => { s with lnk.mainQ := s.lnk.mainQ.tail }

/-- An ADMIT-ASK reported sent starts the answer timer of the ASKING slot whose latest ask it is (R118). -/
def startAnswerTimers (f : Frame) (s : State) : State :=
  match f.payload with
  | .admitAsk _ =>
    { s with dsp.slots := s.dsp.slots.map (Option.map (fun x =>
        if x.phase = .asking && x.latestAsk = f.serial then { x with answerAt := some (s.nowMs + s.answerMs) } else x)) }
  | _ => s

/-- A transmit failure (R158): both counts rise, and at 64 the cause LINK is added and LINK-FAIL latched. -/
def transmitFailure (s : State) : State :=
  let n := min 255 (s.lnk.failures + 1)
  let t := { s with lnk.failures := n, lnk.txFailures := bump s.lnk.txFailures 1 }
  if s.lnk.failures + 1 = 64 then settleFlow (latch .linkFail (addCause .link t)) else t

/-! ### The peer table (R160) -/

/-- Sets the entry of a station. -/
def setPeer (station : Nat) (p : Peer) (s : State) : State :=
  { s with lnk.peers := s.lnk.peers.set (station - 1) p }

/-- Every entry UNKNOWN with age 0; the station's own is read from its mode (R160, log entry 16). -/
def forgetPeers (s : State) : State :=
  { s with lnk.peers := List.replicate 30 { mode := none, since := none } }

end Sys2Proof.Machine
end

