-- ==== Sys2Proof/Machine/Window.lean ====
section
/-! DEFINITION. Machine/Window.lean: the commands of the Index Tracker (chapter 1): FORCE_REJECT, READ_ROW, FORWARD_COUNT,
REVERSE_COUNT, REJECT_PULSE_END. -/

namespace Sys2Proof.Machine

/-- A forward count (R2, R3): it repays debt, or advances the position count, or causes an index event. -/
def forwardStep (presence bondPass : BitVec 8) (s : State) : State :=
  if !takesCounts s then s
  else if 0 < s.idx.debt then { s with idx.debt := s.idx.debt - 1 }
  else if s.idx.posCount + 1 < s.countsPerIndex then { s with idx.posCount := s.idx.posCount + 1 }
  else indexEvent presence bondPass { s with idx.posCount := 0 }

/-- FORWARD_COUNT (R2, R3, R9 to R19). -/
def execForwardCount (presence bondPass : BitVec 8) (s : State) : Host.Outcome State Fault Refusal :=
  .next (forwardStep presence bondPass s)

/-- A reverse count (R2, R4): it adds to the debt, or is a TRACK-FAULT. -/
def reverseStep (s : State) : State :=
  if !takesCounts s then s
  else if s.idx.debt < s.countsPerIndex then { s with idx.debt := s.idx.debt + 1 }
  else settleFlow (trackFault s)

/-- REVERSE_COUNT (R2, R4). -/
def execReverseCount (s : State) : Host.Outcome State Fault Refusal := .next (reverseStep s)

/-- The pulse of lane `lane` runs out and its output turns off (R18); with no pulse running nothing changes. -/
def pulseEnd (lane : Nat) (s : State) : State :=
  if lane = 0 then s
  else
    match slotAt s.idx.pulses (lane - 1) with
    | none => s
    | some d => timeTo d { s with idx.pulses := s.idx.pulses.set (lane - 1) none }

/-- REJECT_PULSE_END (R18). -/
def execRejectPulseEnd (lane : Nat) (s : State) : Host.Outcome State Fault Refusal := .next (pulseEnd lane s)

/-- The modes in which FORCE-REJECT is refused (R22). -/
def forceRejectBarred (m : Mode) : Bool := m = .starting || m = .configuring || m = .sanitising

/-- The rule of FORCE-REJECT (R22); lane 0 is ALL. -/
def forceRejectOwn (position lane : BitVec 8) (s : State) : Reply :=
  let p := position.toNat
  let n := lane.toNat
  if forceRejectBarred s.mode then refuse .badMode s
  else if s.windowLength ≤ p || s.gatePos ≤ p || s.laneCount < n then refuse .badValue s
  else
    match s.rowAt p with
    | none => refuse .empty s
    | some r =>
      if n = 0 then
        if r.body.hasPots then accept (updateRow p (fun b => b.markAll .host) s) else refuse .empty s
      else if (slotAt r.body.pots (n - 1)).isSome then
        accept (updateRow p
          (fun b => { b with pots := modifyAt b.pots (n - 1) (Option.map (fun q => q.mark .host)) }) s)
      else refuse .empty s

/-- FORCE_REJECT (R22). -/
def execForceReject (h : CmdHead) (position lane : BitVec 8) (s : State) : Host.Outcome State Fault Refusal :=
  .next (portCommand 0x10 2 false Role.isRow true (forceRejectOwn position lane) h s)

/-- The rule of READ-ROW (R23). -/
def readRowOwn (position : BitVec 8) (s : State) : Reply :=
  let p := position.toNat
  if s.windowLength ≤ p then refuse .badValue s
  else
    match s.rowAt p with
    | none => refuse .empty s
    | some r => report (rowRecord s p r) s

/-- READ_ROW (R23). -/
def execReadRow (h : CmdHead) (position : BitVec 8) (s : State) : Host.Outcome State Fault Refusal :=
  .next (portCommand 0x11 1 false Role.isRow true (readRowOwn position) h s)

end Sys2Proof.Machine
end

