-- ==== Sys2Proof/Machine/Handoff.lean ====
section
/-! DEFINITION. Machine/Handoff.lean: the commands of the Handoff Unit (chapter 2): READ_ARRIVAL, CREDIT, CREDIT_EXPIRY,
CREDIT_REFRESH, ROW_PASS, TRAY_PASS, TRANSIT_LIMIT_EXPIRY. -/

namespace Sys2Proof.Machine

/-- The rule of READ-ARRIVAL (R41). -/
def readArrivalOwn (index : BitVec 8) (s : State) : Reply :=
  let k := index.toNat
  if 7 < k then refuse .badValue s
  else if s.role.isRow then
    match s.hnd.rowArrivals[k]? with
    | none => refuse .empty s
    | some e => report (rowArrivalRecord s e) s
  else
    match s.hnd.trayArrivals[k]? with
    | none => refuse .empty s
    | some e => report (trayArrivalRecord s e) s

/-- READ_ARRIVAL (R41). -/
def execReadArrival (h : CmdHead) (index : BitVec 8) (s : State) : Host.Outcome State Fault Refusal :=
  .next (portCommand 0x12 1 false arrivalRoles true (readArrivalOwn index) h s)

/-- Step 3 of R28: the next sequence on a CREDIT whose receiver expects `expected`, and whether that is a
resynchronisation to be counted. -/
def resyncOf (everHeld : Bool) (next expected : BitVec 16) : BitVec 16 × Bool :=
  if !everHeld then (expected, false)
  else if (next - expected).toNat ≤ 8 then (next, false)
  else (expected, true)

/-- HND takes a CREDIT (R28): only one from the downstream neighbour counts. -/
def takeCredit (source : Nat) (limit : BitVec 16) (room : BitVec 8) (s : State) : State :=
  if source ≠ s.downstream then s
  else
    let r := resyncOf s.hnd.everHeld s.hnd.nextSeq (limit - room.setWidth 16)
    settleFlow
      { s with
        hnd.held := some { limit, since := s.nowMs }
        hnd.everHeld := true
        hnd.inLoss := false
        hnd.nextSeq := r.1
        hnd.resync := if r.2 then bump s.hnd.resync 1 else s.hnd.resync }

/-- CREDIT (R28, R153 to R155). -/
def execCredit (src tgt : BitVec 5) (limit : BitVec 16) (room : BitVec 8) (s : State) :
    Host.Outcome State Fault Refusal :=
  .next (receive .credit src tgt (takeCredit src.toNat limit room) s)

/-- The held limit lapses (R29): CREDIT-EXPIRED is latched once per loss, and the permit is worked out again. At a
role with no outgoing side, which a role write can leave with a limit, it lapses all the same. DESIGN CHOICE (log entry 44). -/
def creditLapse (s : State) : State :=
  match s.hnd.held with
  | none => s
  | some h =>
    let t := timeTo (h.since + s.creditExpiryMs) { s with hnd.held := none, hnd.inLoss := true }
    settleFlow (if s.hnd.inLoss then t else latch .creditExpired t)

/-- CREDIT_EXPIRY (R29). -/
def execCreditExpiry (s : State) : Host.Outcome State Fault Refusal := .next (creditLapse s)

/-- The credit refresh period passes (R38): a CREDIT is placed and the period restarts. It does not run in STARTING. -/
def refreshCredit (s : State) : State :=
  match s.hnd.refreshAt with
  | none => s
  | some d =>
    let t := timeTo d s
    placeCredit { t with hnd.refreshAt := some (t.nowMs + s.refreshMs) }

/-- CREDIT_REFRESH (R38). -/
def execCreditRefresh (s : State) : Host.Outcome State Fault Refusal := .next (refreshCredit s)

/-- The modes in which a pass is accepted (R31). -/
def passMode (m : Mode) : Bool := m = .running || m = .held || m = .draining || m = .fault

/-- A pass is dropped and counted (R31). -/
def dropPass (s : State) : State := { s with hnd.dropped := bump s.hnd.dropped 1 }

/-- A pass finding the list full (R32). -/
def creditViolation (s : State) : State := latch .creditViolation (dropPass s)

/-- Step 2 of an acceptance: an announced lot the table does not hold is made absent (R31, R58). -/
def heldLot (s : State) (o : Option Nat) : Option Nat := (lotOf s o).map LotRec.id

/-- A ROW-PASS is accepted (R31): the expected sequence follows it, the lot is checked, the entry joins and is classed. -/
def acceptRow (seq : BitVec 16) (b : RowBody) (s : State) : State :=
  let lot := heldLot s b.lot
  let c := classifyRow (lotOf s lot) true { b with lot }
  settleFlow
    (lotArrive lot
      { s with
        hnd.expected := seq + 1#16
        hnd.rowArrivals := s.hnd.rowArrivals ++ [{ body := c, seq, since := s.nowMs }] })

/-- The checks of a ROW-PASS, in their order (R31, R32). -/
def takeRowPass (source : Nat) (p : RowPassFields) (s : State) : State :=
  if source ≠ s.upstream then dropPass s
  else if !passMode s.mode then dropPass s
  else if s.hnd.rowArrivals.any (fun e => e.seq = p.seq) then dropPass s
  else if arrivalsCapacity ≤ s.hnd.rowArrivals.length then creditViolation s
  else acceptRow p.seq (readRowPass p) s

/-- ROW_PASS (R31, R32, R153 to R155). -/
def execRowPass (src tgt : BitVec 5) (p : RowPassFields) (s : State) : Host.Outcome State Fault Refusal :=
  .next (receive .rowPass src tgt (takeRowPass src.toNat p) s)

/-- A TRAY-PASS is accepted at CHILL or DISPATCH (R31): a tray whose announced lot is made absent is quarantined. -/
def acceptTray (seq : BitVec 16) (t : Tray) (s : State) : State :=
  let lot := heldLot s t.lot
  let c := classifyTray (lotOf s lot) { t with lot, quarantine := t.quarantine || (t.lot.isSome && lot.isNone) }
  settleFlow
    (lotArrive lot
      { s with
        hnd.expected := seq + 1#16
        hnd.trayArrivals := s.hnd.trayArrivals ++ [{ tray := c, seq, since := s.nowMs }] })

/-- The checks of a TRAY-PASS at CHILL and DISPATCH, in their order (R31, R32). -/
def takeTrayPass (source : Nat) (p : TrayPassFields) (s : State) : State :=
  if source ≠ s.upstream then dropPass s
  else if !passMode s.mode then dropPass s
  else if s.hnd.trayArrivals.any (fun e => e.seq = p.seq) then dropPass s
  else if arrivalsCapacity ≤ s.hnd.trayArrivals.length then creditViolation s
  else acceptTray p.seq (readTrayPass p) s

/-- The oldest arrivals entry is older than the transit limit (R36): it leaves as missing. -/
def expireArrival (s : State) : State :=
  if s.role.isRow then
    match s.hnd.rowArrivals with
    | [] => s
    | e :: rest =>
      let t := timeTo (e.since + s.transitMs)
        { s with hnd.rowArrivals := rest, hnd.missing := bump s.hnd.missing e.body.potCount }
      settleFlow (closeOnDrain (latch .missing (lotDepart e.body.lot t)))
  else
    match s.hnd.trayArrivals with
    | [] => s
    | e :: rest =>
      let t := timeTo (e.since + s.transitMs)
        { s with hnd.trayArrivals := rest, hnd.missing := bump s.hnd.missing 1 }
      settleFlow (latch .missing (lotDepart e.tray.lot t))

/-- TRANSIT_LIMIT_EXPIRY (R36). -/
def execTransitLimitExpiry (s : State) : Host.Outcome State Fault Refusal := .next (expireArrival s)

end Sys2Proof.Machine
end

