-- ==== Sys2Proof/Machine/Lots.lean ====
section
/-! DEFINITION. Machine/Lots.lean: the commands of the Lot Unit (chapter 3): WRITE_PRODUCT, WRITE_TRANSITION, OPEN_LOT,
CLOSE_LOT, READ_LOT, LOT_OPEN, LOT_CLOSE_FRAME, LOT_OPEN_REPETITION, PENDING_LOT_FRAMES_QUEUED. -/

namespace Sys2Proof.Machine

/-! ### The working store (R43, R44, R164, R165) -/

/-- The working sum is brought up to date after an accepted write (R164, R165). -/
def resum (s : State) : State :=
  { s with stc.workingSum :=
      wordSum (storeWords s.stc.settings s.stc.products s.stc.transitions s.adm.lanes) }

/-- The fields of WRITE-PRODUCT as given, the temperatures signed (R180). -/
def givenProduct (p : ProductFields) : Nat × Nat × Nat × Nat × Int × Int × Nat :=
  (p.code.toNat, p.flavour.toNat, p.cls.toNat, p.allowance.toNat, p.tref.toInt, p.tk.toInt, p.shelf.toNat)

/-- Every field of R43 settled in table order: the reference before the knee (R43). -/
def settleProduct (p : ProductFields) : Product :=
  let tref := clampInt 0 150 p.tref.toInt
  { code := clampNat 1 9999 p.code.toNat
    flavour := clampNat 1 255 p.flavour.toNat
    cls := clampNat 0 7 p.cls.toNat
    allowance := clampNat 0 16777215 p.allowance.toNat
    tref := tref.toNat
    tk := (clampInt tref 400 p.tk.toInt).toNat
    shelf := clampNat 1 60 p.shelf.toNat }

/-- Every field lies within its range (R43). -/
def productInRange (p : ProductFields) : Bool :=
  let q := settleProduct p
  givenProduct p = (q.code, q.flavour, q.cls, q.allowance, (q.tref : Int), (q.tk : Int), q.shelf)

/-- Writes an entry of the product table (R43). -/
def setProduct (i : Nat) (o : Option Product) (s : State) : State :=
  resum { s with stc.products := s.stc.products.set i o }

/-- The rule of WRITE-PRODUCT (R43); an EMPTY mark of 1 means EMPTY (R180, log entry 14). -/
def writeProductOwn (index emptyMark : BitVec 8) (p : ProductFields) (s : State) : Reply :=
  let i := index.toNat
  if s.mode ≠ .configuring then refuse .badMode s
  else if 31 < i then refuse .badValue s
  else if emptyMark = 1#8 then accept (setProduct i none s)
  else
    { status := if productInRange p then .ok else .clamped
      data := []
      state := setProduct i (some (settleProduct p)) s }

/-- WRITE_PRODUCT (R43). -/
def execWriteProduct (h : CmdHead) (index emptyMark : BitVec 8) (p : ProductFields) (s : State) :
    Host.Outcome State Fault Refusal :=
  .next (portCommand 0x18 14 false (onlyRole .filler) true (writeProductOwn index emptyMark p) h s)

/-- The entry a kind code and a count give, the PURGE count moved into 1 to 15 (R44). -/
def readTransition (kind count : Nat) : Transition :=
  match kind with
  | 0 => .free
  | 1 => .purge (clampNat 1 15 count)
  | _ => .sanitise

/-- Writes an entry of the transition table (R44). -/
def setTransition (i : Nat) (e : Transition) (s : State) : State :=
  resum { s with stc.transitions := s.stc.transitions.set i e }

/-- The rule of WRITE-TRANSITION (R44). -/
def writeTransitionOwn (prev next kind count : BitVec 8) (s : State) : Reply :=
  if s.mode ≠ .configuring then refuse .badMode s
  else if 7 < prev.toNat || 7 < next.toNat then refuse .badValue s
  else
    { status := if kind = 1#8 && (count.toNat < 1 || 15 < count.toNat) then .clamped else .ok
      data := []
      state := setTransition (8 * prev.toNat + next.toNat) (readTransition kind.toNat count.toNat) s }

/-- WRITE_TRANSITION (R44). -/
def execWriteTransition (h : CmdHead) (prev next kind count : BitVec 8) (s : State) :
    Host.Outcome State Fault Refusal :=
  .next (portCommand 0x19 4 false (onlyRole .filler) (kindAssigned kind) (writeTransitionOwn prev next kind count) h s)

/-! ### Opening and closing at FILLER (R50 to R53) -/

/-- The transition for a new lot of class `q` (R49): FREE with the previous class absent. -/
def transitionFor (s : State) (q : Nat) : Transition :=
  match s.lot.prevClass with
  | none => .free
  | some p => s.stc.transitions.getD (8 * p + q) .sanitise

/-- The lot table as it would stand with the open lot closed (R50). -/
def tableAfterClose (s : State) : List (Option LotRec) :=
  match s.lot.openIdx with
  | none => s.lot.table
  | some i => (closeEntry i s).lot.table

/-- The purge rows a transition asks for (R51, step 4). -/
def purgeRows : Transition → Nat
  | .purge n => n
  | _ => 0

/-- The new lot's record (R51, steps 3 and 4). Its close order, which R48 stamps at a close, is 0 until then. DEDUCED (log
entry 12). -/
def newLotRec (s : State) (p : Product) (tank lot : Nat) : LotRec :=
  { id := lot, origin := s.own, product := p.code, flavour := p.flavour, cls := p.cls, tank,
    useBy := min 65535 (s.stc.day.toNat + p.shelf), allowance := p.allowance, tref := p.tref, tk := p.tk,
    state := .opened, refs := 0, closeOrder := 0#32, closeTime := none, purgeLeft := purgeRows (transitionFor s p.cls),
    rowsFilled := 0, potsFilled := 0, potsReceived := 0, potsRejected := 0 }

/-- OPEN-LOT carried out (R51): the open lot is closed, the new one takes its place, and is announced. -/
def openLotSteps (p : Product) (tank lot : Nat) (s : State) : State :=
  let r := newLotRec s p tank lot
  let t := closeOpenLot s
  match findPlace t.lot.table with
  | none => t
  | some i =>
    settleFlow (announceOpen
      { t with
        lot.table := t.lot.table.set i (some r)
        lot.openIdx := some i
        lot.prevClass := some p.cls
        lot.sanitised := false })

/-- The rule of OPEN-LOT: the checks of R50 in their order, then R51. -/
def openLotOwn (index tank : BitVec 8) (lot : BitVec 24) (s : State) : Reply :=
  if s.mode ≠ .running && s.mode ≠ .held then refuse .badMode s
  else
    match slotAt s.stc.products index.toNat with
    | none => refuse .badValue s
    | some p =>
      if tank.toNat < 1 || 16 < tank.toNat || lot.toNat = 0 then refuse .badValue s
      else if (findLot s lot.toNat).isSome then refuse .duplicate s
      else if (findPlace (tableAfterClose s)).isNone then refuse .full s
      else if transitionFor s p.cls = .sanitise && !s.lot.sanitised then refuse .barred s
      else if !s.lot.pendingCloses.isEmpty then refuse .busy s
      else accept (openLotSteps p tank.toNat lot.toNat s)

/-- OPEN_LOT (R50, R51). -/
def execOpenLot (h : CmdHead) (index tank : BitVec 8) (lot : BitVec 24) (s : State) :
    Host.Outcome State Fault Refusal :=
  .next (portCommand 0x1A 5 false (onlyRole .filler) true (openLotOwn index tank lot) h s)

/-- The rule of CLOSE-LOT (R52). -/
def closeLotOwn (s : State) : Reply :=
  if s.mode ≠ .running && s.mode ≠ .held then refuse .badMode s
  else if s.lot.openIdx.isNone then refuse .empty s
  else if !s.lot.pendingCloses.isEmpty then refuse .busy s
  else accept (settleFlow (closeOpenLot s))

/-- CLOSE_LOT (R52). -/
def execCloseLot (h : CmdHead) (s : State) : Host.Outcome State Fault Refusal :=
  .next (portCommand 0x1B 0 false (onlyRole .filler) true closeLotOwn h s)

/-- The rule of READ-LOT (R60). -/
def readLotOwn (index : BitVec 8) (s : State) : Reply :=
  let i := index.toNat
  if 15 < i then refuse .badValue s
  else
    match slotAt s.lot.table i with
    | none => refuse .empty s
    | some r => report (lotRecord r (s.lot.openIdx = some i)) s

/-- READ_LOT (R60). -/
def execReadLot (h : CmdHead) (index : BitVec 8) (s : State) : Host.Outcome State Fault Refusal :=
  .next (portCommand 0x1C 1 false Role.holdsLots true (readLotOwn index) h s)

/-- The 5 s repetition falls due (R53); with no repetition running nothing changes. -/
def lotOpenRepeat (s : State) : State :=
  match s.lot.repeatAt with
  | none => s
  | some d => settleFlow (announceOpen (timeTo d s))

/-- LOT_OPEN_REPETITION (R53). -/
def execLotOpenRepetition (s : State) : Host.Outcome State Fault Refusal := .next (lotOpenRepeat s)

/-- Pending LOT-CLOSEs are queued oldest first while room remains (R53). -/
def queueCloses : List Nat → State → State
  | [], s => { s with lot.pendingCloses := [] }
  | id :: rest, s =>
    if mainHasRoom s 1 then queueCloses rest (pushMain (frameTo 0 (.lotClose (BitVec.ofNat 24 id))) s)
    else { s with lot.pendingCloses := id :: rest }

/-- The main queue has gained room: the pending LOT-CLOSEs, then the pending LOT-OPEN (R53). -/
def queuePendingLots (s : State) : State :=
  let t := queueCloses s.lot.pendingCloses s
  settleFlow (if t.lot.pendingOpen then announceOpen t else t)

/-- PENDING_LOT_FRAMES_QUEUED (R53). -/
def execPendingLotFramesQueued (s : State) : Host.Outcome State Fault Refusal := .next (queuePendingLots s)

/-! ### Lot copies (R54 to R56) -/

/-- The source lies in the upstream range (R54). -/
def inUpstreamRange (s : State) (source : Nat) : Bool := s.lotSourceLow < source && source ≤ s.lotSourceHigh

/-- A lot frame that fails a check is discarded and counted (R54). -/
def discardLotFrame (s : State) : State := { s with lot.discards := bump s.lot.discards 1 }

/-- The entries an implicit close ends, lowest index first (R55). -/
def closesImplicitly (source lot : Nat) (r : LotRec) : Bool := r.origin = source && r.id ≠ lot && r.state = .opened

/-- Every OPEN copy of the origin with another lot id becomes CLOSED (R55, step 1). -/
def implicitClose (source lot : Nat) : List Nat → State → State
  | [], s => s
  | i :: is, s =>
    implicitClose source lot is
      (if (slotAt s.lot.table i).any (closesImplicitly source lot) then closeEntry i s else s)

/-- The fields a LOT-OPEN carries, over a record (R55, step 2). -/
def LotRec.update (r : LotRec) (source : Nat) (p : LotOpenFields) : LotRec :=
  { r with
    origin := source, product := p.product.toNat, flavour := p.flavour.toNat, cls := p.cls.toNat, tank := p.tank.toNat,
    useBy := p.useBy.toNat, allowance := p.allowance.toNat, tref := p.tref.toNat, tk := p.tk.toNat, state := .opened }

/-- A new copy (R55, step 3). Its close order is 0 until it is closed. DEDUCED (log entry 12). -/
def copyOf (source : Nat) (p : LotOpenFields) : LotRec :=
  { id := p.lot.toNat, origin := source, product := p.product.toNat, flavour := p.flavour.toNat, cls := p.cls.toNat,
    tank := p.tank.toNat, useBy := p.useBy.toNat, allowance := p.allowance.toNat, tref := p.tref.toNat,
    tk := p.tk.toNat, state := .opened, refs := 0, closeOrder := 0#32, closeTime := none, purgeLeft := 0,
    rowsFilled := 0, potsFilled := 0, potsReceived := 0, potsRejected := 0 }

/-- A LOT-OPEN that passes the checks of R54 is taken (R55). -/
def openCopy (source : Nat) (p : LotOpenFields) (s : State) : State :=
  let t := implicitClose source p.lot.toNat (List.range s.lot.table.length) s
  if (findLot t p.lot.toNat).isSome then updateLot p.lot.toNat (fun r => r.update source p) t
  else
    match findPlace t.lot.table with
    | some i => { t with lot.table := t.lot.table.set i (some (copyOf source p)) }
    | none => latch .lotTableFull t

/-- The checks of R54 on a LOT-OPEN. -/
def takeLotOpen (source : Nat) (p : LotOpenFields) (s : State) : State :=
  if inUpstreamRange s source && lotOpenInRange p then openCopy source p s else discardLotFrame s

/-- LOT_OPEN (R54, R55, R153 to R155). -/
def execLotOpen (src tgt : BitVec 5) (p : LotOpenFields) (s : State) : Host.Outcome State Fault Refusal :=
  .next (receive .lotOpen src tgt (takeLotOpen src.toNat p) s)

/-- A LOT-CLOSE that passes the checks of R54 closes the OPEN copy of its lot (R56). -/
def takeLotClose (source : Nat) (lot : BitVec 24) (s : State) : State :=
  if inUpstreamRange s source then
    match s.lot.table.findIdx? (fun e => e.any (fun r => r.id = lot.toNat)) with
    | none => s
    | some i => closeEntry i s
  else discardLotFrame s

/-- LOT_CLOSE_FRAME (R54, R56, R153 to R155). -/
def execLotCloseFrame (src tgt : BitVec 5) (lot : BitVec 24) (s : State) : Host.Outcome State Fault Refusal :=
  .next (receive .lotClose src tgt (takeLotClose src.toNat lot) s)

end Sys2Proof.Machine
end

