-- ==== Sys2Proof/Machine/Lids.lean ====
section
/-! DEFINITION. Machine/Lids.lean: the commands of the Lid Unit (chapter 4): LOAD_REEL, SPLICE, READ_REELS. -/

namespace Sys2Proof.Machine

/-- The most lids a reel record holds (R62, R63). -/
def lidMax : Nat := 60000

/-- STANDBY holds the reel given, its lid count held at 60,000 (R63). -/
def loadStandby (reel : BitVec 16) (flavour : BitVec 8) (useBy lids : BitVec 16) (s : State) : State :=
  { s with
    lid.standby := some
      { id := reel.toNat, flavour := flavour.toNat, useBy := useBy.toNat, lids := min lidMax lids.toNat } }

/-- The rule of LOAD-REEL (R63). -/
def loadReelOwn (reel : BitVec 16) (flavour : BitVec 8) (useBy lids : BitVec 16) (s : State) : Reply :=
  if reel.toNat = 0 || flavour.toNat = 0 || lids.toNat = 0 then refuse .badValue s
  else
    { status := if lidMax < lids.toNat then .clamped else .ok
      data := []
      state := loadStandby reel flavour useBy lids s }

/-- LOAD_REEL (R63). -/
def execLoadReel (h : CmdHead) (reel : BitVec 16) (flavour : BitVec 8) (useBy lids : BitVec 16) (s : State) :
    Host.Outcome State Fault Refusal :=
  .next (portCommand 0x20 7 false (onlyRole .lidder) true (loadReelOwn reel flavour useBy lids) h s)

/-- The rule of SPLICE (R64): no notice and no count. -/
def spliceOwn (s : State) : Reply :=
  if s.lid.standby.isNone then refuse .empty s
  else accept { s with lid.active := s.lid.standby, lid.standby := none }

/-- SPLICE (R64). -/
def execSplice (h : CmdHead) (s : State) : Host.Outcome State Fault Refusal :=
  .next (portCommand 0x21 0 false (onlyRole .lidder) true spliceOwn h s)

/-- READ_REELS (R73). -/
def execReadReels (h : CmdHead) (s : State) : Host.Outcome State Fault Refusal :=
  .next (portCommand 0x22 0 false (onlyRole .lidder) true (fun t => report (reelsRecord t) t) h s)

end Sys2Proof.Machine
end

