-- ==== Sys2Proof/Machine/Trays.lean ====
section
/-! DEFINITION. Machine/Trays.lean: the commands of the Tray Unit (chapter 5): READ_TRAY, TRAY_CLOSE_TIME, and what an exit
or infeed sensor event does at TRAYER, CHILL and DISPATCH. The sensors' own commands stand in Admission.lean, because the
same physical line is ADM's at CHAMBER. -/

namespace Sys2Proof.Machine

/-- READ-TRAY at TRAYER: place 0 is the tray under construction, 1 to 16 the formed-tray queue (R89). -/
def readTrayAtTrayer (p : Nat) (s : State) : Reply :=
  if formedCapacity < p then refuse .badValue s
  else if p = 0 then
    match s.tray.forming with
    | none => refuse .empty s
    | some f => report (trayRecord 0 f.tray (closeRemaining s.nowMs f.deadline) 0#32 0#32) s
  else
    match s.tray.formed[p - 1]? with
    | none => refuse .empty s
    | some t => report (trayRecord p t 0 0#32 0#32) s

/-- READ-TRAY at CHILL (R89). -/
def readTrayAtChill (p : Nat) (s : State) : Reply :=
  if p = 0 || queueCapacity < p then refuse .badValue s
  else
    match s.tray.queue[p - 1]? with
    | none => refuse .empty s
    | some t => report (trayRecord p t 0 0#32 0#32) s

/-- READ-TRAY at DISPATCH (R89). -/
def readTrayAtDispatch (p : Nat) (s : State) : Reply :=
  if p = 0 || 12 < p then refuse .badValue s
  else
    match s.cellAt (p - 1) with
    | none => refuse .empty s
    | some c => report (trayRecord p c.tray 0 c.arrivalTime c.arrivalOrder) s

/-- The rule of READ-TRAY (R89). -/
def readTrayOwn (place : BitVec 8) (s : State) : Reply :=
  match s.role with
  | .trayer => readTrayAtTrayer place.toNat s
  | .chill => readTrayAtChill place.toNat s
  | _ => readTrayAtDispatch place.toNat s

/-- READ_TRAY (R89). -/
def execReadTray (h : CmdHead) (place : BitVec 8) (s : State) : Host.Outcome State Fault Refusal :=
  .next (portCommand 0x28 1 false trayRoles true (readTrayOwn place) h s)

/-- The tray close time runs out (R79): the tray closes short, or its close is held back. -/
def closeTimeOut (s : State) : State :=
  match s.tray.forming with
  | none => s
  | some f =>
    match f.deadline with
    | none => s
    | some d =>
      settleFlow (closeTray true (timeTo d { s with tray.forming := some { f with deadline := none } }))

/-- TRAY_CLOSE_TIME (R79). -/
def execTrayCloseTime (s : State) : Host.Outcome State Fault Refusal := .next (closeTimeOut s)

/-- An exit event finding the queue empty (R81, R83). -/
def unmatchedExit (s : State) : State := { s with tray.unmatched := bump s.tray.unmatched 1 }

/-- An exit sensor event at TRAYER (R81): the head leaves or is written off, and the queue's report to IDX and HND is made
(R79), so that room is worked out with the place free; a held-back close then takes place, with its own report. -/
def exitAtTrayer (s : State) : State :=
  match s.tray.formed with
  | [] => unmatchedExit s
  | t :: rest =>
    settleFlow (closeHeldBack (settleFlow (releaseHead (maySend s) t { s with tray.formed := rest })))

/-- An exit sensor event at CHILL (R83). -/
def exitAtChill (s : State) : State :=
  match s.tray.queue with
  | [] => unmatchedExit s
  | t :: rest => settleFlow (releaseHead (maySend s) t { s with tray.queue := rest })

/-- An exit sensor event, which only TRAYER and CHILL have, and which STARTING discards. -/
def exitEvent (s : State) : State :=
  if s.mode = .starting then s
  else
    match s.role with
    | .trayer => exitAtTrayer s
    | .chill => exitAtChill s
    | _ => s

/-- TRY places a tray, by role (R82, R85). -/
def placeTray (t : Tray) (s : State) : State :=
  if s.role = .chill then placeInQueue t s else placeInCell t s

/-- An infeed event passed to HND (R35): the oldest entry's record is placed, or an unannounced tray is, with a stray
advance. -/
def pairTray (s : State) : State :=
  match s.hnd.trayArrivals with
  | [] => placeTray strayTray (strayAdvance { s with hnd.stray := bump s.hnd.stray 1 })
  | e :: rest => placeTray e.tray (lotDepart e.tray.lot { s with hnd.trayArrivals := rest })

/-- An infeed sensor event at CHILL or DISPATCH, by mode (R82). -/
def infeedAtTry (s : State) : State :=
  if s.mode = .starting then s
  else if s.mode = .configuring || s.mode = .sanitising then
    { s with tray.untracked := bump s.tray.untracked 1 }
  else settleSince s (pairTray s)

end Sys2Proof.Machine
end

