-- ==== Sys2Proof/Machine/Exposure.lean ====
section
/-! DEFINITION. Machine/Exposure.lean: the commands of the Exposure Unit (chapter 6), READ_ZONE, READING and MISS, and the
per-second work of EXP that STATION_SECOND takes (R95 to R102). -/

namespace Sys2Proof.Machine

/-- Index 0xFF of READ-ZONE means not given (R180). -/
def zoneIndexGiven (index : BitVec 8) : Bool := index ≠ 0xFF#8

/-- The rule of READ-ZONE (R105). -/
def readZoneOwn (index : BitVec 8) (s : State) : Reply :=
  if zoneIndexGiven index then
    if 15 < index.toNat then refuse .badValue s
    else report (zoneRecord s (slotAt s.lot.table index.toNat)) s
  else report (zoneRecord s none) s

/-- READ_ZONE (R105). -/
def execReadZone (h : CmdHead) (index : BitVec 8) (s : State) : Host.Outcome State Fault Refusal :=
  .next (portCommand 0x29 1 false Role.holdsLots true (readZoneOwn index) h s)

/-- A valid reading moves the probe state (R94). -/
def goodReading (t10 : Int) (s : State) : State :=
  { s with exp.probe := .ok, exp.bad := 0, exp.lastValid := some t10 }

/-- An invalid reading or a miss moves the probe state (R94), and is counted (R104). -/
def badReading (s : State) : State :=
  let t := { s with exp.invalid := bump s.exp.invalid 1 }
  match s.exp.probe with
  | .ok => latch .probeFault { t with exp.probe := .degraded, exp.bad := 1 }
  | .degraded =>
    if s.exp.bad < 4 then { t with exp.bad := s.exp.bad + 1 }
    else latch .probeFailed { t with exp.probe := .failed, exp.bad := 5 }
  | .failed =>
    if s.exp.lastValid.isSome then t
    else if s.exp.bad < 4 then { t with exp.bad := s.exp.bad + 1 }
    else if s.exp.bad = 4 then latch .probeFailed { t with exp.bad := 5 }
    else t

/-- EXP takes readings and misses: at every role but CHAMBER, in every mode but STARTING (R92). -/
def takesReadings (s : State) : Bool := s.role.holdsLots && s.mode ≠ .starting

/-- The miss timer starts again (R92). -/
def restartMiss (s : State) : State := { s with exp.missAt := some (s.nowMs + 250) }

/-- A probe pulse ends: its width is measured, converted and taken as a reading (R92, R93, R94). -/
def takeReading (width : Nat) (s : State) : State :=
  if !takesReadings s then s
  else
    let w := min 65535 width
    let t10 := convertReading w s.probeZero s.probeGain
    let t := restartMiss
      { s with exp.lastWidth := some w, exp.lastReading := some (.value t10 (validT10 t10)) }
    if validT10 t10 then goodReading t10 t else badReading t

/-- READING (R92, R93, R94). -/
def execReading (width : Nat) (s : State) : Host.Outcome State Fault Refusal := .next (takeReading width s)

/-- The miss timer runs out (R92, R94). -/
def takeMiss (s : State) : State :=
  match s.exp.missAt with
  | none => s
  | some d =>
    if takesReadings s then badReading (restartMiss { timeTo d s with exp.lastReading := some .miss }) else s

/-- MISS (R92, R94). -/
def execMiss (s : State) : Host.Outcome State Fault Refusal := .next (takeMiss s)

/-! ### The per-second work (R95, R97 to R102) -/

/-- The window accrued: a row below the gate has not passed it (R97, R101). -/
def accrueWindow (s : State) : List (Option Row) :=
  s.idx.window.mapIdx (fun p o => o.map (fun r => { r with body := accrueRow s (p < s.gatePos) r.body }))

/-- The cells accrued (R97). -/
def accrueCells (s : State) : List (Option Cell) :=
  s.tray.cells.map (Option.map (fun c => { c with tray := accrueTray s c.tray }))

/-- Every record of the role's stores accrues and is classed (R97, R98, R100); the stores of other roles are empty. -/
def accrueStores (s : State) : State :=
  { s with
    idx.window := accrueWindow s
    hnd.rowArrivals := s.hnd.rowArrivals.map (fun e => { e with body := accrueRow s true e.body })
    hnd.trayArrivals := s.hnd.trayArrivals.map (fun e => { e with tray := accrueTray s e.tray })
    tray.forming := s.tray.forming.map (fun f => { f with tray := accrueTray s f.tray })
    tray.formed := s.tray.formed.map (accrueTray s)
    tray.queue := s.tray.queue.map (accrueTray s)
    tray.cells := accrueCells s }

/-- The cells whose tray has gained the quarantine flag at this second (R102). -/
def newlyFlagged (old new : List (Option Cell)) : List Nat :=
  (List.range new.length).filter (fun i =>
    (slotAt new i).any (fun c => c.tray.quarantine) && !(slotAt old i).any (fun c => c.tray.quarantine))

/-- EXP hands the trays to DSP one after another (R102, R113). -/
def handOverAll : List Nat → State → State
  | [], s => s
  | i :: is, s => handOverAll is (handOver i s)

/-- EXP's work at a station second (R95, R97 to R102). -/
def exposureSecond (s : State) : State :=
  if s.role.holdsLots then
    let t := accrueStores s
    let u := { t with
      exp.fallbackSeconds := if s.exp.probe = .failed then bump s.exp.fallbackSeconds 1 else s.exp.fallbackSeconds }
    handOverAll (newlyFlagged s.tray.cells u.tray.cells) u
  else s

/-- An OPEN entry whose cut-off has passed becomes CUT (R114). -/
def OrderEntry.cutOffAt (e : OrderEntry) (clock : BitVec 32) : OrderEntry :=
  if e.state = .opened && e.past clock then { e with state := .cut } else e

/-- DSP's work at a station second (R114): STANDBY entries are not checked. -/
def cutOffSecond (s : State) : State :=
  if s.role = .dispatch then setActive ((activeBank s).map (Option.map (fun e => e.cutOffAt s.stc.clock))) s else s

end Sys2Proof.Machine
end

