-- ==== Sys2Proof/Machine/Dispatching.lean ====
section
/-! DEFINITION. Machine/Dispatching.lean: the commands of the Dispatch Unit (chapter 7): the order books, RETRY_TRAY and
REMOVE_TRAY, the attempt series, grants and releases. -/

namespace Sys2Proof.Machine

/-! ### The order books (R110, R111) -/

/-- The bank a bank choice names: STANDBY 0, ACTIVE 1 (R180). -/
def chosenBank (bank : BitVec 8) (s : State) : List (Option OrderEntry) :=
  if bank = 1#8 then activeBank s else standbyBank s

/-- The number of the physical bank a bank choice names. -/
def physicalBank (bank : BitVec 8) (s : State) : Nat := if s.dsp.swap = (bank = 1#8) then 1 else 0

/-- The fields of WRITE-ORDER that are refused (R110). -/
def orderRefused (o : OrderFields) : Bool :=
  o.order.toNat = 0 || o.product.toNat = 0 || 9999 < o.product.toNat || o.quantity.toNat = 0 ||
    o.primary.toNat < 1 || 30 < o.primary.toNat || o.alternate.toNat < 1 || 30 < o.alternate.toNat

/-- The entry WRITE-ORDER writes: quantity held at 999, then assigned at the quantity (R110). -/
def writtenOrder (o : OrderFields) : OrderEntry :=
  let quantity := min 999 o.quantity.toNat
  let assigned := min quantity o.assigned.toNat
  { state := if assigned < quantity then .opened else .filled
    order := o.order.toNat, product := o.product.toNat, minUseBy := o.minUseBy.toNat, quantity, assigned,
    cutOff := o.cutOff, primary := o.primary.toNat, alternate := o.alternate.toNat, onAlternate := false }

/-- Values of WRITE-ORDER were moved (R110). -/
def orderClamped (o : OrderFields) : Bool := 999 < o.quantity.toNat || o.quantity.toNat < o.assigned.toNat

/-- The rule of WRITE-ORDER (R110). -/
def writeOrderOwn (bank index emptyMark : BitVec 8) (o : OrderFields) (s : State) : Reply :=
  let i := index.toNat
  if bank = 1#8 then refuse .badMode s
  else if 31 < i then refuse .badValue s
  else if emptyMark = 1#8 then accept (setStandby ((standbyBank s).set i none) s)
  else if orderRefused o then refuse .badValue s
  else
    { status := if orderClamped o then .clamped else .ok
      data := []
      state := setStandby ((standbyBank s).set i (some (writtenOrder o))) s }

/-- WRITE_ORDER (R110). -/
def execWriteOrder (h : CmdHead) (bank index emptyMark : BitVec 8) (o : OrderFields) (s : State) :
    Host.Outcome State Fault Refusal :=
  .next (portCommand 0x30 19 false (onlyRole .dispatch) (bankAssigned bank) (writeOrderOwn bank index emptyMark o) h s)

/-- The rule of READ-ORDER (R110). -/
def readOrderOwn (bank index : BitVec 8) (s : State) : Reply :=
  let i := index.toNat
  if 31 < i then refuse .badValue s
  else
    match slotAt (chosenBank bank s) i with
    | none => refuse .empty s
    | some e => report (orderRecord (physicalBank bank s) e) s

/-- READ_ORDER (R110). -/
def execReadOrder (h : CmdHead) (bank index : BitVec 8) (s : State) : Host.Outcome State Fault Refusal :=
  .next (portCommand 0x31 2 false (onlyRole .dispatch) (bankAssigned bank) (readOrderOwn bank index) h s)

/-- The entries of a bank with their selectors at PRIMARY (R111). -/
def primaryBank (b : List (Option OrderEntry)) : List (Option OrderEntry) :=
  b.map (Option.map (fun e => { e with onAlternate := false }))

/-- The banks are exchanged (R111). -/
def exchangeBooks (s : State) : State :=
  let t := { s with dsp.swap := !s.dsp.swap }
  setActive (primaryBank (activeBank t)) t

/-- The rule of SWAP-BOOK (R111). -/
def swapBookOwn (bank : BitVec 8) (s : State) : Reply :=
  if 1 < bank.toNat then refuse .badValue s
  else if s.dsp.swap = (bank = 1#8) then accept s
  else accept (exchangeBooks s)

/-- SWAP_BOOK (R111). -/
def execSwapBook (h : CmdHead) (bank : BitVec 8) (s : State) : Host.Outcome State Fault Refusal :=
  .next (portCommand 0x32 1 false (onlyRole .dispatch) true (swapBookOwn bank) h s)

/-! ### RETRY-TRAY and REMOVE-TRAY (R121) -/

/-- The tray is in a series or on the shuttle. -/
def Tray.busy (t : Tray) : Bool := t.dstate = .asking || t.dstate = .releasing

/-- The tray arrived unannounced and cannot be named to a chamber. -/
def Tray.unnamed (t : Tray) : Bool := t.id = { origin := 0, seq := 0 }

/-- The rule of RETRY-TRAY (R121). -/
def retryTrayOwn (cell : BitVec 8) (s : State) : Reply :=
  let n := cell.toNat
  if n < 1 || 12 < n then refuse .badValue s
  else
    match s.cellAt (n - 1) with
    | none => refuse .empty s
    | some c =>
      if c.tray.busy then refuse .busy s
      else if c.tray.unnamed then refuse .badValue s
      else if c.tray.dstate ≠ .routeHeld then refuse .busy s
      else accept (updateCellTray (n - 1) (fun t => { t with retry := 0, dstate := .unasked }) s)

/-- RETRY_TRAY (R121). -/
def execRetryTray (h : CmdHead) (cell : BitVec 8) (s : State) : Host.Outcome State Fault Refusal :=
  .next (portCommand 0x33 1 false (onlyRole .dispatch) true (retryTrayOwn cell) h s)

/-- A tray is removed (R121): unassigned, its grant dropped with it, and out of its cell as in a write-off. -/
def removeTray (i : Nat) (t : Tray) (s : State) : State :=
  let u := emptyCell i (unassign t.order s)
  settleFlow { u with tray.lost := bump u.tray.lost 1 }

/-- The rule of REMOVE-TRAY (R121). -/
def removeTrayOwn (cell : BitVec 8) (s : State) : Reply :=
  let n := cell.toNat
  if n < 1 || 12 < n then refuse .badValue s
  else
    match s.cellAt (n - 1) with
    | none => refuse .empty s
    | some c => if c.tray.busy then refuse .busy s else accept (removeTray (n - 1) c.tray s)

/-- REMOVE_TRAY (R121). -/
def execRemoveTray (h : CmdHead) (cell : BitVec 8) (s : State) : Host.Outcome State Fault Refusal :=
  .next (portCommand 0x34 1 false (onlyRole .dispatch) true (removeTrayOwn cell) h s)

/-! ### Attempt series (R115 to R119) -/

/-- A due ask waits for the main queue in some slot (R118). -/
def askWaiting (s : State) : Bool := s.dsp.slots.any (fun o => o.any Slot.askDue)

/-- An ADMIT-ASK is queued for the series in slot `j`: attempts rise and the phase becomes ASKING (R118). -/
def queueAsk (j : Nat) (x : Slot) (t : Tray) (s : State) : State :=
  let f : Frame := { target := x.target, payload := .admitAsk (writeTrayId t.id), serial := s.dsp.nextAsk }
  let u := pushMain f s
  setSlot j
    (some { x with
      attempts := x.attempts + 1, phase := .asking, answerAt := none, repeatAt := none, askDue := false,
      latestAsk := s.dsp.nextAsk })
    { u with dsp.nextAsk := s.dsp.nextAsk + 1 }

/-- Step 2 of R117: a tray that has an entry takes its current chamber and its order chambers. -/
def routeUpdate (i : Nat) (s : State) : State :=
  match s.cellAt i with
  | none => s
  | some c =>
    match trayEntry s c.tray.order with
    | none => s
    | some e =>
      updateCellTray i (fun x => { x with route := some e.current, chambers := some (e.primary, e.alternate) }) s

/-- Step 4 of R117: MANIFEST and ADMIT-ASK are queued, and slot `j` takes the series. -/
def beginSeries (j i : Nat) (t : Tray) (chamber : Nat) (s : State) : State :=
  let u := pushMain (frameTo chamber (.manifest (writeManifest t))) s
  let x : Slot :=
    { cell := i, target := chamber, attempts := 0, phase := .asking, answerAt := none, repeatAt := none,
      askDue := false, flagged := t.quarantine, latestAsk := 0 }
  updateCellTray i (fun y => { y with dstate := .asking }) (queueAsk j x t u)

/-- The series of the tray in cell `i` starts in slot `j` (R117). -/
def seriesFor (j i : Nat) (s : State) : State :=
  let t := routeUpdate i (projectCell i s)
  match t.cellAt i with
  | none => t
  | some c =>
    match c.tray.route with
    | none => t
    | some chamber => if peerRefuses t chamber then routeFails i chamber t else beginSeries j i c.tray chamber t

/-- The modes in which a series starts (R116). -/
def seriesMode (m : Mode) : Bool := m = .running || m = .held || m = .draining

/-- A slot may be given to a tray (R116), with DSP's other waiting frames first (R118). -/
def seriesAllowed (s : State) : Bool :=
  s.role = .dispatch && seriesMode s.mode && mainHasRoom s 2 && s.dsp.pendingPass.isNone && !askWaiting s

/-- A slot is given to the RED UNASKED tray of lowest arrival order, or the UNASKED tray of lowest (R116, R117). -/
def startSeries (s : State) : State :=
  if seriesAllowed s then
    match lowestFree s.dsp.slots, redFirst s (fun c => c.tray.dstate = .unasked) with
    | some j, some i => seriesFor j i s
    | _, _ => s
  else s

/-- SERIES_START (R116, R117). -/
def execSeriesStart (s : State) : Host.Outcome State Fault Refusal := .next (startSeries s)

/-- An answered attempt of the series in slot `j` (R118). -/
def answeredAttempt (j : Nat) (x : Slot) (s : State) : State :=
  if s.attemptLimit ≤ x.attempts then routeFails x.cell x.target (setSlot j none s)
  else
    setSlot j
      (some { x with phase := .between, answerAt := none, repeatAt := some (s.nowMs + s.repeatMs), askDue := false }) s

/-- A GRANT taken in slot `j` (R118). -/
def takeGrant (j : Nat) (x : Slot) (lane : Nat) (s : State) : State :=
  let g : Grant :=
    { chamber := x.target, lane, time := s.stc.clock, marked := x.flagged, deadline := s.nowMs + s.grantMs }
  let t := updateCellTray x.cell (fun y => { y with grant := some g, dstate := .granted }) (setSlot j none s)
  { t with dsp.grants := bump t.dsp.grants 1 }

/-- A reply that meets no slot is counted (R119). -/
def unmatchedReply (s : State) : State := { s with dsp.unmatchedReplies := bump s.dsp.unmatchedReplies 1 }

/-- The tray id of a series. -/
def slotTray (s : State) (x : Slot) : Option TrayId := (s.cellAt x.cell).map (fun c => c.tray.id)

/-- The slot a reply is meant for: its tray has the id and its target is the source (R119). Of two such slots
the reply meets the lowest. DESIGN CHOICE (log entry 40). -/
def replySlot (s : State) (t : TrayId) (source : Nat) : Option Nat :=
  s.dsp.slots.findIdx? (fun o => o.any (fun x => slotTray s x = some t && x.target = source))

/-- A tray of the id is GRANTED with a grant from the source (R119). -/
def alreadyGranted (s : State) (t : TrayId) (source : Nat) : Bool :=
  s.tray.cells.any (fun o => o.any (fun c =>
    c.tray.id = t && c.tray.dstate = .granted && c.tray.grant.any (fun g => g.chamber = source)))

/-- A reply that meets slot `j` (R118, R119). -/
def replyInSlot (j : Nat) (x : Slot) (a : Answer) (lane : Nat) (s : State) : State :=
  match a with
  | .grant => takeGrant j x lane s
  | .deny => routeFails x.cell x.target (setSlot j none s)
  | .wait | .waitFull => if x.phase = .asking then answeredAttempt j x s else s

/-- DSP takes an ADMIT-REPLY (R118, R119): an unassigned answer, or a GRANT with a lane outside 1 to 8, is unmatched. -/
def takeReply (source : Nat) (trayId : BitVec 32) (answer lane : BitVec 8) (s : State) : State :=
  let t := readTrayId trayId
  let n := lane.toNat
  match Answer.ofCode answer.toNat with
  | none => unmatchedReply s
  | some a =>
    if a = .grant && (n < 1 || 8 < n) then unmatchedReply s
    else
      match replySlot s t source with
      | some j =>
        match s.slot j with
        | some x => replyInSlot j x a n s
        | none => s
      | none => if a = .grant && alreadyGranted s t source then s else unmatchedReply s

/-- ADMIT_REPLY (R118, R119, R153 to R155). -/
def execAdmitReply (src tgt : BitVec 5) (trayId : BitVec 32) (answer lane : BitVec 8) (s : State) :
    Host.Outcome State Fault Refusal :=
  .next (receive .admitReply src tgt (takeReply src.toNat trayId answer lane) s)

/-- The answer timer of slot number `slot` runs out (R118). -/
def answerTimeOut (slot : Nat) (s : State) : State :=
  if slot = 0 then s
  else
    match s.slot (slot - 1) with
    | none => s
    | some x =>
      match x.answerAt with
      | none => s
      | some d =>
        answeredAttempt (slot - 1) x (timeTo d { s with dsp.noAnswers := bump s.dsp.noAnswers 1 })

/-- ANSWER_TIMEOUT (R118). -/
def execAnswerTimeout (slot : Nat) (s : State) : Host.Outcome State Fault Refusal := .next (answerTimeOut slot s)

/-- An ask may be queued at once: the main queue has room, and nothing of DSP's waits before it (R118). -/
def askRoom (s : State) : Bool := mainHasRoom s 1 && s.dsp.pendingPass.isNone && !askWaiting s

/-- The repeat timer of slot number `slot` runs out (R118): the next ask is queued, or waits in its slot. -/
def repeatOut (slot : Nat) (s : State) : State :=
  if slot = 0 then s
  else
    match s.slot (slot - 1) with
    | none => s
    | some x =>
      match x.repeatAt with
      | none => s
      | some d =>
        let t := timeTo d s
        match t.cellAt x.cell with
        | none => t
        | some c =>
          if askRoom t then queueAsk (slot - 1) x c.tray t
          else setSlot (slot - 1) (some { x with repeatAt := none, askDue := true }) t

/-- REPEAT_TIMER (R118). -/
def execRepeatTimer (slot : Nat) (s : State) : Host.Outcome State Fault Refusal := .next (repeatOut slot s)

/-- The main queue has gained room for a due ask (R118): the lowest-numbered waiting slot, after a pending TRAY-PASS. -/
def queueDueAsk (s : State) : State :=
  if mainHasRoom s 1 && s.dsp.pendingPass.isNone then
    match s.dsp.slots.findIdx? (fun o => o.any Slot.askDue) with
    | none => s
    | some j =>
      match s.slot j with
      | none => s
      | some x =>
        match s.cellAt x.cell with
        | none => s
        | some c => queueAsk j x c.tray s
  else s

/-- DUE_ASK_QUEUED (R118). -/
def execDueAskQueued (s : State) : Host.Outcome State Fault Refusal := .next (queueDueAsk s)

/-! ### Grants and releases (R122 to R124) -/

/-- The grant lifetime of the tray in cell number `cell` runs out (R122). -/
def grantOut (cell : Nat) (s : State) : State :=
  if cell = 0 then s
  else
    match s.cellAt (cell - 1) with
    | none => s
    | some c =>
      match c.tray.grant with
      | none => s
      | some g =>
        if c.tray.dstate = .granted then
          updateCellTray (cell - 1) Tray.drop
            (timeTo g.deadline { s with dsp.expiredGrants := bump s.dsp.expiredGrants 1 })
        else s

/-- GRANT_EXPIRY (R122). -/
def execGrantExpiry (cell : Nat) (s : State) : Host.Outcome State Fault Refusal := .next (grantOut cell s)

/-- A candidate of the arbiter (R123): GRANTED, its grant marked quarantine exactly when the tray is; the lifetime has not
run out while the grant is held (log entry 3). -/
def candidate (c : Cell) : Bool :=
  c.tray.dstate = .granted && c.tray.grant.any (fun g => g.marked = c.tray.quarantine)

/-- The cell the arbiter chooses (R123). -/
def chooseRelease (s : State) : Option Nat :=
  match oldestCell s (fun c => candidate c && c.tray.urgency = .red) with
  | some i => some i
  | none =>
    if s.skipMode then oldestCell s candidate
    else (oldestCell s (fun _ => true)).filter (fun i => (s.cellAt i).any candidate)

/-- A release may start (R123). -/
def releaseAllowed (s : State) : Bool :=
  s.role = .dispatch && s.dsp.release.isNone && s.dsp.pendingPass.isNone && permitMode s.mode && 1 ≤ traceFree s

/-- The release of the tray in cell `i` begins: the shuttle command is driven and its timeout of 10 s starts (R124). -/
def driveShuttle (i : Nat) (s : State) : State :=
  let t := updateCellTray i (fun x => { x with dstate := .releasing }) s
  { t with dsp.release := some i, dsp.shuttleAt := some (s.nowMs + 10000) }

/-- The arbiter chooses and projects until a release begins or no tray is chosen (R123). Each round that starts none has
dropped a grant, so 13 rounds are enough for 12 cells. -/
def arbitrate : Nat → State → State
  | 0, s => s
  | n + 1, s =>
    match chooseRelease s with
    | none => s
    | some i =>
      let t := projectCell i s
      if (t.cellAt i).any candidate then driveShuttle i t else arbitrate n t

/-- The arbiter (R123). -/
def beginRelease (s : State) : State := if releaseAllowed s then arbitrate 13 s else s

/-- RELEASE_BEGIN (R123, R124). -/
def execReleaseBegin (s : State) : Host.Outcome State Fault Refusal := .next (beginRelease s)

/-- The trace entry of a release (R124). -/
def releaseEntry (t : Tray) (clock : BitVec 32) : TraceEntry :=
  .release t.id t.lot t.product t.order ((t.grant.map Grant.chamber).getD 0) ((t.grant.map Grant.lane).getD 0)
    t.exposure t.urgency clock

/-- The TRAY-PASS of a release, to the grant's chamber with sequence 0 (R26, R124). -/
def releasePass (t : Tray) : Frame := frameTo ((t.grant.map Grant.chamber).getD 0) (.trayPass (writeTrayPass 0#16 t))

/-- A TRAY-PASS is queued, or held pending where the main queue has no room (R124). -/
def queuePass (f : Frame) (s : State) : State :=
  if mainHasRoom s 1 then pushMain f s else { s with dsp.pendingPass := some f }

/-- The release of the tray in cell `i` ends (R124, steps 1 to 4). -/
def endRelease (i : Nat) (c : Cell) (s : State) : State :=
  let t := writeTrace (releaseEntry c.tray s.stc.clock) { s with dsp.release := none, dsp.shuttleAt := none }
  let u := emptyCell i (queuePass (releasePass c.tray) t)
  settleFlow { u with dsp.releases := bump u.dsp.releases 1 }

/-- A shuttle-done event at DISPATCH (R124). -/
def shuttleEnd (s : State) : State :=
  if s.role = .dispatch then
    match s.dsp.release with
    | none => { s with dsp.unexpectedDone := bump s.dsp.unexpectedDone 1 }
    | some i =>
      match s.cellAt i with
      | none => { s with dsp.release := none, dsp.shuttleAt := none }
      | some c => endRelease i c s
  else s

/-- SHUTTLE_DONE (R124). -/
def execShuttleDone (s : State) : Host.Outcome State Fault Refusal := .next (shuttleEnd s)

/-- The shuttle timeout runs out (R124, R171): the station enters FAULT, the release stays in flight. -/
def shuttleTimeOut (s : State) : State :=
  match s.dsp.shuttleAt with
  | none => s
  | some d =>
    let t := timeTo d { s with dsp.shuttleAt := none }
    if seriesMode s.mode then settleFlow (enterFault .shuttle t) else t

/-- SHUTTLE_TIMEOUT (R171). -/
def execShuttleTimeout (s : State) : Host.Outcome State Fault Refusal := .next (shuttleTimeOut s)

/-- The main queue has gained room for a pending TRAY-PASS (R124). -/
def queuePendingPass (s : State) : State :=
  match s.dsp.pendingPass with
  | none => s
  | some f => if mainHasRoom s 1 then pushMain f { s with dsp.pendingPass := none } else s

/-- PENDING_TRAY_PASS_QUEUED (R124). -/
def execPendingTrayPassQueued (s : State) : Host.Outcome State Fault Refusal := .next (queuePendingPass s)

end Sys2Proof.Machine
end

