-- ==== Sys2Proof/Machine/Trace.lean ====
section
/-! DEFINITION. Machine/Trace.lean: the commands of the Trace Ring (R126, R127): READ_TRACE, FREE_TRACE. -/

namespace Sys2Proof.Machine

/-- The rule of READ-TRACE (R127): the oldest unread entry becomes read. -/
def readTraceOwn (s : State) : Reply :=
  match s.trc.entries[s.trc.readCount]? with
  | none => refuse .empty s
  | some e =>
    let t := { s with trc.readCount := s.trc.readCount + 1, trc.readPos := (s.trc.readPos + 1) % ringSize }
    report (traceRecord t e) t

/-- READ_TRACE (R127). -/
def execReadTrace (h : CmdHead) (s : State) : Host.Outcome State Fault Refusal :=
  .next (portCommand 0x35 0 false traceRoles true readTraceOwn h s)

/-- The rule of FREE-TRACE (R127): the oldest held entry leaves the ring if it has been read; a chamber then serves
(R138). -/
def freeTraceOwn (s : State) : Reply :=
  if s.trc.entries.isEmpty then refuse .empty s
  else if s.trc.readCount = 0 then refuse .busy s
  else accept (serve { s with trc.entries := s.trc.entries.tail, trc.readCount := s.trc.readCount - 1 })

/-- FREE_TRACE (R127). -/
def execFreeTrace (h : CmdHead) (s : State) : Host.Outcome State Fault Refusal :=
  .next (portCommand 0x36 0 false traceRoles true freeTraceOwn h s)

end Sys2Proof.Machine
end

