-- ==== Sys2Proof/Machine/Admission.lean ====
section
/-! DEFINITION. Machine/Admission.lean: the commands of the Admission Unit (chapter 8), with the TRAY-PASS and the sensor
events, which the same frame or line brings to HND and TRY at the other roles. -/

namespace Sys2Proof.Machine

/-! ### Lanes (R131, R145, R148) -/

/-- The order id a lane keeps: none where it is 0 or the lane's use is not ORDERS (R131). -/
def keptOrder (use : LaneUse) (order : BitVec 16) : Option Nat := if use = .orders then optId order.toNat else none

/-- Another lane is ORDERS and holds the order id given (R131). -/
def orderTaken (s : State) (n : Nat) (order : BitVec 16) : Bool :=
  order.toNat ≠ 0 && (List.range s.adm.lanes.length).any (fun i =>
    i + 1 ≠ n && (s.adm.lanes[i]?).any (fun l => l.use = .orders && l.order = some order.toNat))

/-- The lane WRITE-LANE writes: capacity moved into 1 to 500, then occupancy held at the capacity. The
reserved count is kept (R131). -/
def writtenLane (old : Lane) (use : LaneUse) (capacity occupancy order : BitVec 16) : Lane :=
  let c := clampNat 1 500 capacity.toNat
  { use, capacity := c, occupancy := min c occupancy.toNat, reserved := old.reserved, order := keptOrder use order }

/-- Values of WRITE-LANE were moved (R131). -/
def laneClamped (capacity occupancy : BitVec 16) : Bool :=
  capacity.toNat < 1 || 500 < capacity.toNat || capacity.toNat < occupancy.toNat

/-- The rule of WRITE-LANE (R131). The order id given is compared whatever the use given. -/
def writeLaneOwn (lane use : BitVec 8) (capacity occupancy order : BitVec 16) (s : State) : Reply :=
  let n := lane.toNat
  if s.mode ≠ .configuring then refuse .badMode s
  else if n < 1 || 8 < n then refuse .badValue s
  else if orderTaken s n order then refuse .badValue s
  else
    { status := if laneClamped capacity occupancy then .clamped else .ok
      data := []
      state := resum
        (updateLane n (fun l => writtenLane l ((LaneUse.ofCode use.toNat).getD .off) capacity occupancy order) s) }

/-- WRITE_LANE (R131). -/
def execWriteLane (h : CmdHead) (lane use : BitVec 8) (capacity occupancy order : BitVec 16) (s : State) :
    Host.Outcome State Fault Refusal :=
  .next (portCommand 0x38 8 false (onlyRole .chamber) (LaneUse.ofCode use.toNat).isSome
    (writeLaneOwn lane use capacity occupancy order) h s)

/-- The rule of READ-LANE (R148). -/
def readLaneOwn (lane : BitVec 8) (s : State) : Reply :=
  match s.lane lane.toNat with
  | none => refuse .badValue s
  | some l => report (laneRecord lane.toNat l) s

/-- READ_LANE (R148). -/
def execReadLane (h : CmdHead) (lane : BitVec 8) (s : State) : Host.Outcome State Fault Refusal :=
  .next (portCommand 0x39 1 false (onlyRole .chamber) true (readLaneOwn lane) h s)

/-- The rule of READ-ADMISSION (R148). -/
def readAdmissionOwn (index : BitVec 8) (s : State) : Reply :=
  let i := index.toNat
  if 15 < i then refuse .badValue s
  else
    match s.admission i with
    | none => refuse .empty s
    | some e => report (admissionRecord i e (manifestOf s e.tray)) s

/-- READ_ADMISSION (R148). -/
def execReadAdmission (h : CmdHead) (index : BitVec 8) (s : State) : Host.Outcome State Fault Refusal :=
  .next (portCommand 0x3A 1 false (onlyRole .chamber) true (readAdmissionOwn index) h s)

/-- The lane's occupancy falls by `n` (R145, R131). -/
def drawnLane (n : Nat) (l : Lane) : Lane := Lane.settle { l with occupancy := l.occupancy - n }

/-- The rule of DRAWDOWN (R145). -/
def drawdownOwn (lane : BitVec 8) (count : BitVec 16) (s : State) : Reply :=
  let k := lane.toNat
  let n := count.toNat
  match s.lane k with
  | none => refuse .badValue s
  | some l =>
    if n = 0 || 500 < n then refuse .badValue s
    else
      let t := updateLane k (drawnLane n) s
      { status := if l.occupancy < n then .clamped else .ok
        data := []
        state := if 0 < l.occupancy then serve t else t }

/-- DRAWDOWN (R145). -/
def execDrawdown (h : CmdHead) (lane : BitVec 8) (count : BitVec 16) (s : State) : Host.Outcome State Fault Refusal :=
  .next (portCommand 0x3B 3 false (onlyRole .chamber) true (drawdownOwn lane count) h s)

/-! ### Manifests (R133, R134) -/

/-- The manifest a MANIFEST frame carries, received now (R133, R179). -/
def readManifest (source : Nat) (p : ManifestFields) (s : State) : Manifest :=
  { tray := readTrayId p.trayId, requester := source, lot := optId p.lot.toNat,
    product := carriedProduct p.flags p.product, useBy := carriedUseBy p.flags p.useBy, order := optId p.order.toNat,
    exposure := p.exposure.toNat, urgency := flagsUrgency p.flags, quarantine := p.flags.getLsbD 1,
    received := s.stc.clock, since := s.nowMs }

/-- A dropped MANIFEST is counted (R133). -/
def countDroppedManifest (s : State) : State := { s with adm.manifestDropped := bump s.adm.manifestDropped 1 }

/-- What a replacing manifest does to the admission entry of its tray (R133). -/
def meetEntry (m : Manifest) (s : State) : State :=
  match admissionIndex s m.tray with
  | none => s
  | some i =>
    match s.admission i with
    | none => s
    | some e =>
      if e.state = .inbound then s
      else if e.quarantine = m.quarantine && e.order = m.order then
        setAdmission i (some { e with urgency := m.urgency }) s
      else
        let t := if e.holdsRoom then updateLane e.laneNo Lane.release s else s
        serve { setAdmission i none t with adm.withdrawn := bump s.adm.withdrawn 1 }

/-- A MANIFEST that is taken (R133): replaced, new, or dropped for a full table. -/
def storeManifest (m : Manifest) (s : State) : State :=
  match manifestIndex s m.tray with
  | some i => meetEntry m { s with adm.manifests := s.adm.manifests.set i (some m) }
  | none =>
    match lowestFree s.adm.manifests with
    | some i => { s with adm.manifests := s.adm.manifests.set i (some m) }
    | none => latch .manifestFull (countDroppedManifest s)

/-- ADM takes a MANIFEST, by mode (R133). -/
def takeManifest (source : Nat) (p : ManifestFields) (s : State) : State :=
  if s.mode = .sanitising then countDroppedManifest s else storeManifest (readManifest source p s) s

/-- MANIFEST (R133, R153 to R155). -/
def execManifest (src tgt : BitVec 5) (p : ManifestFields) (s : State) : Host.Outcome State Fault Refusal :=
  .next (receive .manifest src tgt (takeManifest src.toNat p) s)

/-- The lifetime of the manifest at an index passes (R134); a manifest whose tray has an entry does not expire. -/
def manifestOut (index : Nat) (s : State) : State :=
  match slotAt s.adm.manifests index with
  | none => s
  | some m =>
    if (admissionIndex s m.tray).isSome then s
    else
      timeTo (m.since + s.manifestMs)
        { s with
          adm.manifests := s.adm.manifests.set index none
          adm.expiredManifests := bump s.adm.expiredManifests 1 }

/-- MANIFEST_LIFETIME (R134). -/
def execManifestLifetime (index : Nat) (s : State) : Host.Outcome State Fault Refusal := .next (manifestOut index s)

/-! ### Asks (R136, R137) -/

/-- An ADMIT-REPLY joins the answer queue (R136, R179): the lane is 0 unless GRANT. The tray id goes back as the ask carried
it, with the 4 bits a receiver ignores. DESIGN CHOICE (log entry 35). -/
def answer (target : Nat) (trayId : BitVec 32) (a : Answer) (lane : Nat) (s : State) : State :=
  pushAnswer (frameTo target (.admitReply trayId (BitVec.ofNat 8 a.code) (BitVec.ofNat 8 lane))) s

/-- A PENDING entry made from a manifest (R135, R136). -/
def pendingEntry (m : Manifest) (s : State) : Admission :=
  { tray := m.tray, requester := m.requester, order := m.order, quarantine := m.quarantine, urgency := m.urgency,
    state := .pending, lane := none, stateTime := s.stc.clock, claimTime := none, lastAsk := s.stc.clock,
    creation := s.adm.nextCreation, inbound := none, stateSince := s.nowMs, claimSince := 0, askSince := s.nowMs }

/-- Some lane has the use (R136). -/
def hasLaneFor (s : State) (u : LaneUse) : Bool := s.adm.lanes.any (fun l => l.use = u)

/-- An ask for a tray that has an entry (R136, lines 2 to 4). -/
def askEntry (i : Nat) (e : Admission) (source : Nat) (trayId : BitVec 32) (s : State) : State :=
  match e.state with
  | .pending =>
    answer source trayId .wait 0 (setAdmission i (some { e with lastAsk := s.stc.clock, askSince := s.nowMs }) s)
  | .ready =>
    answer source trayId .grant e.laneNo
      (setAdmission i
        (some { e with
          state := .claimed, stateTime := s.stc.clock, claimTime := some s.stc.clock, stateSince := s.nowMs,
          claimSince := s.nowMs }) s)
  | .claimed | .inbound => answer source trayId .grant e.laneNo s

/-- An ask for a tray that has none (R136, lines 5 to 9). -/
def askNew (t : TrayId) (source : Nat) (trayId : BitVec 32) (s : State) : State :=
  if s.mode = .draining then answer source trayId .deny 0 s
  else
    match lowestFree s.adm.table with
    | none => answer source trayId .waitFull 0 s
    | some i =>
      match manifestOf s t with
      | none => answer source trayId .wait 0 s
      | some m =>
        if !hasLaneFor s (neededUse m.quarantine m.order) then answer source trayId .deny 0 s
        else
          serve (answer source trayId .wait 0
            { setAdmission i (some (pendingEntry m s)) s with adm.nextCreation := nextOrder s.adm.nextCreation })

/-- The modes in which every ask is denied (R136). -/
def deniesAsks (m : Mode) : Bool := m = .configuring || m = .sanitising || m = .fault

/-- ADM takes an ADMIT-ASK (R136): a full answer queue discards it before any other check. -/
def takeAsk (source : Nat) (trayId : BitVec 32) (s : State) : State :=
  let t := readTrayId trayId
  if answerCapacity ≤ s.lnk.answerQ.length then { s with adm.unansweredAsks := bump s.adm.unansweredAsks 1 }
  else if deniesAsks s.mode then answer source trayId .deny 0 s
  else
    match admissionIndex s t with
    | some i =>
      match s.admission i with
      | some e => askEntry i e source trayId s
      | none => s
    | none => askNew t source trayId s

/-- ADMIT_ASK (R136, R153 to R155). -/
def execAdmitAsk (src tgt : BitVec 5) (trayId : BitVec 32) (s : State) : Host.Outcome State Fault Refusal :=
  .next (receive .admitAsk src tgt (takeAsk src.toNat trayId) s)

/-- A PENDING entry lapses (R137). -/
def pendingOut (index : Nat) (s : State) : State :=
  match s.admission index with
  | none => s
  | some e =>
    if e.state = .pending then
      let t := removeEntry index e (timeTo (e.askSince + s.manifestMs) s)
      { t with adm.lapsed := bump t.adm.lapsed 1 }
    else s

/-- PENDING_LAPSE (R137). -/
def execPendingLapse (index : Nat) (s : State) : Host.Outcome State Fault Refusal := .next (pendingOut index s)

/-! ### Claim and arrival windows (R139, R141) -/

/-- A READY entry is discarded at the claim window (R139). -/
def claimOut (index : Nat) (s : State) : State :=
  match s.admission index with
  | none => s
  | some e =>
    if e.state = .ready then
      serve (latch .unclaimed (discardReady index e (timeTo (e.stateSince + s.claimMs) s)))
    else s

/-- CLAIM_WINDOW (R139). -/
def execClaimWindow (index : Nat) (s : State) : Host.Outcome State Fault Refusal := .next (claimOut index s)

/-- The entry is CLAIMED or INBOUND (R141). -/
def Admission.claimed (e : Admission) : Bool := e.state = .claimed || e.state = .inbound

/-- A CLAIMED or INBOUND entry is declared missing at the arrival window (R141). -/
def arrivalOut (index : Nat) (s : State) : State :=
  match s.admission index with
  | none => s
  | some e =>
    if e.claimed then
      serve (latch .trayMissing (declareMissing index e (timeTo (e.claimSince + s.arrivalMs) s)))
    else s

/-- ARRIVAL_WINDOW (R141). -/
def execArrivalWindow (index : Nat) (s : State) : Host.Outcome State Fault Refusal := .next (arrivalOut index s)

/-! ### TRAY-PASS at CHAMBER (R140) -/

/-- An unreserved note joins the list of up to 4; the oldest is pushed out of a full one (R140). -/
def addNote (n : Note) (s : State) : State :=
  if s.adm.notes.length < 4 then { s with adm.notes := s.adm.notes ++ [n] }
  else
    { s with
      adm.notes := s.adm.notes.tail ++ [n]
      adm.droppedNotes := bump s.adm.droppedNotes 1 }

/-- A CLAIMED entry becomes INBOUND (R140). -/
def makeInbound (i : Nat) (e : Admission) (s : State) : State :=
  setAdmission i
    (some { e with
      state := .inbound, stateTime := s.stc.clock, stateSince := s.nowMs, inbound := some s.adm.nextInbound })
    { s with adm.nextInbound := nextOrder s.adm.nextInbound }

/-- ADM takes a TRAY-PASS (R140). -/
def takeChamberPass (p : TrayPassFields) (s : State) : State :=
  if s.mode = .configuring || s.mode = .sanitising then { s with adm.droppedPasses := bump s.adm.droppedPasses 1 }
  else
    let t := readTrayId p.trayId
    match (admissionIndex s t).bind s.admission, admissionIndex s t with
    | some e, some i =>
      match e.state with
      | .claimed => makeInbound i e s
      | .inbound => s
      | _ => addNote { tray := t, lot := optId p.lot.toNat } s
    | _, _ => addNote { tray := t, lot := optId p.lot.toNat } s

/-- A TRAY-PASS goes to HND at CHILL and DISPATCH and to ADM at CHAMBER (R155). -/
def takeTrayFrame (source : Nat) (p : TrayPassFields) (s : State) : State :=
  if s.role = .chamber then takeChamberPass p s else takeTrayPass source p s

/-- TRAY_PASS (R31, R32, R153 to R155). The frame's kind does not tell the roles apart, so at CHAMBER it is ADM's. -/
def execTrayPass (src tgt : BitVec 5) (p : TrayPassFields) (s : State) : Host.Outcome State Fault Refusal :=
  .next (receive .trayPass src tgt (takeTrayFrame src.toNat p) s)

/-- CHAMBER_TRAY_PASS (R140, R153 to R155): the same frame, named as it stands at CHAMBER. -/
def execChamberTrayPass (src tgt : BitVec 5) (p : TrayPassFields) (s : State) : Host.Outcome State Fault Refusal :=
  .next (receive .trayPass src tgt (takeTrayFrame src.toNat p) s)

/-! ### The infeed at CHAMBER (R142 to R144) -/

/-- The index of the INBOUND entry of lowest inbound order (R142). -/
def oldestInbound (s : State) : Option Nat :=
  (List.range s.adm.table.length).foldl
    (fun best i =>
      match s.admission i with
      | none => best
      | some e =>
        match e.inbound with
        | none => best
        | some o =>
          if e.state = .inbound then
            match (best.bind s.admission).bind Admission.inbound with
            | none => some i
            | some b => if orderBefore o b then some i else best
          else best)
    none

/-- The oldest INBOUND entry is admitted (R142). -/
def admitTray (i : Nat) (e : Admission) (s : State) : State :=
  let lot := (manifestOf s e.tray).bind Manifest.lot
  let t := updateLane e.laneNo Lane.occupy { s with adm.laneSelect := e.laneNo }
  let u := removeEntry i e (writeTrace (.chamber e.tray .admitted e.lane lot s.stc.clock) t)
  serve { u with adm.admitted := bump u.adm.admitted 1 }

/-- A stray arrival's trace entry, or the count and notice of one that finds no room (R143). -/
def traceStray (n : Note) (s : State) : State :=
  if reservedTotal s < traceFree s then writeTrace (.chamber n.tray .stray none n.lot s.stc.clock) s
  else latch .strayUntraced { s with adm.untracedStrays := bump s.adm.untracedStrays 1 }

/-- A stray arrival (R143). -/
def strayArrival (s : State) : State :=
  let n := s.adm.notes.head?.getD { tray := { origin := 0, seq := 0 }, lot := none }
  traceStray n
    { s with adm.laneSelect := 0, adm.strays := bump s.adm.strays 1, adm.notes := s.adm.notes.tail }

/-- An infeed event at CHAMBER (R142, R143). -/
def infeedAtAdm (s : State) : State :=
  if s.mode = .starting then s
  else
    match oldestInbound s with
    | none => strayArrival s
    | some i =>
      match s.admission i with
      | none => s
      | some e => admitTray i e s

/-- The infeed sensor, by role: TRY's at CHILL and DISPATCH, ADM's at CHAMBER; the other roles have none. -/
def infeedEvent (s : State) : State :=
  match s.role with
  | .chill | .dispatch => infeedAtTry s
  | .chamber => infeedAtAdm s
  | _ => s

/-- INFEED_SENSOR_EVENT (R82, R35, R85). -/
def execInfeedSensorEvent (s : State) : Host.Outcome State Fault Refusal := .next (infeedEvent s)

/-- CHAMBER_INFEED_EVENT (R142, R143, R144): the same line, named as it stands at CHAMBER. -/
def execChamberInfeedEvent (s : State) : Host.Outcome State Fault Refusal := .next (infeedEvent s)

/-- EXIT_SENSOR_EVENT (R81). -/
def execExitSensorEvent (s : State) : Host.Outcome State Fault Refusal := .next (exitEvent s)

/-- CHILL_EXIT_SENSOR_EVENT (R83): the same line, named as it stands at CHILL. -/
def execChillExitSensorEvent (s : State) : Host.Outcome State Fault Refusal := .next (exitEvent s)

end Sys2Proof.Machine
end

