-- ==== Sys2Proof/Machine/Link.lean ====
section
/-! DEFINITION. Machine/Link.lean: the commands of the Link Controller (chapter 9): station reports and the peer table, bad
frames, and the offer with its outcomes. -/

namespace Sys2Proof.Machine

/-- LNK takes a STATION-STATE (R160): one naming the station's own number, or with an unassigned role or mode, is counted as
malformed. -/
def takeStationState (source : Nat) (role mode : BitVec 8) (s : State) : State :=
  if source = s.own then countMalformed s
  else
    match Role.ofCode role.toNat, Mode.ofCode mode.toNat with
    | some _, some m => setPeer source { mode := some m, since := some s.nowMs } s
    | _, _ => countMalformed s

/-- STATION_STATE (R160, R153 to R155). -/
def execStationState (src tgt : BitVec 5) (role mode : BitVec 8) (s : State) : Host.Outcome State Fault Refusal :=
  .next (receive .stationState src tgt (takeStationState src.toNat role mode) s)

/-- The entry of a station becomes UNKNOWN 3 s after its last report; its age keeps running (R160). -/
def peerOut (station : Nat) (s : State) : State :=
  if station = 0 then s
  else
    match s.lnk.peers[station - 1]? with
    | none => s
    | some p =>
      match p.mode, p.since with
      | some _, some t => setPeer station { mode := none, since := some t } (timeTo (t + 3000) s)
      | _, _ => s

/-- PEER_TIMEOUT (R160). -/
def execPeerTimeout (station : Nat) (s : State) : Host.Outcome State Fault Refusal := .next (peerOut station s)

/-- The 1 s period of the station reports passes (R159). -/
def stateFallsDue (s : State) : State :=
  match s.lnk.stateAt with
  | none => s
  | some d =>
    let t := timeTo d { s with lnk.stateAt := none }
    settleFlow (placeState (stateFrame t) t)

/-- STATION_STATE_PERIOD (R159). -/
def execStationStatePeriod (s : State) : Host.Outcome State Fault Refusal := .next (stateFallsDue s)

/-- A pending STATION-STATE is placed when the main queue has gained room (R159). -/
def placePendingState (s : State) : State :=
  match s.lnk.pendingState with
  | none => s
  | some f => if mainHasRoom s 1 then settleFlow (placeState f s) else s

/-- PENDING_STATION_STATE_PLACED (R159). -/
def execPendingStationStatePlaced (s : State) : Host.Outcome State Fault Refusal := .next (placePendingState s)

/-- A bad frame is counted (R153). -/
def countBad (s : State) : State := { s with lnk.badFrames := bump s.lnk.badFrames 1 }

/-- A received frame checked by R153, byte by byte: bad and malformed frames are counted and discarded. A frame that passes
is not this command's (log entry 1). -/
def takeBadFrame (endedRight : Bool) (bytes : List Byte) (s : State) : State :=
  match frameVerdict s.own endedRight bytes with
  | .bad => countBad s
  | .malformed => countMalformed s
  | .notForUs | .good _ => s

/-- BAD_FRAME (R153). -/
def execBadFrame (endedRight : Bool) (bytes : List Byte) (s : State) : Host.Outcome State Fault Refusal :=
  .next (takeBadFrame endedRight bytes s)

/-- The bus is idle and LNK offers at most one frame (R157); its wait runs from the first offer (R158). -/
def offerFrame (s : State) : State :=
  if s.mode = .starting || s.lnk.onBus.isSome then s
  else
    match nextOffer s with
    | none => s
    | some (place, f) =>
      { s with
        lnk.onBus := some { place, frame := f, bytes := frameBytes s.own f, replaced := false }
        lnk.waitSince := some (s.lnk.waitSince.getD s.nowMs) }

/-- FRAME_OFFER (R157). -/
def execFrameOffer (s : State) : Host.Outcome State Fault Refusal := .next (offerFrame s)

/-- The frame on the bus is sent (R157, R158): it leaves its place, the counts follow, LINK leaves the cause set, and an
ADMIT-ASK is reported to DSP. -/
def sentFrame (s : State) : State :=
  match s.lnk.onBus with
  | none => s
  | some o =>
    let t := startAnswerTimers o.frame (takeFromPlace o s)
    settleFlow (runIfClear (dropCause .link
      { t with
        lnk.onBus := none
        lnk.transmitted := bump t.lnk.transmitted 1
        lnk.failures := 0
        lnk.waitSince := none }))

/-- FRAME_SENT (R157, R158). -/
def execFrameSent (s : State) : Host.Outcome State Fault Refusal := .next (sentFrame s)

/-- The frame on the bus loses arbitration and stays in its place; its wait runs on (R152, R157, R158). -/
def loseArbitration (s : State) : State := { s with lnk.onBus := none }

/-- LOST_ARBITRATION (R152). -/
def execLostArbitration (s : State) : Host.Outcome State Fault Refusal := .next (loseArbitration s)

/-- The frame on the bus is corrupted: it stays in its place, and a failure is counted (R157, R158). -/
def corruptFrame (s : State) : State :=
  match s.lnk.onBus with
  | none => s
  | some _ => transmitFailure { s with lnk.onBus := none, lnk.waitSince := none }

/-- CORRUPTED_OWN_FRAME (R158). -/
def execCorruptedOwnFrame (s : State) : Host.Outcome State Fault Refusal := .next (corruptFrame s)

/-- 20 ms of waiting have passed (R158): a failure is counted and the wait starts again (log entry 17). -/
def waitTooLong (s : State) : State :=
  match s.lnk.waitSince with
  | none => s
  | some w =>
    let t := timeTo (w + 20) s
    transmitFailure { t with lnk.waitSince := some t.nowMs }

/-- LONG_ARBITRATION_LOSS (R158). -/
def execLongArbitrationLoss (s : State) : Host.Outcome State Fault Refusal := .next (waitTooLong s)

end Sys2Proof.Machine
end

