-- ==== Sys2Proof/Machine/StationOps.lean ====
section
/-! DEFINITION. Machine/StationOps.lean: the shared operations of Station Control: reading the settings image (R164, R181),
settling a setting (R165) and the named positions (R1, R25), RESUME's clearing (R70, R72, R168), and the drain's write-offs
(R20, R39, R88, R125, R147, R169). -/

namespace Sys2Proof.Machine

/-! ### Settings (R164, R165) -/

/-- What a setting takes of a value given: the value in its range and whether it was moved; none where the value names no
member of an enumerated set, or the number no setting (R165). The notice mask keeps its 23 marks (log entry 15). -/
def settleSetting (length : Int) (n : Nat) (v : Int) : Option (Int × Bool) :=
  match settingRange length n with
  | none => none
  | some (.span lo hi) => some (clampInt lo hi v, v < lo || hi < v)
  | some (.oneOf codes) => if codes.contains v then some (v, false) else none
  | some .marks => some (v % 8388608, false)

/-- Writes a setting of the working store. -/
def setSetting (n : Nat) (v : Int) (s : State) : State := { s with stc.settings := s.stc.settings.set (n - 1) v }

/-- The value of WRITE-SETTING: two's complement for the fallback temperature, unsigned for the others (R181). -/
def givenValue (n : Nat) (v : BitVec 32) : Int := if n = 23 then v.toInt else v.toNat

/-! ### The settings image (R164, R181) -/

/-- The words of the image as the serial memory delivers them: each word's high byte first (R181). A last byte that stands
alone is no word. -/
def imageWords : List Byte → List Half
  | high :: low :: rest => (high ++ low) :: imageWords rest
  | _ => []

/-- The words of the image, the check word included. -/
def imageLength : Nat := 392

/-- A word of the image, 0 beyond its end. -/
def imageWord (ws : List Half) (i : Nat) : Half := ws.getD i 0#16

/-- The image is good: it is whole, and its sum equals its check word (R164). -/
def imageGood (ws : List Half) : Bool :=
  imageLength ≤ ws.length && wordSum (ws.take (imageLength - 1)) = imageWord ws (imageLength - 1)

/-- The value of setting `n` in the image: the notice mask has two words, the fallback temperature is signed (R181). -/
def imageValue (ws : List Half) (n : Nat) : Int :=
  if n = 3 then (imageWord ws 2).toNat * 65536 + (imageWord ws 3).toNat
  else
    let w := imageWord ws (if n < 3 then n - 1 else n)
    if n = 23 then w.toInt else w.toNat

/-- Setting `n` as the image gives it, settled; an unassigned code takes the default (R164). -/
def imageSetting (ws : List Half) (length : Int) (n : Nat) : Int :=
  match settleSetting length n (imageValue ws n) with
  | some (v, _) => v
  | none => settingDefault n

/-- The settings of a good image, the named positions bounded by the window length it gives (R1, R164). -/
def imageSettings (ws : List Half) : List Int :=
  let length := imageSetting ws 0 6
  (List.range settingCount).map (fun i => imageSetting ws length (i + 1))

/-- Product entry `i` of the image, each field settled; a product code of 0 marks an empty entry (R43, R181). The reference
and knee are read unsigned. DEDUCED (log entry 23). -/
def imageProduct (ws : List Half) (i : Nat) : Option Product :=
  let w := fun k => imageWord ws (55 + 8 * i + k)
  if w 0 = 0#16 then none
  else
    let tref := clampNat 0 150 (w 5).toNat
    some
      { code := clampNat 1 9999 (w 0).toNat
        flavour := clampNat 1 255 (w 1).toNat
        cls := clampNat 0 7 (w 2).toNat
        allowance := clampNat 0 16777215 ((w 3).toNat * 65536 + (w 4).toNat)
        tref
        tk := clampNat tref 400 (w 6).toNat
        shelf := clampNat 1 60 (w 7).toNat }

/-- Transition entry `i` of the image: kind in the high byte, count in the low byte; an unassigned kind takes the default
(R44, R164, R181). -/
def imageTransition (ws : List Half) (i : Nat) : Transition :=
  let w := (imageWord ws (311 + i)).toNat
  if w / 256 ≤ 2 then readTransition (w / 256) (w % 256) else defaultTransition i

/-- Lane `i + 1` of the image: use and capacity; an unassigned use takes the default, OFF (R131, R164, R181). -/
def imageLane (ws : List Half) (i : Nat) : Lane :=
  Lane.fresh ((LaneUse.ofCode (imageWord ws (375 + 2 * i)).toNat).getD .off)
    (clampNat 1 500 (imageWord ws (376 + 2 * i)).toNat)

/-- A good image is taken into the working store. -/
def takeImage (ws : List Half) (s : State) : State :=
  { s with
    stc.settings := imageSettings ws
    stc.products := (List.range 32).map (imageProduct ws)
    stc.transitions := (List.range 64).map (imageTransition ws)
    adm.lanes := (List.range 8).map (imageLane ws) }

/-- A bad image fills the working store with factory defaults, and SETTINGS-BAD is latched (R164). -/
def takeDefaults (s : State) : State :=
  latch .settingsBad
    { s with
      stc.settings := defaultSettings
      stc.products := defaultProducts
      stc.transitions := defaultTransitions
      adm.lanes := defaultLanes }

/-- The load completes (R164): the store and the working sum, the attention line (R178), CONFIGURING, and the timers that
start there (R42, R92). -/
def completeLoad (ws : List Half) (s : State) : State :=
  let t := resum (if imageGood ws then takeImage ws s else takeDefaults s)
  let u := enterMode .configuring (updateAttention t)
  { u with exp.missAt := some (s.nowMs + 250), hnd.refreshAt := some (s.nowMs + u.refreshMs) }

/-! ### START (R1, R25, R166) -/

/-- The working store has changed other than by an accepted write (R166). -/
def storeChanged (s : State) : Bool :=
  wordSum (storeWords s.stc.settings s.stc.products s.stc.transitions s.adm.lanes) ≠ s.stc.workingSum

/-- The named positions as START settles them (R1). -/
def settledPositions (lidder : Bool) (length lid bond gate : Int) : Int × Int × Int :=
  let top := length - 1
  let lid1 := min lid top
  let bond1 := min bond top
  let gate1 := min gate top
  let bond2 := if lidder then max bond1 lid1 else bond1
  let gate2 := if lidder then max gate1 bond2 else gate1
  (lid1, bond2, gate2)

/-- A neighbour setting equal to the station's own number is taken as 0 (R25). -/
def settledNeighbour (own neighbour : Int) : Int := if neighbour = own then 0 else neighbour

/-- START settles the settings (R1, R25), and a downstream neighbour settled at 0 leaves no credit held; the working sum is
kept as the accepted writes left it (log entry 21). A waiting CREDIT follows the upstream neighbour settled. -/
def settleStart (s : State) : State :=
  let p := settledPositions (s.role = .lidder) (s.setting 6) (s.setting 9) (s.setting 10) (s.setting 11)
  let own := s.setting 2
  aimCredit
    (dropCredit
      (setSetting 13 (settledNeighbour own (s.setting 13))
        (setSetting 12 (settledNeighbour own (s.setting 12))
          (setSetting 11 p.2.2 (setSetting 10 p.2.1 (setSetting 9 p.1 s))))))

/-! ### RESUME (R4, R70, R72, R168) -/

/-- The row held a pot to lid when it was treated: it holds one still, or a pot that the lid treatment marked. R70 says
"holds no pot to lid" of a row already treated, and its worked sequence counts the pots marked NO-LID as such. DEDUCED
(log entry 25). -/
def RowBody.neededReel (b : RowBody) : Bool :=
  b.needsLid || b.pots.any (fun o => o.any (fun p => p.has .lidMismatch || p.has .noLid))

/-- The conditions of R70: a reel in ACTIVE, and the row at the lid position, if it needed a reel, matched by it. -/
def reelsMended (s : State) : Bool :=
  match s.lid.active with
  | none => false
  | some r =>
    match s.rowAt s.lidPos with
    | none => true
    | some row =>
      !row.body.neededReel ||
        match lotOf s row.body.lot with
        | none => true
        | some l => r.suits l

/-- RESUME clears what it may: HOLD, TRACK and BOND with the tripped-lane set, the lid causes under R70, never LINK. -/
def clearCauses (s : State) : State :=
  let t := dropCause .hold (dropCause .track s)
  let u := if s.hasCause .bond then dropCause .bond { t with lid.tripped := 0#8 } else t
  if reelsMended s then dropCause .lidMismatch (dropCause .noLids u) else u

/-! ### The drain (R169) -/

/-- Rows written off at the drain timeout: pots counted lost, departures reported (R20). -/
def writeOffRows : List (Option Row) → State → State
  | [], s => { s with idx.window := [] }
  | none :: rest, s => writeOffRows rest s
  | some r :: rest, s =>
    let t := lotDepart r.body.lot s
    writeOffRows rest { t with idx.lost := bump t.idx.lost r.body.potCount }

/-- Row entries removed at the drain timeout: pots counted missing (R39). -/
def removeRowEntries : List RowEntry → State → State
  | [], s => { s with hnd.rowArrivals := [] }
  | e :: rest, s =>
    let t := lotDepart e.body.lot s
    removeRowEntries rest { t with hnd.missing := bump t.hnd.missing e.body.potCount }

/-- Tray entries removed at the drain timeout (R39). -/
def removeTrayEntries : List TrayEntry → State → State
  | [], s => { s with hnd.trayArrivals := [] }
  | e :: rest, s =>
    let t := lotDepart e.tray.lot s
    removeTrayEntries rest { t with hnd.missing := bump t.hnd.missing 1 }

/-- Trays written off at the drain timeout, without OVERRUN (R80, R88). -/
def writeOffTrays : List Tray → State → State
  | [], s => s
  | t :: rest, s =>
    let u := lotDepart t.lot s
    writeOffTrays rest { u with tray.lost := bump u.tray.lost 1 }

/-- A tray in a cell is written off: unassigned first, its slot IDLE (R88, R125). -/
def writeOffCell (i : Nat) (c : Cell) (s : State) : State :=
  let t := unassign c.tray.order s
  let u :=
    match slotOfCell t i with
    | none => t
    | some j => setSlot j none t
  let v := emptyCell i u
  { v with tray.lost := bump v.tray.lost 1 }

/-- Every tray in a cell but one that is RELEASING is written off (R88). -/
def writeOffCells : List Nat → State → State
  | [], s => s
  | i :: is, s =>
    match s.cellAt i with
    | none => writeOffCells is s
    | some c => writeOffCells is (if c.tray.dstate = .releasing then s else writeOffCell i c s)

/-- Admission entries at the drain timeout: READY discarded, CLAIMED and INBOUND missing, without their notices (R147). They
end in the order of the table's index. DESIGN CHOICE (log entry 41). -/
def endEntries : List Nat → State → State
  | [], s => s
  | i :: is, s =>
    match s.admission i with
    | none => endEntries is s
    | some e =>
      endEntries is
        (if e.state = .ready then discardReady i e s else if e.claimed then declareMissing i e s else s)

/-- The number of records the drain timeout writes off, by role. -/
def recordsToWriteOff (s : State) : Nat :=
  match s.role with
  | .filler => heldCount s.idx.window
  | .lidder => heldCount s.idx.window + s.hnd.rowArrivals.length
  | .trayer =>
    heldCount s.idx.window + s.hnd.rowArrivals.length + (if s.tray.forming.isSome then 1 else 0) + s.tray.formed.length
  | .chill => s.hnd.trayArrivals.length + s.tray.queue.length
  | .dispatch =>
    s.hnd.trayArrivals.length + (s.tray.cells.filter (fun o => o.any (fun c => c.tray.dstate ≠ .releasing))).length
  | .chamber => (s.adm.table.filter (fun o => o.any (fun e => e.state ≠ .pending))).length

/-- Each block writes off what it still holds (R169). -/
def writeOffAll (s : State) : State :=
  match s.role with
  | .filler => writeOffRows s.idx.window s
  | .lidder => removeRowEntries s.hnd.rowArrivals (writeOffRows s.idx.window s)
  | .trayer =>
    let t := removeRowEntries s.hnd.rowArrivals (writeOffRows s.idx.window s)
    let u := writeOffTrays ((s.tray.forming.map Forming.tray).toList ++ s.tray.formed) t
    { u with tray.forming := none, tray.formed := [] }
  | .chill =>
    let t := removeTrayEntries s.hnd.trayArrivals s
    let u := writeOffTrays s.tray.queue t
    { u with tray.queue := [] }
  | .dispatch => writeOffCells (List.range s.tray.cells.length) (removeTrayEntries s.hnd.trayArrivals s)
  | .chamber => endEntries (List.range s.adm.table.length) s

/-- Every PENDING entry is removed at entry to DRAINING, its manifest kept (R147). -/
def removePending (s : State) : State :=
  { s with
    adm.table := s.adm.table.map (fun o => o.filter (fun e => e.state ≠ .pending))
    adm.lapsed := bump s.adm.lapsed (admissionsIn s .pending) }

/-- Entry to DRAINING (R147, R169, R59, R79): the drain timer starts and each block acts. The STATION-STATE is placed before
FILLER's LOT-CLOSE. DESIGN CHOICE (log entry 34). -/
def enterDraining (s : State) : State :=
  let t := enterMode .draining { s with stc.drainAt := some (s.nowMs + s.drainMs) }
  match s.role with
  | .filler => closeOpenLot t
  | .trayer => closeOnDrain t
  | .chamber => removePending t
  | _ => t

end Sys2Proof.Machine
end

