-- ==== Sys2Proof/Machine/Station.lean ====
section
/-! DEFINITION. Machine/Station.lean: the commands of Station Control (chapters 10 and 11): resets and load, transactions,
settings, modes, clock and notices, and the station second. -/

namespace Sys2Proof.Machine

/-- HARD_RESET (R173). -/
def execHardReset (s : State) : Host.Outcome State Fault Refusal := .next (hardReset s)

/-- LOAD_COMPLETE (R164, R181): the read of STARTING ends; in any other mode no read runs. -/
def execLoadComplete (image : List (BitVec 8)) (s : State) : Host.Outcome State Fault Refusal :=
  .next (if s.mode = .starting then settleFlow (completeLoad (imageWords image) s) else s)

/-! ### Transactions (R174, R175) -/

/-- A command transfer that fails the frame check: FRAME-ERROR with the tag as received and no data (R174). A tag or a code
that was not received is a free value (log entry 9). -/
def frameErrorStep (code tag : Option (BitVec 8)) (s : State) : State :=
  if s.port.restartPending then restartReset s
  else
    putResponse (receivedByte tag s.freeCount) (receivedByte code (s.freeCount + 1)) .frameError []
      { s with freeCount := s.freeCount + 2 }

/-- FRAME_ERROR (R174). -/
def execFrameError (code tag : Option (BitVec 8)) (s : State) : Host.Outcome State Fault Refusal :=
  .next (frameErrorStep code tag s)

/-- The code is not assigned to a command of this part, and is not the fetch code (R175, R180). -/
def unassigned (code : BitVec 8) : Bool := (commandParams code.toNat).isNone && code.toNat ≠ fetchCode

/-- A command whose code is not assigned is answered UNKNOWN-COMMAND (R175). -/
def unknownStep (code tag : BitVec 8) (s : State) : State :=
  if !unassigned code then s
  else if s.port.restartPending then restartReset s
  else putResponse tag code .unknownCommand [] s

/-- UNKNOWN_COMMAND (R175). -/
def execUnknownCommand (code tag : BitVec 8) (s : State) : Host.Outcome State Fault Refusal :=
  .next (unknownStep code tag s)

/-- The record a response transfer delivers: the held response, or EMPTY with tag 0 and command code 0 (R174). -/
def deliveredBytes (o : Option Response) : List Byte :=
  match o with
  | none => responseBytes 0#8 0#8 .empty []
  | some r => responseBytes r.tag r.code r.status r.data

/-- A response transfer (R174): the held response is delivered and marked fetched; the first one after a RESTART takes its
reset. A transfer released before the whole record is out counts as one too. DESIGN CHOICE (log entry 47). -/
def responseStep (s : State) : State :=
  let t := { s with
    port.delivered := deliveredBytes s.port.place
    port.place := s.port.place.map (fun r => { r with fetched := true }) }
  if s.port.restartPending then restartReset t else t

/-- RESPONSE_TRANSFER (R174). -/
def execResponseTransfer (s : State) : Host.Outcome State Fault Refusal := .next (responseStep s)

/-- Select is asserted for a command transfer while a RESTART's OK has not been delivered: the reset is taken at once and the
transfer is not taken (R174). Otherwise asserting select changes nothing. -/
def selectStep (s : State) : State := if s.port.restartPending then restartReset s else s

/-- SELECT_ASSERTED (R174). -/
def execSelectAsserted (s : State) : Host.Outcome State Fault Refusal := .next (selectStep s)

/-! ### Settings (R165) -/

/-- A write that changes the role empties the lot and manifest tables and makes every peer UNKNOWN (R165). The probe state
and the miss timer's deadline stay, from CHAMBER too. DESIGN CHOICE (log entry 39). A held limit, a waiting CREDIT and a
waiting STATION-STATE stay, at any role. DESIGN CHOICE (log entry 44). -/
def changeRole (s : State) : State :=
  forgetPeers
    { s with
      lot.table := List.replicate 16 none
      lot.openIdx := none
      adm.manifests := List.replicate 32 none }

/-- An accepted WRITE-SETTING (R165, R178). A downstream neighbour written 0 leaves no credit held (R25); one written to
another station keeps the limit held from the former one until it lapses. DESIGN CHOICE (log entry 32). A waiting CREDIT
follows the upstream neighbour written (R25). -/
def storeSetting (n : Nat) (v : Int) (s : State) : State :=
  let t := resum (setSetting n v s)
  updateAttention
    (if n = 1 && v ≠ s.setting 1 then changeRole t
    else if n = 12 then aimCredit t
    else if n = 13 then dropCredit t
    else t)

/-- The rule of WRITE-SETTING (R165). -/
def writeSettingOwn (number : BitVec 16) (value : BitVec 32) (s : State) : Reply :=
  let n := number.toNat
  if s.mode ≠ .configuring then refuse .badMode s
  else
    match settleSetting (s.setting 6) n (givenValue n value) with
    | none => refuse .badValue s
    | some (v, moved) =>
      { status := if moved then .clamped else .ok, data := [], state := storeSetting n v s }

/-- WRITE_SETTING (R165). -/
def execWriteSetting (h : CmdHead) (number : BitVec 16) (value : BitVec 32) (s : State) :
    Host.Outcome State Fault Refusal :=
  .next (portCommand 0x01 6 false anyRole true (writeSettingOwn number value) h s)

/-- The rule of READ-SETTING (R165). -/
def readSettingOwn (number : BitVec 16) (s : State) : Reply :=
  let n := number.toNat
  if n < 1 || settingCount < n then refuse .badValue s else report (settingRecord (s.setting n)) s

/-- READ_SETTING (R165). -/
def execReadSetting (h : CmdHead) (number : BitVec 16) (s : State) : Host.Outcome State Fault Refusal :=
  .next (portCommand 0x02 2 false anyRole true (readSettingOwn number) h s)

/-! ### Modes (R166 to R171) -/

/-- START in CONFIGURING (R166). -/
def startSteps (s : State) : Reply :=
  if storeChanged s then
    { status := .checkFail, data := [], state := settleFlow (latch .settingsBad (enterFault .settings s)) }
  else accept (settleFlow (enterByCauses (settleStart s)))

/-- The rule of START (R166). -/
def startOwn (s : State) : Reply := if s.mode ≠ .configuring then refuse .badMode s else startSteps s

/-- START (R166). -/
def execStart (h : CmdHead) (s : State) : Host.Outcome State Fault Refusal :=
  .next (portCommand 0x03 0 false anyRole true startOwn h s)

/-- The rule of HOLD (R167). -/
def holdOwn (s : State) : Reply :=
  if s.mode = .running || s.mode = .held then accept (settleFlow (addCause .hold s)) else refuse .badMode s

/-- HOLD (R167). -/
def execHold (h : CmdHead) (s : State) : Host.Outcome State Fault Refusal :=
  .next (portCommand 0x04 0 false anyRole true holdOwn h s)

/-- The rule of RESUME (R168). -/
def resumeOwn (s : State) : Reply :=
  match s.mode with
  | .starting | .configuring | .fault => refuse .badMode s
  | .running => accept s
  | .held =>
    let t := clearCauses s
    if t.stc.causes = 0#8 then accept (settleFlow (enterRunning t)) else { status := .busy, data := [], state := t }
  | .draining | .sanitising => accept (clearCauses s)

/-- RESUME (R168, R4, R70, R72). -/
def execResume (h : CmdHead) (s : State) : Host.Outcome State Fault Refusal :=
  .next (portCommand 0x05 0 false anyRole true resumeOwn h s)

/-- The rule of SANITISE (R169). -/
def sanitiseOwn (s : State) : Reply :=
  if s.mode = .running || s.mode = .held then accept (settleFlow (enterDraining s)) else refuse .badMode s

/-- SANITISE (R169). -/
def execSanitise (h : CmdHead) (s : State) : Host.Outcome State Fault Refusal :=
  .next (portCommand 0x06 0 false anyRole true sanitiseOwn h s)

/-- Every store of the role is empty in DRAINING (R169). After a drain timeout that left a tray RELEASING, DISPATCH too goes
on only when every cell and the arrivals list are empty. DESIGN CHOICE (log entry 37). -/
def drainEnds (s : State) : State :=
  if s.mode = .draining && stationEmpty s then settleFlow (enterSanitising s) else s

/-- DRAIN_COMPLETE (R169). -/
def execDrainComplete (s : State) : Host.Outcome State Fault Refusal := .next (drainEnds s)

/-- The drain timer runs out (R169): what is still held is written off, and the station enters SANITISING if it is empty. -/
def drainOut (s : State) : State :=
  match s.stc.drainAt with
  | none => s
  | some d =>
    if s.mode = .draining then
      let t := timeTo d { s with stc.drainAt := none }
      let u := writeOffAll t
      let v := if 0 < recordsToWriteOff s then latch .writtenOff u else u
      settleFlow (if stationEmpty v then enterSanitising v else v)
    else s

/-- DRAIN_TIMEOUT (R169). -/
def execDrainTimeout (s : State) : Host.Outcome State Fault Refusal := .next (drainOut s)

/-- What sanitise-clears empties (R59, R160, R170). -/
def sanitiseTables (s : State) : State :=
  if s.sanitiseClears then
    forgetPeers
      (if s.role.holdsLots then { s with lot.table := List.replicate 16 none, lot.openIdx := none } else s)
  else s

/-- END-SANITISE in SANITISING (R170). -/
def endSanitiseSteps (s : State) : State :=
  let t := if s.role = .filler then { s with lot.sanitised := true } else s
  settleFlow (enterByCauses (sanitiseTables t))

/-- The rule of END-SANITISE (R170). -/
def endSanitiseOwn (s : State) : Reply :=
  if s.mode = .sanitising then accept (endSanitiseSteps s) else refuse .badMode s

/-- END_SANITISE (R170). -/
def execEndSanitise (h : CmdHead) (s : State) : Host.Outcome State Fault Refusal :=
  .next (portCommand 0x07 0 false anyRole true endSanitiseOwn h s)

/-- RESTART (R173, R174): answered OK in every mode, the reset following once the answer has been delivered. -/
def execRestart (h : CmdHead) (s : State) : Host.Outcome State Fault Refusal :=
  .next (portCommand 0x08 0 true anyRole true (fun t => accept { t with port.restartPending := true }) h s)

/-! ### Clock, status and notices (R161, R172, R176, R177) -/

/-- SET_CLOCK (R172). -/
def execSetClock (h : CmdHead) (value : BitVec 32) (s : State) : Host.Outcome State Fault Refusal :=
  .next (portCommand 0x09 4 false anyRole true (fun t => accept { t with stc.clock := value }) h s)

/-- SET_DAY (R172). -/
def execSetDay (h : CmdHead) (value : BitVec 16) (s : State) : Host.Outcome State Fault Refusal :=
  .next (portCommand 0x0A 2 false anyRole true (fun t => accept { t with stc.day := value }) h s)

/-- READ_STATUS (R176). -/
def execReadStatus (h : CmdHead) (s : State) : Host.Outcome State Fault Refusal :=
  .next (portCommand 0x0B 0 false anyRole true (fun t => report (statusRecord t) t) h s)

/-- The rule of READ-NOTICES (R177): the latched set is returned and cleared, and the line worked out again (R178). -/
def readNoticesOwn (s : State) : Reply :=
  report (beBytes 4 s.stc.latched.toNat) (updateAttention { s with stc.latched := 0#32 })

/-- READ_NOTICES (R177). -/
def execReadNotices (h : CmdHead) (s : State) : Host.Outcome State Fault Refusal :=
  .next (portCommand 0x0C 0 false anyRole true readNoticesOwn h s)

/-- READ_PEERS (R161). -/
def execReadPeers (h : CmdHead) (s : State) : Host.Outcome State Fault Refusal :=
  .next (portCommand 0x0D 0 false anyRole true (fun t => report (peersRecord t) t) h s)

/-- The station second (R172): the clock advances, then the per-second work of the blocks. -/
def secondStep (s : State) : State :=
  let t := timeTo s.stc.secondAt
    { s with stc.clock := s.stc.clock + 1#32, stc.secondAt := s.stc.secondAt + 1000 }
  cutOffSecond (exposureSecond t)

/-- STATION_SECOND (R172, R98, R100, R114, R95). -/
def execStationSecond (s : State) : Host.Outcome State Fault Refusal := .next (secondStep s)

end Sys2Proof.Machine
end

