-- ==== Sys2Proof/Machine/Own.lean ====
section
/-! DEFINITION. Machine/Own.lean: what the part does on an empty queue: a command that is one of
the part's own events, a timer run out or a condition met, joins the queue, or a millisecond passes. DESIGN CHOICE (log entries 2, 3 and 4). -/

namespace Sys2Proof.Machine

/-- A command that joins the queue where its condition holds. -/
def whenDue (b : Bool) (c : Instr) : List Instr := if b then [c] else []

/-- A running deadline has been reached. -/
def reached (s : State) (o : Option Nat) : Bool := o.any (fun d => d ≤ s.nowMs)

/-- The run-outs of Station Control, IDX, HND, LOT, TRY and EXP. A held limit lapses at any role (log entry 44); the refresh
period is not run out at a role with no incoming side (log entry 45). DESIGN CHOICE. -/
def dueTimers (s : State) : List Instr :=
  whenDue (s.stc.secondAt ≤ s.nowMs) .stationSecond ++
    (List.range 8).flatMap (fun k => whenDue (reached s (slotAt s.idx.pulses k)) (.rejectPulseEnd (k + 1))) ++
    whenDue (reached s (s.hnd.held.map (fun h => h.since + s.creditExpiryMs))) .creditExpiry ++
    whenDue (s.role.hasIncoming && reached s s.hnd.refreshAt) .creditRefresh ++
    whenDue (s.role.isRow && reached s (s.hnd.rowArrivals.head?.map (fun e => e.since + s.transitMs)))
      .transitLimitExpiry ++
    whenDue (!s.role.isRow && reached s (s.hnd.trayArrivals.head?.map (fun e => e.since + s.transitMs)))
      .transitLimitExpiry ++
    whenDue (reached s s.lot.repeatAt) .lotOpenRepetition ++
    whenDue (reached s (s.tray.forming.bind Forming.deadline)) .trayCloseTime ++
    whenDue (takesReadings s && reached s s.exp.missAt) .miss ++
    whenDue (reached s s.stc.drainAt) .drainTimeout

/-- The run-outs of DSP. -/
def dueDispatch (s : State) : List Instr :=
  (List.range 4).flatMap (fun j => whenDue (reached s ((s.slot j).bind Slot.answerAt)) (.answerTimeout (j + 1))) ++
    (List.range 4).flatMap (fun j => whenDue (reached s ((s.slot j).bind Slot.repeatAt)) (.repeatTimer (j + 1))) ++
    (List.range 12).flatMap (fun i =>
      whenDue ((s.cellAt i).any (fun c => c.tray.dstate = .granted && c.tray.grant.any (fun g => g.deadline ≤ s.nowMs)))
        (.grantExpiry (i + 1))) ++
    whenDue (reached s s.dsp.shuttleAt) .shuttleTimeout

/-- The run-outs of one admission entry. -/
def dueAdmission (s : State) (i : Nat) : List Instr :=
  match s.admission i with
  | none => []
  | some e =>
    whenDue (e.state = .ready && e.stateSince + s.claimMs ≤ s.nowMs) (.claimWindow i) ++
      whenDue (e.claimed && e.claimSince + s.arrivalMs ≤ s.nowMs) (.arrivalWindow i) ++
      whenDue (e.state = .pending && e.askSince + s.manifestMs ≤ s.nowMs) (.pendingLapse i)

/-- The lifetime of the manifest at an index has passed and its tray has no entry (R134). -/
def manifestDue (s : State) (i : Nat) : Bool :=
  (slotAt s.adm.manifests i).any (fun m => m.since + s.manifestMs ≤ s.nowMs && (admissionIndex s m.tray).isNone)

/-- A peer entry that is not UNKNOWN has had no report for 3 s (R160). -/
def peerDue (s : State) (i : Nat) : Bool :=
  (s.lnk.peers[i]?).any (fun p => p.mode.isSome && p.since.any (fun t => t + 3000 ≤ s.nowMs))

/-- The run-outs of ADM and LNK. -/
def dueLate (s : State) : List Instr :=
  (List.range 16).flatMap (dueAdmission s) ++
    (List.range 32).flatMap (fun i => whenDue (manifestDue s i) (.manifestLifetime i)) ++
    (List.range 30).flatMap (fun i => whenDue (peerDue s i) (.peerTimeout (i + 1))) ++
    whenDue (reached s s.lnk.stateAt) .stationStatePeriod ++
    whenDue (reached s (s.lnk.waitSince.map (· + 20))) .longArbitrationLoss

/-- The part's own events whose conditions hold (R53, R116, R118, R123, R124, R159, R169). -/
def dueConditions (s : State) : List Instr :=
  whenDue (s.mode = .draining && stationEmpty s) .drainComplete ++
    whenDue (s.dsp.pendingPass.isSome && mainHasRoom s 1) .pendingTrayPassQueued ++
    whenDue (askWaiting s && mainHasRoom s 1) .dueAskQueued ++
    whenDue (seriesAllowed s && (lowestFree s.dsp.slots).isSome &&
      s.tray.cells.any (fun o => o.any (fun c => c.tray.dstate = .unasked))) .seriesStart ++
    whenDue (releaseAllowed s && (chooseRelease s).isSome) .releaseBegin ++
    whenDue ((!s.lot.pendingCloses.isEmpty || s.lot.pendingOpen) && mainHasRoom s 1) .pendingLotFramesQueued ++
    whenDue (s.lnk.pendingState.isSome && mainHasRoom s 1) .pendingStationStatePlaced

/-- The part's own commands that are due, in a fixed order (log entry 4). -/
def dueEvents (s : State) : List Instr := dueTimers s ++ dueDispatch s ++ dueLate s ++ dueConditions s

/-- An idle step: the first of the own commands that are due joins the queue; where none is due, one millisecond passes
(log entry 2). -/
def idle (s : State) : State :=
  match dueEvents s with
  | [] => { s with nowMs := s.nowMs + 1 }
  | c :: _ => { s with pending := s.pending ++ [c] }

end Sys2Proof.Machine
end

