-- ==== Sys2Proof/Machine/Dispatch.lean ====
section
/-! DEFINITION. Machine/Dispatch.lean: what each command does, one arm per row of the table. -/

namespace Sys2Proof.Machine

def exec (i : Instr) (s : State) : Host.Outcome State Fault Refusal :=
  match i with
  | .hardReset => Sys2Proof.Machine.execHardReset s
  | .loadComplete image => Sys2Proof.Machine.execLoadComplete image s
  | .frameError code tag => Sys2Proof.Machine.execFrameError code tag s
  | .unknownCommand code tag => Sys2Proof.Machine.execUnknownCommand code tag s
  | .responseTransfer => Sys2Proof.Machine.execResponseTransfer s
  | .writeSetting h number value => Sys2Proof.Machine.execWriteSetting h number value s
  | .readSetting h number => Sys2Proof.Machine.execReadSetting h number s
  | .start h => Sys2Proof.Machine.execStart h s
  | .hold h => Sys2Proof.Machine.execHold h s
  | .resume h => Sys2Proof.Machine.execResume h s
  | .sanitise h => Sys2Proof.Machine.execSanitise h s
  | .drainComplete => Sys2Proof.Machine.execDrainComplete s
  | .drainTimeout => Sys2Proof.Machine.execDrainTimeout s
  | .endSanitise h => Sys2Proof.Machine.execEndSanitise h s
  | .restart h => Sys2Proof.Machine.execRestart h s
  | .setClock h value => Sys2Proof.Machine.execSetClock h value s
  | .setDay h value => Sys2Proof.Machine.execSetDay h value s
  | .readStatus h => Sys2Proof.Machine.execReadStatus h s
  | .readNotices h => Sys2Proof.Machine.execReadNotices h s
  | .readPeers h => Sys2Proof.Machine.execReadPeers h s
  | .forceReject h position lane => Sys2Proof.Machine.execForceReject h position lane s
  | .readRow h position => Sys2Proof.Machine.execReadRow h position s
  | .readArrival h index => Sys2Proof.Machine.execReadArrival h index s
  | .writeProduct h index emptyMark p => Sys2Proof.Machine.execWriteProduct h index emptyMark p s
  | .writeTransition h prev next kind count => Sys2Proof.Machine.execWriteTransition h prev next kind count s
  | .openLot h index tank lot => Sys2Proof.Machine.execOpenLot h index tank lot s
  | .closeLot h => Sys2Proof.Machine.execCloseLot h s
  | .readLot h index => Sys2Proof.Machine.execReadLot h index s
  | .loadReel h reel flavour useBy lids => Sys2Proof.Machine.execLoadReel h reel flavour useBy lids s
  | .splice h => Sys2Proof.Machine.execSplice h s
  | .readReels h => Sys2Proof.Machine.execReadReels h s
  | .readTray h place => Sys2Proof.Machine.execReadTray h place s
  | .readZone h index => Sys2Proof.Machine.execReadZone h index s
  | .writeOrder h bank index emptyMark o => Sys2Proof.Machine.execWriteOrder h bank index emptyMark o s
  | .readOrder h bank index => Sys2Proof.Machine.execReadOrder h bank index s
  | .swapBook h bank => Sys2Proof.Machine.execSwapBook h bank s
  | .retryTray h cell => Sys2Proof.Machine.execRetryTray h cell s
  | .removeTray h cell => Sys2Proof.Machine.execRemoveTray h cell s
  | .readTrace h => Sys2Proof.Machine.execReadTrace h s
  | .freeTrace h => Sys2Proof.Machine.execFreeTrace h s
  | .writeLane h lane use capacity occupancy order => Sys2Proof.Machine.execWriteLane h lane use capacity occupancy order s
  | .readLane h lane => Sys2Proof.Machine.execReadLane h lane s
  | .readAdmission h index => Sys2Proof.Machine.execReadAdmission h index s
  | .drawdown h lane count => Sys2Proof.Machine.execDrawdown h lane count s
  | .forwardCount presence bondPass => Sys2Proof.Machine.execForwardCount presence bondPass s
  | .reverseCount => Sys2Proof.Machine.execReverseCount s
  | .rejectPulseEnd lane => Sys2Proof.Machine.execRejectPulseEnd lane s
  | .credit src tgt limit room => Sys2Proof.Machine.execCredit src tgt limit room s
  | .creditExpiry => Sys2Proof.Machine.execCreditExpiry s
  | .creditRefresh => Sys2Proof.Machine.execCreditRefresh s
  | .rowPass src tgt p => Sys2Proof.Machine.execRowPass src tgt p s
  | .trayPass src tgt p => Sys2Proof.Machine.execTrayPass src tgt p s
  | .chamberTrayPass src tgt p => Sys2Proof.Machine.execChamberTrayPass src tgt p s
  | .transitLimitExpiry => Sys2Proof.Machine.execTransitLimitExpiry s
  | .lotOpen src tgt p => Sys2Proof.Machine.execLotOpen src tgt p s
  | .lotCloseFrame src tgt lot => Sys2Proof.Machine.execLotCloseFrame src tgt lot s
  | .lotOpenRepetition => Sys2Proof.Machine.execLotOpenRepetition s
  | .pendingLotFramesQueued => Sys2Proof.Machine.execPendingLotFramesQueued s
  | .exitSensorEvent => Sys2Proof.Machine.execExitSensorEvent s
  | .chillExitSensorEvent => Sys2Proof.Machine.execChillExitSensorEvent s
  | .trayCloseTime => Sys2Proof.Machine.execTrayCloseTime s
  | .infeedSensorEvent => Sys2Proof.Machine.execInfeedSensorEvent s
  | .chamberInfeedEvent => Sys2Proof.Machine.execChamberInfeedEvent s
  | .reading width => Sys2Proof.Machine.execReading width s
  | .miss => Sys2Proof.Machine.execMiss s
  | .stationSecond => Sys2Proof.Machine.execStationSecond s
  | .seriesStart => Sys2Proof.Machine.execSeriesStart s
  | .admitReply src tgt trayId answer lane => Sys2Proof.Machine.execAdmitReply src tgt trayId answer lane s
  | .answerTimeout slot => Sys2Proof.Machine.execAnswerTimeout slot s
  | .repeatTimer slot => Sys2Proof.Machine.execRepeatTimer slot s
  | .dueAskQueued => Sys2Proof.Machine.execDueAskQueued s
  | .grantExpiry cell => Sys2Proof.Machine.execGrantExpiry cell s
  | .releaseBegin => Sys2Proof.Machine.execReleaseBegin s
  | .shuttleDone => Sys2Proof.Machine.execShuttleDone s
  | .shuttleTimeout => Sys2Proof.Machine.execShuttleTimeout s
  | .pendingTrayPassQueued => Sys2Proof.Machine.execPendingTrayPassQueued s
  | .manifest src tgt p => Sys2Proof.Machine.execManifest src tgt p s
  | .admitAsk src tgt trayId => Sys2Proof.Machine.execAdmitAsk src tgt trayId s
  | .claimWindow index => Sys2Proof.Machine.execClaimWindow index s
  | .arrivalWindow index => Sys2Proof.Machine.execArrivalWindow index s
  | .manifestLifetime index => Sys2Proof.Machine.execManifestLifetime index s
  | .pendingLapse index => Sys2Proof.Machine.execPendingLapse index s
  | .stationState src tgt role mode => Sys2Proof.Machine.execStationState src tgt role mode s
  | .peerTimeout station => Sys2Proof.Machine.execPeerTimeout station s
  | .stationStatePeriod => Sys2Proof.Machine.execStationStatePeriod s
  | .pendingStationStatePlaced => Sys2Proof.Machine.execPendingStationStatePlaced s
  | .badFrame endedRight bytes => Sys2Proof.Machine.execBadFrame endedRight bytes s
  | .frameOffer => Sys2Proof.Machine.execFrameOffer s
  | .frameSent => Sys2Proof.Machine.execFrameSent s
  | .lostArbitration => Sys2Proof.Machine.execLostArbitration s
  | .corruptedOwnFrame => Sys2Proof.Machine.execCorruptedOwnFrame s
  | .longArbitrationLoss => Sys2Proof.Machine.execLongArbitrationLoss s
  | .selectAsserted => Sys2Proof.Machine.execSelectAsserted s

end Sys2Proof.Machine
end

