-- ==== Sys2Proof/Safety.lean ====
section
/-! DEFINITION. Safety.lean: what the manual promises of every state the part can be in, as predicates of one state: the
bounded stores, the mode with its causes, the attention line, the reels, the exposures, and a chamber's reservations. -/

namespace Sys2Proof.Machine

/-- Every bounded store is within its capacity, and every table has its size (R5, R6, R18, R27, R30, R43, R44, R53, R62, R71,
R78, R79, R82, R85, R115, R126, R133, R135, R140, R156): the window has at most L positions, a row has an entry for each of
lanes 1 to 8, and no row stands in the window before START. -/
structure Bounded (s : State) : Prop where
  length : 8 ≤ s.windowLength ∧ s.windowLength ≤ 64
  window : s.idx.window.length ≤ s.windowLength
  waiting : s.mode = .starting ∨ s.mode = .configuring → s.idx.window = []
  rowPots : ∀ r, some r ∈ s.idx.window → r.body.pots.length = 8
  entryPots : ∀ e ∈ s.hnd.rowArrivals, e.body.pots.length = 8
  pulses : s.idx.pulses.length = 8
  fails : s.lid.fails.length = 8
  products : s.stc.products.length = 32
  transitions : s.stc.transitions.length = 64
  rowArrivals : s.hnd.rowArrivals.length ≤ 8
  trayArrivals : s.hnd.trayArrivals.length ≤ 8
  formed : s.tray.formed.length ≤ 16
  queue : s.tray.queue.length ≤ 48
  cells : s.tray.cells.length = 12
  lots : s.lot.table.length = 16
  slots : s.dsp.slots.length = 4
  books : s.dsp.bank0.length = 32 ∧ s.dsp.bank1.length = 32
  ring : s.trc.entries.length ≤ 128
  manifests : s.adm.manifests.length = 32
  admissions : s.adm.table.length = 16
  lanes : s.adm.lanes.length = 8
  notes : s.adm.notes.length ≤ 4
  answers : s.lnk.answerQ.length ≤ 8
  mains : s.lnk.mainQ.length ≤ 16
  peers : s.lnk.peers.length = 30
  room : s.hnd.room ≤ 8
  closes : s.lot.pendingCloses.length ≤ (if s.lot.openIdx.isSome then 1 else 2)

/-- The cause set fits the mode: it is empty in RUNNING, and holds a cause in HELD (R167). -/
def CausesFit (s : State) : Prop :=
  (s.mode = .running → s.stc.causes = 0#8) ∧ (s.mode = .held → s.stc.causes ≠ 0#8)

/-- The attention line is asserted exactly while a latched notice is not masked (R178). -/
def AttentionFits (s : State) : Prop := s.out.attention = attentionOf s.stc.latched s.noticeMask

/-- A reel record held in either place has a lid count of 1 to 60,000 (R62). -/
def ReelsFit (s : State) : Prop :=
  (∀ r, s.lid.active = some r → 1 ≤ r.lids ∧ r.lids ≤ 60000) ∧
    (∀ r, s.lid.standby = some r → 1 ≤ r.lids ∧ r.lids ≤ 60000)

/-- The run permit is off outside RUNNING and DRAINING (R19, R84, R86), and room is 0 outside RUNNING (R37). -/
structure FlowFits (s : State) : Prop where
  permit : s.out.runPermit = true → s.mode = .running ∨ s.mode = .draining
  room : s.mode ≠ .running → s.hnd.room = 0

/-- A station with downstream neighbour 0 holds no credit at any time (R25), and STARTING holds none (R42). A CREDIT that
waits in the credit slot is for the upstream neighbour, and none waits with upstream neighbour 0 (R25) or in STARTING (R38). -/
structure CreditFits (s : State) : Prop where
  held : s.downstream = 0 ∨ s.mode = .starting → s.hnd.held = none
  waiting : ∀ f, s.lnk.creditSlot = some f → s.mode ≠ .starting ∧ s.upstream ≠ 0 ∧ f.target = s.upstream

/-- Every exposure the station holds is at most 16,777,215 (R98). -/
structure ExposureFits (s : State) : Prop where
  rows : ∀ r, some r ∈ s.idx.window → r.body.exposure ≤ exposureMax
  rowEntries : ∀ e ∈ s.hnd.rowArrivals, e.body.exposure ≤ exposureMax
  trayEntries : ∀ e ∈ s.hnd.trayArrivals, e.tray.exposure ≤ exposureMax
  forming : ∀ f, s.tray.forming = some f → f.tray.exposure ≤ exposureMax
  formed : ∀ t ∈ s.tray.formed, t.exposure ≤ exposureMax
  queue : ∀ t ∈ s.tray.queue, t.exposure ≤ exposureMax
  cells : ∀ c, some c ∈ s.tray.cells → c.tray.exposure ≤ exposureMax

/-- An exposure after one station second (R98): a record of a held lot gains its lot's increment at the zone temperature in
use, up to 16,777,215; one of absent lot gains nothing. -/
def accrued (s : State) (lot : Option Nat) (exposure : Nat) : Nat :=
  match lotOf s lot with
  | none => exposure
  | some l => min 16777215 (exposure + increment l.tref l.tk (zoneTemperature s))

/-- How many READY, CLAIMED and INBOUND entries a lane has (R135). -/
def reservedFor (s : State) (n : Nat) : Nat :=
  (s.adm.table.filter (fun o => o.any (fun e => e.holdsRoom && e.laneNo = n))).length

/-- A chamber's reservations balance (R131, R135, R138, R149): each lane's reserved count is the number of entries holding
room in it, no lane is over its capacity, and every entry holding room has a free trace entry kept for its outcome. Entries
stand only at a chamber that has been started. -/
structure ReservationsFit (s : State) : Prop where
  lanes : s.adm.lanes.length = 8
  ring : s.trc.entries.length ≤ ringSize
  elsewhere : s.role ≠ .chamber ∨ s.mode = .starting ∨ s.mode = .configuring → ∀ o ∈ s.adm.table, o = none
  laneNumbers : ∀ e, some e ∈ s.adm.table → e.holdsRoom = true → 1 ≤ e.laneNo ∧ e.laneNo ≤ 8
  reserved : ∀ n l, s.lane n = some l → l.reserved = reservedFor s n
  capacity : ∀ l ∈ s.adm.lanes, 1 ≤ l.capacity ∧ l.occupancy + l.reserved ≤ l.capacity
  outcomes : reservedTotal s ≤ traceFree s

/-- A value lies in a range. -/
def Range.holds : Range → Int → Prop
  | .span lo hi, v => lo ≤ v ∧ v ≤ hi
  | .oneOf codes, v => v ∈ codes
  | .marks, v => 0 ≤ v ∧ v < 8388608

/-- The station runs with the settings START has settled: FAULT is left out, because START itself can enter it (R166). -/
def Mode.started (m : Mode) : Bool := m = .running || m = .held || m = .draining || m = .sanitising

/-- Every setting lies in its range, the named positions in 1 to 63 before START and in 1 to L-1 after it, at LIDDER with
gate at or above bond at or above lid (R1, R164, R165). -/
structure SettingsFit (s : State) : Prop where
  count : s.stc.settings.length = settingCount
  ranges : ∀ n r, settingRange 64 n = some r → r.holds (s.setting n)
  positions : s.mode.started = true → ∀ n, n = 9 ∨ n = 10 ∨ n = 11 → s.setting n ≤ s.setting 6 - 1
  order : s.mode.started = true → s.role = .lidder → s.setting 9 ≤ s.setting 10 ∧ s.setting 10 ≤ s.setting 11

/-- The position count lies in 0 to C-1 and the reverse debt in 0 to C, and both stay at 0 until START (R1, R2). -/
structure CountsFit (s : State) : Prop where
  perIndex : 16 ≤ s.countsPerIndex ∧ s.countsPerIndex ≤ 4095
  position : s.idx.posCount < s.countsPerIndex
  debt : s.idx.debt ≤ s.countsPerIndex
  waiting : s.mode = .starting ∨ s.mode = .configuring → s.idx.posCount = 0 ∧ s.idx.debt = 0

/-! ### When a command is taken -/

/-- The port decodes the command (R174, R175): no RESTART waits to be taken, the parameter length is the command's, and the
mode is not STARTING. -/
structure PortReady (h : CmdHead) (paramLen : Nat) (s : State) : Prop where
  noRestart : s.port.restartPending = false
  length : h.paramLen.toNat = paramLen
  decoding : s.mode ≠ .starting

/-- A directed frame of a kind comes from a station of the line to this one, in a mode and role that take it (R153 to R155,
R162). -/
structure TakenFrom (kind : FrameKind) (src tgt : BitVec 5) (s : State) : Prop where
  directed : kind.broadcast = false
  source : 1 ≤ src.toNat ∧ src.toNat ≤ 30
  target : tgt.toNat = s.own
  own : 1 ≤ s.own ∧ s.own ≤ 30
  mode : s.mode ≠ .starting
  use : s.role.uses kind = true

/-- A broadcast frame of a kind passes an acceptance filter of a station that has a use for it (R153 to R155, R162). -/
structure HeardFrom (kind : FrameKind) (src : BitVec 5) (s : State) : Prop where
  broadcast : kind.broadcast = true
  source : 1 ≤ src.toNat ∧ src.toNat ≤ 30
  mode : s.mode ≠ .starting
  filter : accepts s kind src.toNat 0 = true
  use : s.role.uses kind = true

/-- The roles a command code belongs to (the command table of R175). -/
def commandRoles (code : Nat) (r : Role) : Bool :=
  match code with
  | 0x10 | 0x11 => r = .filler || r = .lidder || r = .trayer
  | 0x12 => r = .lidder || r = .trayer || r = .chill || r = .dispatch
  | 0x18 | 0x19 | 0x1A | 0x1B => r = .filler
  | 0x1C | 0x29 => r ≠ .chamber
  | 0x20 | 0x21 | 0x22 => r = .lidder
  | 0x28 => r = .trayer || r = .chill || r = .dispatch
  | 0x30 | 0x31 | 0x32 | 0x33 | 0x34 => r = .dispatch
  | 0x35 | 0x36 => r = .dispatch || r = .chamber
  | 0x38 | 0x39 | 0x3A | 0x3B => r = .chamber
  | _ => true

/-- A RESTART's reset (R129, R173): every block as a hard reset leaves it, but for the clock and its phase, the plant day and
the trace entries in their order, all unread, with the port's shifted-out bytes `delivered`. -/
def AfterRestart (s : State) (delivered : List Byte) : State :=
  { State.reset with
    stc := { State.reset.stc with clock := s.stc.clock, day := s.stc.day, secondAt := s.stc.secondAt }
    port := { State.reset.port with delivered }
    trc :=
      { s.trc with
        readCount := 0
        readPos := (s.trc.writePos + ringSize - s.trc.entries.length) % ringSize }
    nowMs := s.nowMs
    freeCount := s.freeCount
    pending := s.pending }

/-! ### Which commands move a block -/

/-- The commands that can move the trace ring (R123, R127, R139, R142, R146, R147). -/
def movesTrace : Instr → Bool
  | .readTrace _ | .freeTrace _ | .shuttleDone | .infeedSensorEvent | .chamberInfeedEvent | .arrivalWindow _
  | .drainTimeout => true
  | _ => false

/-- The commands that can move the reels, the lane failures and their counts (chapter 4). -/
def movesLids : Instr → Bool
  | .forwardCount _ _ | .loadReel _ _ _ _ _ | .splice _ | .resume _ | .drainComplete | .drainTimeout => true
  | _ => false

/-- The commands that can move the probe and its timers (chapter 6). -/
def movesProbe : Instr → Bool
  | .loadComplete _ | .reading _ | .miss | .stationSecond => true
  | _ => false

/-- The commands that can move the settings (chapter 10). -/
def movesSettings : Instr → Bool
  | .loadComplete _ | .writeSetting _ _ _ | .start _ => true
  | _ => false

/-- The commands that can move the product and transition tables (chapter 3). -/
def movesTables : Instr → Bool
  | .loadComplete _ | .writeProduct _ _ _ _ | .writeTransition _ _ _ _ _ => true
  | _ => false

/-- The commands that can move the row window (chapters 1 and 6). -/
def movesWindow : Instr → Bool
  | .forwardCount _ _ | .reverseCount | .forceReject _ _ _ | .stationSecond | .drainTimeout => true
  | _ => false

/-- The commands that can move the expected sequence (chapter 2). -/
def movesExpected : Instr → Bool
  | .rowPass _ _ _ | .trayPass _ _ _ | .chamberTrayPass _ _ _ | .forwardCount _ _ | .infeedSensorEvent
  | .chamberInfeedEvent => true
  | _ => false

/-- The commands that can move the peer table (chapter 9). -/
def movesPeers : Instr → Bool
  | .stationState _ _ _ _ | .peerTimeout _ | .endSanitise _ | .writeSetting _ _ _ => true
  | _ => false

/-! ### How an event leaves what it acts on -/

/-- An event takes `s` to `t` with tray `g` under construction, the formed-tray queue standing at `q` and the next tray
sequence at `n`. Outside the drain condition (R79) the tray stays under construction, its close time starting again (R78);
under it the tray closes short, or its close is held back where the queue is full. -/
structure TrayLeft (s t : State) (q : List Tray) (n : Nat) (g : Tray) : Prop where
  under : ¬(s.mode = .draining ∧ t.hnd.rowArrivals = [] ∧
      t.idx.window.all (fun o => !o.any (fun r => r.body.hasPots)) = true) →
    (∃ f, t.tray.forming = some f ∧ f.tray = g ∧ f.deadline = some (s.nowMs + s.closeMs)) ∧ t.tray.formed = q ∧
      t.tray.nextSeq = n
  drained : s.mode = .draining → t.hnd.rowArrivals = [] →
    t.idx.window.all (fun o => !o.any (fun r => r.body.hasPots)) = true →
    (q.length < 16 →
        t.tray.forming = none ∧ t.tray.formed = q ++ [{ g with id := { origin := s.own, seq := n }, short := true }] ∧
          t.tray.nextSeq = (if n = 1048575 then 1 else n + 1)) ∧
      (16 ≤ q.length →
        t.tray.forming = some ⟨g, some (s.nowMs + s.closeMs), true⟩ ∧ t.tray.formed = q ∧ t.tray.nextSeq = n)

/-- An event takes `s` to `t` in which the route of the tray in cell `i`, which held `c`, has failed at a chamber (R120).
At retry status 0 or 1 the tray waits UNASKED for its other order chamber, and its entry's selector turns where the entry's
current chamber is the one that failed; at retry status 2 the tray is ROUTE-HELD with ROUTE-FAILED. -/
structure RouteFailed (i failed : Nat) (c : Cell) (s t : State) : Prop where
  others : ∀ k, k ≠ i → t.cellAt k = s.cellAt k
  standby : standbyBank t = standbyBank s
  again : c.tray.retry ≤ 1 →
    ∃ route, t.cellAt i =
        some { c with tray := { c.tray with retry := c.tray.retry + 1, route := route, dstate := .unasked } } ∧
      (c.tray.order = none → route = c.tray.route) ∧
      (∀ e, trayEntry s c.tray.order = some e →
        route = some (if c.tray.route = some e.primary then e.alternate else e.primary)) ∧
      (∀ p, c.tray.order ≠ none → trayEntry s c.tray.order = none → c.tray.chambers = some p →
        route = some (if c.tray.route = some p.1 then p.2 else p.1)) ∧
      t.dsp.routes = min 4294967295 (s.dsp.routes + 1) ∧ t.stc = s.stc ∧
      ∀ j, slotAt (activeBank t) j =
        (slotAt (activeBank s) j).map (fun e =>
          if entryIndex s c.tray.order = some j ∧ (if e.onAlternate then e.alternate else e.primary) = failed then
            { e with onAlternate := !e.onAlternate }
          else e)
  held : 2 ≤ c.tray.retry →
    t.cellAt i = some { c with tray := { c.tray with dstate := .routeHeld } } ∧
      t.stc.latched = s.stc.latched ||| Notice.routeFailed.mask ∧ t.dsp.routes = s.dsp.routes ∧
      activeBank t = activeBank s

/-- A tray that leaves its order leaves the ACTIVE bank so: its entry has one tray fewer, and a FILLED one is OPEN, or CUT
where its cut-off is at or below the clock (R113); every other entry stays, and the STANDBY bank. -/
structure EntryLeft (order : Option Nat) (s t : State) : Prop where
  standby : standbyBank t = standbyBank s
  entries : ∀ j, slotAt (activeBank t) j =
    (slotAt (activeBank s) j).map (fun e =>
      if entryIndex s order = some j then
        { e with
          assigned := e.assigned - 1
          state := if e.state = .filled then (if e.cutOff.toNat ≤ s.stc.clock.toNat then .cut else .opened) else e.state }
      else e)

end Sys2Proof.Machine
end

