-- ==== Sys2Proof/Certificates/Slice0/Obligations.lean ====
section
/-! DEFINITION. Certificates/Slice0/Obligations.lean: the statements about the part, one definition each. Each docstring names
the rule or the section of spec/ it formalises. -/

open Sys2Proof Sys2Proof.Machine

/-! ### The step and the queue -/

/-- A step takes the command at the front of the queue and is that command on the state with the queue's rest. -/
def Obligations.StepTakesFrontCommand : Prop :=
  ∀ (c : Instr) (rest : List Instr) (s : State), s.pending = c :: rest → step s = exec c { s with pending := rest }

/-! ### Station Control and the port (chapters 10 and 11) -/

/-- A hard reset leaves every block at its values after reset (10.6); the queue and the draw of free values are the model's
own and stay. RESTART is answered OK in every mode, and its reset follows when the answer has been fetched, or at once when
select is asserted for a command transfer: every block as after a hard reset, but for the clock, the plant day and the trace
entries, each of them unread (11.1, 10.6, 7.13). The model's choices: the store holds the factory defaults until the load
(log entry 5); what select stands for, and that the bytes already shifted out stay out at a RESTART (log entry 8). The
elapsed time starts at 0 with the first station second 1000 ms later (log entry 3), and the serial of the asks at 0 (log
entry 18). -/
def Obligations.ResetsLeaveValuesAfterReset : Prop :=
  (∀ s : State,
      exec .hardReset s = .next { State.reset with pending := s.pending, freeCount := s.freeCount }) ∧
    ((∀ (h : CmdHead) (s : State), s.port.restartPending = false → h.paramLen = 0#8 →
          exec (.restart h) s = .next (putResponse h.tag 0x08#8 .ok [] { s with port.restartPending := true })) ∧
        (∀ s : State, s.port.restartPending = true →
          exec .responseTransfer s = .next (AfterRestart s (deliveredBytes s.port.place)) ∧
            exec .selectAsserted s = .next (AfterRestart s s.port.delivered)) ∧
        ∀ s : State, s.port.restartPending = false → exec .selectAsserted s = .next s)

/-- A response transfer shifts out the held response and marks it fetched, changing nothing else; with no response held it
shifts out EMPTY with tag 0 and command code 0 (11.1, 12.2). A transfer that fails the frame check is answered FRAME-ERROR
with its tag as received, and a code that is not assigned is answered UNKNOWN-COMMAND; both change nothing but the response
place (11.1, 11.2). An answer that replaces one not yet fetched raises the lost-response count. The model's choice: two
draws of free values are used up by a frame error whether or not they are needed (log entry 9). A response transfer is taken
as shifted out whole (log entry 47). -/
def Obligations.TransfersAreAnswered : Prop :=
  (∀ s : State, s.port.restartPending = false →
      (s.port.place = none →
        exec .responseTransfer s =
          .next { s with port.delivered := [0x00#8, 0x00#8, 0x02#8, 0x00#8, 0x00#8, 0xFE#8] }) ∧
        ∀ r, s.port.place = some r →
          exec .responseTransfer s =
            .next { s with
              port.delivered := responseBytes r.tag r.code r.status r.data
              port.place := some { r with fetched := true } }) ∧
    ((∀ (code tag : BitVec 8) (s : State), s.port.restartPending = false →
          exec (.frameError (some code) (some tag)) s =
            .next (putResponse tag code .frameError [] { s with freeCount := s.freeCount + 2 })) ∧
        (∀ (code tag : BitVec 8) (s : State), s.port.restartPending = false → commandParams code.toNat = none →
          code ≠ 0xFF#8 → exec (.unknownCommand code tag) s = .next (putResponse tag code .unknownCommand [] s)) ∧
        ∀ (tag code : BitVec 8) (st : Status) (data : List Byte) (s : State),
          putResponse tag code st data s =
            { s with
              port.place := some { tag, code, status := st, data, fetched := false }
              port.lost := if s.unfetched then min 4294967295 (s.port.lost + 1) else s.port.lost })

/-- The checks every port command passes before its own rule, in their order: a wrong parameter length is BAD-VALUE, STARTING
is BAD-MODE for all but RESTART, and a command of another role is BAD-ROLE; a command refused at any of them changes nothing
but the response place (11.2, 11.3). -/
def Obligations.PortCommandsRefusedInOrder : Prop :=
  ∀ (c : Instr) (code : Nat) (h : CmdHead) (ps : List Byte) (s : State),
    Decode.portParams c = some (code, h, ps) → s.port.restartPending = false →
      (h.paramLen.toNat ≠ ps.length → exec c s = .next (putResponse h.tag (BitVec.ofNat 8 code) .badValue [] s)) ∧
        (h.paramLen.toNat = ps.length → s.mode = .starting → code ≠ 0x08 →
          exec c s = .next (putResponse h.tag (BitVec.ofNat 8 code) .badMode [] s)) ∧
        (h.paramLen.toNat = ps.length → s.mode ≠ .starting → commandRoles code s.role = false →
          exec c s = .next (putResponse h.tag (BitVec.ofNat 8 code) .badRole [] s))

/-- The end of the settings load (10.1): the bytes the serial memory delivers are words, each with its high byte first
(12.3); a good image fills the working store, a bad one fills it with the factory defaults and latches SETTINGS-BAD; the
working sum is the store's, the mode becomes CONFIGURING, and the miss timer (6.2) and the credit refresh period (chapter 2)
start. Outside STARTING no load runs. The model's choices: the command outside STARTING changes nothing (log entry 1), an
image that is longer is read in its first 392 words and a last byte alone is no word (log entry 6), and the time scale (log
entry 3). The low byte of a FREE or SANITISE word in the sum is 0 (log entry 21). -/
def Obligations.LoadFillsStoreAndEntersConfiguring : Prop :=
  (∀ (bytes : List (BitVec 8)) (s : State),
     let image := imageWords bytes
     (s.mode ≠ .starting → exec (.loadComplete bytes) s = .next s) ∧
       (s.mode = .starting →
         ∃ t, exec (.loadComplete bytes) s = .next t ∧ t.mode = .configuring ∧
           t.stc.workingSum = wordSum (storeWords t.stc.settings t.stc.products t.stc.transitions t.adm.lanes) ∧
           t.exp.missAt = some (s.nowMs + 250) ∧ t.hnd.refreshAt = some (s.nowMs + t.refreshMs) ∧ t.hnd.room = 0 ∧
           t.out.runPermit = false ∧ t.stc.causes = s.stc.causes ∧ t.lot = s.lot ∧ t.tray = s.tray ∧ t.trc = s.trc ∧
           t.port = s.port ∧
           if imageGood image then
             t.stc.settings = imageSettings image ∧ t.stc.products = (List.range 32).map (imageProduct image) ∧
               t.stc.transitions = (List.range 64).map (imageTransition image) ∧
               t.adm.lanes = (List.range 8).map (imageLane image) ∧ t.stc.latched = s.stc.latched
           else
             t.stc.settings = defaultSettings ∧ t.stc.products = defaultProducts ∧
               t.stc.transitions = defaultTransitions ∧ t.adm.lanes = defaultLanes ∧
               t.stc.latched = s.stc.latched ||| Notice.settingsBad.mask)) ∧
    (∀ (high low : BitVec 8) (rest : List (BitVec 8)),
       imageWords [] = [] ∧ imageWords [high] = [] ∧ imageWords (high :: low :: rest) = (high ++ low) :: imageWords rest)

/-- WRITE-SETTING (10.1): outside CONFIGURING, for no setting, and for a value outside an enumerated setting's set, it is
refused and changes nothing; an enumerated setting takes a value of its set, and a role that changes empties the lot and
manifest tables and makes the peers UNKNOWN. In CONFIGURING a numeric setting takes the value moved to the nearer end of its
range, answered OK where it was not moved and CLAMPED where it was; every other setting stays; a downstream neighbour
written 0 leaves no credit held (2, Settings of the Handoff Unit). The notice mask takes the marks of its 23 notices, and
the attention line is worked out again with it (11.5). WRITE-PRODUCT and WRITE-TRANSITION at FILLER (3.1) are refused
outside CONFIGURING and for an index, or a kind, out of range; in CONFIGURING EMPTY empties the entry; a product's fields
are each moved into range, the reference before the knee, answered OK where none was moved and CLAMPED otherwise; a PURGE
count is moved into 1 to 15. After every accepted write the working sum is the store's, and nothing else changes. The
model's choices: an EMPTY mark is the value 1, and any other value is not EMPTY (log entry 14); the bits of the notice mask
above its 23 marks are not kept (log entry 15); an UNKNOWN peer entry has no report time (log entry 16). A limit held stays
when another neighbour is written (log entry 32), a running refresh period keeps its deadline (log entry 33), and the stored
peer list stays when the station number is written (log entry 36). A CREDIT that waits in the credit slot is for the
upstream neighbour, and none waits with neighbour 0 (2, Settings of the Handoff Unit); that a waiting one takes the
neighbour written as its target is the model's choice (log entry 38). A limit held, and what the transmit places hold, stay
when the role is written (log entry 44), and the low byte of a FREE or SANITISE word in the sum is 0 (log entry 21). -/
def Obligations.StoreWritesClampToRange : Prop :=
  (∀ (h : CmdHead) (i e : BitVec 8) (p : ProductFields) (s : State), PortReady h 14 s → s.role = .filler →
     (s.mode ≠ .configuring →
         exec (.writeProduct h i e p) s = .next (putResponse h.tag 0x18#8 .badMode [] s)) ∧
       (s.mode = .configuring → 31 < i.toNat →
         exec (.writeProduct h i e p) s = .next (putResponse h.tag 0x18#8 .badValue [] s))) ∧
    (∀ (h : CmdHead) (prev next kind count : BitVec 8) (s : State), PortReady h 4 s → s.role = .filler →
       let refused := fun st =>
         exec (.writeTransition h prev next kind count) s = .next (putResponse h.tag 0x19#8 st [] s)
       (2 < kind.toNat → refused .badValue) ∧ (kind.toNat ≤ 2 → s.mode ≠ .configuring → refused .badMode) ∧
         (kind.toNat ≤ 2 → s.mode = .configuring → 7 < prev.toNat ∨ 7 < next.toNat → refused .badValue)) ∧
    (∀ (h : CmdHead) (number : BitVec 16) (value : BitVec 32) (s : State), PortReady h 6 s →
       let refused := fun st => exec (.writeSetting h number value) s = .next (putResponse h.tag 0x01#8 st [] s)
       (s.mode ≠ .configuring → refused .badMode) ∧
         (s.mode = .configuring → settingRange (s.setting 6) number.toNat = none → refused .badValue)) ∧
    (∀ (h : CmdHead) (number : BitVec 16) (value : BitVec 32) (codes : List Int) (s : State),
       PortReady h 6 s → s.mode = .configuring →
       settingRange (s.setting 6) number.toNat = some (.oneOf codes) → s.stc.settings.length = settingCount →
         (¬(value.toNat : Int) ∈ codes →
             exec (.writeSetting h number value) s = .next (putResponse h.tag 0x01#8 .badValue [] s)) ∧
           ((value.toNat : Int) ∈ codes →
             ∃ t, exec (.writeSetting h number value) s = .next (putResponse h.tag 0x01#8 .ok [] t) ∧
               t.setting number.toNat = value.toNat ∧ (∀ n, 1 ≤ n → n ≠ number.toNat → t.setting n = s.setting n) ∧
               t.stc.workingSum = wordSum (storeWords t.stc.settings t.stc.products t.stc.transitions t.adm.lanes) ∧
               (number.toNat ≠ 1 → t.lot = s.lot ∧ t.adm = s.adm ∧ t.lnk = s.lnk) ∧
               (number.toNat = 1 → (value.toNat : Int) ≠ s.setting 1 →
                 t.lot = { s.lot with table := List.replicate 16 none, openIdx := none } ∧
                   t.adm = { s.adm with manifests := List.replicate 32 none } ∧
                   ∀ (i : Nat) (q : Peer), t.lnk.peers[i]? = some q → q.mode = none) ∧
               t.idx = s.idx ∧ t.hnd = s.hnd ∧ t.tray = s.tray ∧ t.stc.mode = .configuring ∧ t.stc.latched = s.stc.latched)) ∧
    (∀ (h : CmdHead) (number : BitVec 16) (value : BitVec 32) (lo hi : Int) (s : State),
       PortReady h 6 s → s.mode = .configuring → s.stc.settings.length = settingCount →
       settingRange (s.setting 6) number.toNat = some (.span lo hi) → lo ≤ hi →
         let v : Int := if number.toNat = 23 then value.toInt else value.toNat
         ∃ t, exec (.writeSetting h number value) s =
             .next (putResponse h.tag 0x01#8 (if v < lo ∨ hi < v then .clamped else .ok) [] t) ∧
           t.setting number.toNat = max lo (min hi v) ∧
           (∀ n, 1 ≤ n → n ≠ number.toNat → t.setting n = s.setting n) ∧
           t.stc.workingSum = wordSum (storeWords t.stc.settings t.stc.products t.stc.transitions t.adm.lanes) ∧
           t.stc.mode = .configuring ∧ t.stc.latched = s.stc.latched ∧ t.stc.causes = s.stc.causes ∧ t.idx = s.idx ∧
           t.hnd = (if number.toNat = 13 ∧ value.toNat = 0 then { s.hnd with held := none } else s.hnd) ∧ t.lot = s.lot ∧
           t.tray = s.tray ∧ t.adm = s.adm ∧ (number.toNat ≠ 12 → t.lnk = s.lnk) ∧
           (number.toNat = 12 →
             t.lnk.creditSlot =
                 (if t.upstream = 0 then none else s.lnk.creditSlot.map (fun f => { f with target := t.upstream })) ∧
               { t.lnk with creditSlot := s.lnk.creditSlot, onBus := s.lnk.onBus } = s.lnk ∧
               t.lnk.onBus.map (fun o => { o with replaced := false }) =
                 s.lnk.onBus.map (fun o => { o with replaced := false }))) ∧
    (∀ (h : CmdHead) (value : BitVec 32) (s : State),
       PortReady h 6 s → s.mode = .configuring → s.stc.settings.length = settingCount →
         ∃ t, exec (.writeSetting h 3#16 value) s = .next (putResponse h.tag 0x01#8 .ok [] t) ∧
           t.setting 3 = value.toNat % 8388608 ∧ (∀ n, 1 ≤ n → n ≠ 3 → t.setting n = s.setting n) ∧
           t.stc.workingSum = wordSum (storeWords t.stc.settings t.stc.products t.stc.transitions t.adm.lanes) ∧
           t.out.attention = attentionOf s.stc.latched (value &&& 0x007FFFFF#32) ∧
           { t with
               stc.settings := s.stc.settings
               stc.workingSum := s.stc.workingSum
               out.attention := s.out.attention } = s) ∧
    (∀ (h : CmdHead) (i mark : BitVec 8) (p : ProductFields) (s : State),
       PortReady h 14 s → s.role = .filler → s.mode = .configuring → i.toNat ≤ 31 →
       s.stc.products.length = 32 →
         (mark = 1#8 →
             ∃ t, exec (.writeProduct h i mark p) s = .next (putResponse h.tag 0x18#8 .ok [] t) ∧
               slotAt t.stc.products i.toNat = none ∧
               (∀ k, k ≠ i.toNat → slotAt t.stc.products k = slotAt s.stc.products k) ∧
               t.stc.workingSum = wordSum (storeWords t.stc.settings t.stc.products t.stc.transitions t.adm.lanes) ∧
               { t with stc.products := s.stc.products, stc.workingSum := s.stc.workingSum } = s) ∧
           (mark ≠ 1#8 →
             ∃ t, exec (.writeProduct h i mark p) s =
                 .next (putResponse h.tag 0x18#8 (if productInRange p then .ok else .clamped) [] t) ∧
               ∃ q, slotAt t.stc.products i.toNat = some q ∧
               q.code = max 1 (min 9999 p.code.toNat) ∧ q.flavour = max 1 p.flavour.toNat ∧ q.cls = min 7 p.cls.toNat ∧
               q.allowance = p.allowance.toNat ∧ (q.tref : Int) = max 0 (min 150 p.tref.toInt) ∧
               (q.tk : Int) = max (q.tref : Int) (min 400 p.tk.toInt) ∧ q.shelf = max 1 (min 60 p.shelf.toNat) ∧
               (∀ k, k ≠ i.toNat → slotAt t.stc.products k = slotAt s.stc.products k) ∧
               t.stc.workingSum = wordSum (storeWords t.stc.settings t.stc.products t.stc.transitions t.adm.lanes) ∧
               { t with stc.products := s.stc.products, stc.workingSum := s.stc.workingSum } = s)) ∧
    (∀ (h : CmdHead) (prev next kind count : BitVec 8) (s : State), PortReady h 4 s → s.role = .filler →
       s.mode = .configuring → prev.toNat ≤ 7 → next.toNat ≤ 7 → kind.toNat ≤ 2 →
       ∃ t, exec (.writeTransition h prev next kind count) s =
           .next (putResponse h.tag 0x19#8
             (if kind = 1#8 ∧ (count = 0#8 ∨ 15 < count.toNat) then .clamped else .ok) [] t) ∧
         t.stc.transitions =
           s.stc.transitions.set (8 * prev.toNat + next.toNat)
             (if kind = 0#8 then .free else if kind = 1#8 then .purge (max 1 (min 15 count.toNat)) else .sanitise) ∧
         t.stc.workingSum = wordSum (storeWords t.stc.settings t.stc.products t.stc.transitions t.adm.lanes) ∧
         { t with stc.transitions := s.stc.transitions, stc.workingSum := s.stc.workingSum } = s)

/-- START in CONFIGURING (10.1, R1's and R25's settling): a store that has changed other than by accepted writes is
CHECK-FAIL and FAULT (10.4); otherwise START answers OK, the positions are settled, and the station runs where its cause set
is empty. Room and the permit are worked out once, at the end of the step (log entry 7). A CREDIT that waits is for the
upstream neighbour settled, and none waits with neighbour 0 (R25); that a waiting one takes the neighbour as its target is
the model's choice (log entry 38). -/
def Obligations.StartChecksStoreAndRuns : Prop :=
  ∀ (h : CmdHead) (s : State), PortReady h 0 s → s.mode = .configuring → s.stc.settings.length = settingCount →
    (storeChanged s = true →
      ∃ t, exec (.start h) s = .next (putResponse h.tag 0x03#8 .checkFail [] t) ∧ t.mode = .fault ∧
        t.stc.fault = some .settings ∧ t.latchedNotice .settingsBad = true ∧ t.latchedNotice .stationFault = true ∧
        t.stc.settings = s.stc.settings) ∧
      (storeChanged s = false →
        ∃ t, exec (.start h) s = .next (putResponse h.tag 0x03#8 .ok [] t) ∧
          t.mode = (if s.stc.causes = 0#8 then .running else .held) ∧ t.stc.causes = s.stc.causes ∧
          t.setting 9 = min (s.setting 9) (s.setting 6 - 1) ∧
          (s.role ≠ .lidder → t.setting 10 = min (s.setting 10) (s.setting 6 - 1) ∧
            t.setting 11 = min (s.setting 11) (s.setting 6 - 1)) ∧
          (s.role = .lidder → t.setting 9 ≤ t.setting 10 ∧ t.setting 10 ≤ t.setting 11 ∧
            t.setting 11 ≤ s.setting 6 - 1) ∧
          t.setting 12 = (if s.setting 12 = s.setting 2 then 0 else s.setting 12) ∧
          t.setting 13 = (if s.setting 13 = s.setting 2 then 0 else s.setting 13) ∧
          (∀ f, t.lnk.creditSlot = some f → f.target = t.upstream ∧ t.upstream ≠ 0) ∧ t.out.runPermit = permitOf t ∧
         t.hnd.room = roomOf t)

/-- HOLD in RUNNING or HELD adds the cause HOLD and the station is HELD; RESUME clears HOLD, TRACK and BOND always, the reel
causes where the reels are mended, never LINK, and returns a HELD station to RUNNING where no cause is left, BUSY where one
is (10.2, 4.3, 4.4). In the other modes these commands are refused, or do less, as their rules say. SANITISE starts a drain,
and a FILLER's open lot is closed; the drain ends in SANITISING when the station is empty; and END-SANITISE goes to RUNNING
or HELD by the cause set, setting FILLER's sanitised-since-close flag (10.3, 3.6). The model's choices: what counts as a row
that holds a pot to lid (log entry 25), and the time scale (log entry 3). SANITISE leaves an empty station in DRAINING,
whose end is a step of its own (log entry 4). -/
def Obligations.ModeCommandsMoveStation : Prop :=
  ((∀ (h : CmdHead) (s : State), PortReady h 0 s → s.mode = .running ∨ s.mode = .held →
        ∃ t, exec (.hold h) s = .next (putResponse h.tag 0x04#8 .ok [] t) ∧ t.mode = .held ∧
          t.stc.causes = s.stc.causes ||| 0x01#8 ∧ t.out.runPermit = false ∧ t.hnd.room = 0 ∧ t.idx = s.idx ∧
          t.lot = s.lot ∧ t.lid = s.lid ∧ t.tray = s.tray ∧ t.dsp = s.dsp ∧ t.adm = s.adm) ∧
      (∀ (h : CmdHead) (s : State), PortReady h 0 s → s.mode = .held → s.stc.causes &&& 0xE0#8 = 0#8 →
        s.stc.causes &&& 0x0C#8 = 0#8 ∨ reelsMended s = true →
        ∃ t, exec (.resume h) s = .next (putResponse h.tag 0x05#8 .ok [] t) ∧ t.mode = .running ∧ t.stc.causes = 0#8 ∧
          t.out.runPermit = permitOf t ∧ t.hnd.room = roomOf t ∧ t.idx = s.idx ∧
          t.lid = (if s.hasCause .bond then { s.lid with tripped := 0#8 } else s.lid)) ∧
      (∀ (h : CmdHead) (s : State), PortReady h 0 s → s.mode = .held → s.stc.causes &&& 0x0C#8 ≠ 0#8 →
        reelsMended s = false →
        ∃ t, exec (.resume h) s = .next (putResponse h.tag 0x05#8 .busy [] t) ∧ t.mode = .held ∧
          t.stc.causes = s.stc.causes &&& 0xEC#8 ∧ t.idx = s.idx) ∧
      ∀ (h : CmdHead) (s : State), PortReady h 0 s → s.mode = .held → s.stc.causes &&& 0x20#8 = 0x20#8 →
        ∃ t, exec (.resume h) s = .next (putResponse h.tag 0x05#8 .busy [] t) ∧ t.mode = .held ∧
          t.stc.causes &&& 0x23#8 = 0x20#8 ∧ t.idx = s.idx) ∧
    (∀ (h : CmdHead) (s : State), PortReady h 0 s →
      (s.mode ≠ .configuring → exec (.start h) s = .next (putResponse h.tag 0x03#8 .badMode [] s)) ∧
        (s.mode ≠ .running → s.mode ≠ .held →
          exec (.hold h) s = .next (putResponse h.tag 0x04#8 .badMode [] s) ∧
            exec (.sanitise h) s = .next (putResponse h.tag 0x06#8 .badMode [] s)) ∧
        (s.mode = .configuring ∨ s.mode = .fault →
          exec (.resume h) s = .next (putResponse h.tag 0x05#8 .badMode [] s)) ∧
        (s.mode = .running → exec (.resume h) s = .next (putResponse h.tag 0x05#8 .ok [] s)) ∧
        (s.mode = .draining ∨ s.mode = .sanitising →
          ∃ t, exec (.resume h) s = .next (putResponse h.tag 0x05#8 .ok [] t) ∧ t.mode = s.mode ∧
            t.stc.causes &&& 0xD3#8 = s.stc.causes &&& 0xC0#8 ∧ t.idx = s.idx ∧ t.tray = s.tray) ∧
        (s.mode ≠ .sanitising → exec (.endSanitise h) s = .next (putResponse h.tag 0x07#8 .badMode [] s))) ∧
    ((∀ (h : CmdHead) (s : State), PortReady h 0 s → s.mode = .running ∨ s.mode = .held →
          ∃ t, exec (.sanitise h) s = .next (putResponse h.tag 0x06#8 .ok [] t) ∧ t.mode = .draining ∧
            t.stc.drainAt = some (s.nowMs + s.drainMs) ∧ t.stc.causes = s.stc.causes ∧ t.hnd.room = 0 ∧
            (s.role = .filler → t.lot.openIdx = none)) ∧
        (∀ s : State, s.mode = .draining → stationEmpty s = true →
          ∃ t, exec .drainComplete s = .next t ∧ t.mode = .sanitising ∧ t.stc.drainAt = none ∧
            (s.role.isRow = true → t.idx.posCount = 0 ∧ t.idx.debt = 0) ∧
            (s.role = .lidder → t.lid.tripped = 0#8 ∧ t.lid.fails = List.replicate 8 0) ∧
            (s.role = .chamber → t.adm.manifests = List.replicate 32 none ∧ t.adm.notes = []) ∧ t.lot = s.lot) ∧
        ∀ (h : CmdHead) (s : State), PortReady h 0 s → s.mode = .sanitising →
          ∃ t, exec (.endSanitise h) s = .next (putResponse h.tag 0x07#8 .ok [] t) ∧
            t.mode = (if s.stc.causes = 0#8 then .running else .held) ∧ t.stc.causes = s.stc.causes ∧
            t.lot.sanitised = (s.lot.sanitised || decide (s.role = .filler)) ∧
            (s.sanitiseClears = true → s.role ≠ .chamber → t.lot.table = List.replicate 16 none ∧ t.lot.openIdx = none) ∧
            (s.sanitiseClears = true → t.lnk.peers = List.replicate 30 { mode := none, since := none }) ∧
            t.hnd.expected = s.hnd.expected ∧ t.hnd.nextSeq = s.hnd.nextSeq)

/-- At the drain timeout (10.3) each block writes off what it holds. A row role loses its rows, their pots counted lost (1,
IDX and the station modes), and removes its arrivals entries, their pots counted missing (2, HND and the station modes);
TRAYER loses its tray under construction and its formed trays (5.8); CHILL and DISPATCH lose their trays and remove their
entries, DISPATCH keeping exactly the trays that are RELEASING, each other tray taken off its order and out of its series
(7.10); a row role, CHILL, and a DISPATCH that keeps none enter SANITISING. At CHAMBER (8.11) each READY entry is discarded
and each CLAIMED or INBOUND one is traced MISSING in table order (log entry 41), their lanes give up the reservations, and
neither UNCLAIMED nor TRAY-MISSING is latched. WRITTEN-OFF is latched exactly where a record was written off, and away from
CHAMBER no other notice is. The time scale is the model's (log entry 3); room and the permit are worked out once, at the end
of the step (log entry 7). -/
def Obligations.DrainTimeoutWritesOff : Prop :=
  ∀ (d : Nat) (s : State),
    s.stc.drainAt = some d → s.mode = .draining →
      ∃ t, exec .drainTimeout s = .next t ∧ t.stc.drainAt = none ∧ t.hnd.expected = s.hnd.expected ∧
        t.nowMs = max s.nowMs d ∧ t.out.runPermit = permitOf t ∧ t.hnd.room = roomOf t ∧
        (s.role.isRow = true →
          t.mode = .sanitising ∧ t.idx.window = [] ∧ t.idx.posCount = 0 ∧ t.idx.debt = 0 ∧
            t.idx.lost =
              (if heldCount s.idx.window = 0 then s.idx.lost
              else min 4294967295 (s.idx.lost + ((s.idx.window.filterMap id).map (fun r => r.body.potCount)).sum)) ∧
            (s.role ≠ .filler →
              t.hnd.rowArrivals = [] ∧
                t.hnd.missing =
                  (if s.hnd.rowArrivals = [] then s.hnd.missing
                  else min 4294967295 (s.hnd.missing + (s.hnd.rowArrivals.map (fun e => e.body.potCount)).sum)))) ∧
        (s.role = .trayer →
          t.tray.forming = none ∧ t.tray.formed = [] ∧
            t.tray.lost =
              (if s.tray.forming = none ∧ s.tray.formed = [] then s.tray.lost
              else min 4294967295 (s.tray.lost + s.tray.formed.length + (if s.tray.forming = none then 0 else 1)))) ∧
        (s.role = .chill →
          t.mode = .sanitising ∧ t.tray.queue = [] ∧ t.hnd.trayArrivals = [] ∧
            t.tray.lost =
              (if s.tray.queue = [] then s.tray.lost else min 4294967295 (s.tray.lost + s.tray.queue.length)) ∧
            t.hnd.missing =
              (if s.hnd.trayArrivals = [] then s.hnd.missing
              else min 4294967295 (s.hnd.missing + s.hnd.trayArrivals.length))) ∧
        (s.role = .dispatch →
          let leaves := fun (c : Cell) => decide (c.tray.dstate ≠ .releasing)
          let n := (s.tray.cells.filter (fun o => o.any leaves)).length
          t.mode = (if s.tray.cells.any (fun o => o.any (fun c => !leaves c)) then .draining else .sanitising) ∧
            t.hnd.trayArrivals = [] ∧
            (∀ i, t.cellAt i = (s.cellAt i).filter (fun c => !leaves c)) ∧
            t.tray.lost = (if n = 0 then s.tray.lost else min 4294967295 (s.tray.lost + n)) ∧
            t.hnd.missing =
              (if s.hnd.trayArrivals = [] then s.hnd.missing
              else min 4294967295 (s.hnd.missing + s.hnd.trayArrivals.length)) ∧
            (∀ j o, slotAt (activeBank s) j = some o →
              (slotAt (activeBank t) j).map (fun q => (q.order, q.assigned)) =
                some (o.order, o.assigned -
                  (s.tray.cells.filter (fun b => b.any (fun c => leaves c && entryIndex s c.tray.order = some j))).length)) ∧
            ((∀ j x, s.slot j = some x → ∀ k y, s.slot k = some y → x.cell = y.cell → j = k) →
              ∀ j x, s.slot j = some x → t.slot j = if (s.cellAt x.cell).any leaves then none else some x)) ∧
        (s.role = .chamber →
          let count := fun (f : Admission → Bool) => (s.adm.table.filter (fun o => o.any f)).length
          let ready := count (fun e => e.state = .ready)
          let claimed := count (fun e => e.state = .claimed || e.state = .inbound)
          t.mode = (if count (fun e => e.state = .pending) = 0 then .sanitising else .draining) ∧
            (∀ i, t.admission i = (s.admission i).filter (fun e => e.state = .pending)) ∧
            t.adm.unclaimed = (if ready = 0 then s.adm.unclaimed else min 4294967295 (s.adm.unclaimed + ready)) ∧
            t.adm.missing = (if claimed = 0 then s.adm.missing else min 4294967295 (s.adm.missing + claimed)) ∧
            (∀ n l, s.lane n = some l →
              ∃ q, t.lane n = some q ∧ q.use = l.use ∧ q.capacity = l.capacity ∧ q.occupancy = l.occupancy ∧
                q.reserved = l.reserved - reservedFor s n ∧
                (0 < reservedFor s n →
                  q.order = if l.use = .orders ∧ q.occupancy + q.reserved = 0 then none else l.order)) ∧
            t.latchedNotice .unclaimed = s.latchedNotice .unclaimed ∧
            t.latchedNotice .trayMissing = s.latchedNotice .trayMissing ∧
            (s.trc.entries.length + claimed ≤ 128 →
              (∀ i a, s.admission i = some a → ∀ j b, s.admission j = some b → a.tray = b.tray → i = j) →
              t.trc.entries =
                s.trc.entries ++
                  ((s.adm.table.filterMap id).filter (fun e => e.state = .claimed || e.state = .inbound)).map (fun e =>
                    .chamber e.tray .missing e.lane ((manifestOf s e.tray).bind Manifest.lot) s.stc.clock))) ∧
        t.latchedNotice .writtenOff = (s.latchedNotice .writtenOff || decide (recordsToWriteOff s ≠ 0)) ∧
        (s.role ≠ .chamber →
          t.stc.latched =
            (if recordsToWriteOff s = 0 then s.stc.latched else s.stc.latched ||| Notice.writtenOff.mask))

/-- READ-NOTICES: it is answered OK in every mode from CONFIGURING on with the latched set as it stands, and removes from the
set exactly the notices it returned; a notice latched again leaves the set unchanged; latching does not depend on the mask;
both resets empty the set; and a bad image latches SETTINGS-BAD (R177). -/
def Obligations.ReadNoticesReturnsAndClears : Prop :=
  (∀ (n : Notice) (s : State),
      (latch n s).stc.latched = s.stc.latched ||| n.mask ∧
        (s.latchedNotice n = true → (latch n s).stc.latched = s.stc.latched)) ∧
    (∀ (h : CmdHead) (s : State), PortReady h 0 s →
      exec (.readNotices h) s =
        .next (putResponse h.tag 0x0C#8 .ok (beBytes 4 s.stc.latched.toNat)
          { s with stc.latched := 0#32, out.attention := false })) ∧
    (∀ (s t : State), exec .hardReset s = .next t → t.stc.latched = 0#32) ∧
    (∀ (s t : State), s.port.restartPending = true → exec .responseTransfer s = .next t → t.stc.latched = 0#32) ∧
    ∀ (bytes : List (BitVec 8)) (s t : State), s.mode = .starting → imageGood (imageWords bytes) = false →
      exec (.loadComplete bytes) s = .next t → t.latchedNotice .settingsBad = true

/-- SET-CLOCK puts the clock and SET-DAY the plant day at the value given; neither changes anything else (10.5). The station
clock moves only at the station second, by SET-CLOCK and by a hard reset, and the plant day only by SET-DAY and by a hard
reset (10.5). -/
def Obligations.ClockAndDayMoveOnlyAsCommanded : Prop :=
  ((∀ (h : CmdHead) (v : BitVec 32) (s : State), PortReady h 4 s →
        exec (.setClock h v) s = .next (putResponse h.tag 0x09#8 .ok [] { s with stc.clock := v })) ∧
      ∀ (h : CmdHead) (v : BitVec 16) (s : State), PortReady h 2 s →
        exec (.setDay h v) s = .next (putResponse h.tag 0x0A#8 .ok [] { s with stc.day := v })) ∧
    (∀ (c : Instr) (s t : State), c ≠ .hardReset → exec c s = .next t →
        (t.stc.clock = s.stc.clock ∨ c = .stationSecond ∧ t.stc.clock = s.stc.clock + 1#32 ∨
            ∃ h v, c = .setClock h v ∧ t.stc.clock = v) ∧
          (t.stc.day = s.stc.day ∨ ∃ h v, c = .setDay h v ∧ t.stc.day = v))

/-- A reading command answers BAD-VALUE for a place, index or number outside its range and EMPTY where nothing is held
there, changing nothing but the response place (1, 2, 3.7, 5.8, 6.7, 7.2, 8.12, 10.1). The reading commands of Station
Control, the link, the window, the arrivals lists, the lot table and the reels answer OK with the record of what they name
and change nothing but the response place (10.1, 11.4, 9.6, 1, 2, 3.7, 4.5). READ-TRAY, READ-ZONE, READ-ORDER, READ-LANE and
READ-ADMISSION answer OK with the record of what they name and change nothing but the response place (5.8, 6.7, 7.2, 8.12).
The records rest on the model's choices for absent fields (log entry 12), for the close time that remains (log entry 10),
for a T10 too wide for its field (log entry 11), for the ages of the peers (log entry 16), for the selector byte of
ALTERNATE (log entry 42) and the former own number's entry (log entry 36) and for the last ask time of an entry that is not
PENDING (log entry 31). READ-STATUS's lost-response count is from before its own answer replaces one (log entry 46), and its
tray part has the stores of the role alone (log entry 48). -/
def Obligations.ReadsAnswerTheirRecords : Prop :=
  (∀ (h : CmdHead) (p : BitVec 8) (s : State), PortReady h 1 s →
      let row := fun st => exec (.readRow h p) s = .next (putResponse h.tag 0x11#8 st [] s)
      let arrival := fun st => exec (.readArrival h p) s = .next (putResponse h.tag 0x12#8 st [] s)
      let lot := fun st => exec (.readLot h p) s = .next (putResponse h.tag 0x1C#8 st [] s)
      let tray := fun st => exec (.readTray h p) s = .next (putResponse h.tag 0x28#8 st [] s)
      let lane := fun st => exec (.readLane h p) s = .next (putResponse h.tag 0x39#8 st [] s)
      let admission := fun st => exec (.readAdmission h p) s = .next (putResponse h.tag 0x3A#8 st [] s)
      (s.role.isRow = true →
          (s.windowLength ≤ p.toNat → row .badValue) ∧
            (p.toNat < s.windowLength → s.rowAt p.toNat = none → row .empty)) ∧
        (s.role = .lidder ∨ s.role = .trayer ∨ s.role = .chill ∨ s.role = .dispatch →
          (7 < p.toNat → arrival .badValue) ∧
            (p.toNat ≤ 7 →
              (s.role.isRow = true → s.hnd.rowArrivals.length ≤ p.toNat → arrival .empty) ∧
                (s.role.isRow = false → s.hnd.trayArrivals.length ≤ p.toNat → arrival .empty))) ∧
        (s.role ≠ .chamber →
          (15 < p.toNat → lot .badValue) ∧ (p.toNat ≤ 15 → slotAt s.lot.table p.toNat = none → lot .empty) ∧
            (15 < p.toNat → p ≠ 0xFF#8 → exec (.readZone h p) s = .next (putResponse h.tag 0x29#8 .badValue [] s))) ∧
        (s.role = .trayer →
          (16 < p.toNat → tray .badValue) ∧ (p.toNat = 0 → s.tray.forming = none → tray .empty) ∧
            (1 ≤ p.toNat → p.toNat ≤ 16 → s.tray.formed.length < p.toNat → tray .empty)) ∧
        (s.role = .chill →
          (p.toNat = 0 ∨ 48 < p.toNat → tray .badValue) ∧
            (1 ≤ p.toNat → p.toNat ≤ 48 → s.tray.queue.length < p.toNat → tray .empty)) ∧
        (s.role = .dispatch →
          (p.toNat = 0 ∨ 12 < p.toNat → tray .badValue) ∧
            (1 ≤ p.toNat → p.toNat ≤ 12 → s.cellAt (p.toNat - 1) = none → tray .empty)) ∧
        (s.role = .chamber →
          (s.adm.lanes.length = 8 → p.toNat = 0 ∨ 8 < p.toNat → lane .badValue) ∧
            (15 < p.toNat → admission .badValue) ∧
            (p.toNat ≤ 15 → s.admission p.toNat = none → admission .empty))) ∧
    (∀ (h : CmdHead) (p : BitVec 8) (t : Tray) (s : State), PortReady h 1 s → s.role = .trayer → 1 ≤ p.toNat →
      p.toNat ≤ 16 → s.tray.formed[p.toNat - 1]? = some t →
      exec (.readTray h p) s = .next (putResponse h.tag 0x28#8 .ok (trayRecord p.toNat t 0 0#32 0#32) s)) ∧
    (∀ (h : CmdHead) (number : BitVec 16) (s : State), PortReady h 2 s → number.toNat < 1 ∨ 54 < number.toNat →
      exec (.readSetting h number) s = .next (putResponse h.tag 0x02#8 .badValue [] s)) ∧
    (∀ (h : CmdHead) (bank i : BitVec 8) (s : State), PortReady h 2 s → s.role = .dispatch →
      (1 < bank.toNat ∨ 31 < i.toNat → exec (.readOrder h bank i) s = .next (putResponse h.tag 0x31#8 .badValue [] s)) ∧
        (i.toNat ≤ 31 →
          bank = 0#8 ∧ slotAt (standbyBank s) i.toNat = none ∨ bank = 1#8 ∧ slotAt (activeBank s) i.toNat = none →
          exec (.readOrder h bank i) s = .next (putResponse h.tag 0x31#8 .empty [] s))) ∧
    ((∀ (h : CmdHead) (number : BitVec 16) (s : State), PortReady h 2 s → 1 ≤ number.toNat → number.toNat ≤ 54 →
        exec (.readSetting h number) s =
          .next (putResponse h.tag 0x02#8 .ok (settingRecord (s.setting number.toNat)) s)) ∧
      (∀ (h : CmdHead) (s : State), PortReady h 0 s →
        exec (.readStatus h) s = .next (putResponse h.tag 0x0B#8 .ok (statusRecord s) s) ∧
          exec (.readPeers h) s = .next (putResponse h.tag 0x0D#8 .ok (peersRecord s) s) ∧
          (s.role = .lidder → exec (.readReels h) s = .next (putResponse h.tag 0x22#8 .ok (reelsRecord s) s))) ∧
      (∀ (h : CmdHead) (position : BitVec 8) (r : Row) (s : State), PortReady h 1 s → s.role.isRow = true →
        position.toNat < s.windowLength → s.rowAt position.toNat = some r →
        exec (.readRow h position) s = .next (putResponse h.tag 0x11#8 .ok (rowRecord s position.toNat r) s)) ∧
      (∀ (h : CmdHead) (k : BitVec 8) (e : RowEntry) (s : State), PortReady h 1 s →
        s.role = .lidder ∨ s.role = .trayer → k.toNat ≤ 7 → s.hnd.rowArrivals[k.toNat]? = some e →
        exec (.readArrival h k) s = .next (putResponse h.tag 0x12#8 .ok (rowArrivalRecord s e) s)) ∧
      (∀ (h : CmdHead) (k : BitVec 8) (e : TrayEntry) (s : State), PortReady h 1 s →
        s.role = .chill ∨ s.role = .dispatch → k.toNat ≤ 7 → s.hnd.trayArrivals[k.toNat]? = some e →
        exec (.readArrival h k) s = .next (putResponse h.tag 0x12#8 .ok (trayArrivalRecord s e) s)) ∧
      ∀ (h : CmdHead) (i : BitVec 8) (r : LotRec) (s : State), PortReady h 1 s → s.role ≠ .chamber → i.toNat ≤ 15 →
        slotAt s.lot.table i.toNat = some r →
        exec (.readLot h i) s =
          .next (putResponse h.tag 0x1C#8 .ok (lotRecord r (decide (s.lot.openIdx = some i.toNat))) s)) ∧
    ((∀ (h : CmdHead) (p : BitVec 8) (f : Forming) (s : State), PortReady h 1 s → s.role = .trayer → p.toNat = 0 →
          s.tray.forming = some f →
          exec (.readTray h p) s =
            .next (putResponse h.tag 0x28#8 .ok
              (trayRecord 0 f.tray (closeRemaining s.nowMs f.deadline) 0#32 0#32) s)) ∧
        (∀ (h : CmdHead) (p : BitVec 8) (t : Tray) (s : State), PortReady h 1 s → s.role = .chill → 1 ≤ p.toNat →
          p.toNat ≤ 48 → s.tray.queue[p.toNat - 1]? = some t →
          exec (.readTray h p) s = .next (putResponse h.tag 0x28#8 .ok (trayRecord p.toNat t 0 0#32 0#32) s)) ∧
        (∀ (h : CmdHead) (p : BitVec 8) (c : Cell) (s : State), PortReady h 1 s → s.role = .dispatch → 1 ≤ p.toNat →
          p.toNat ≤ 12 → s.cellAt (p.toNat - 1) = some c →
          exec (.readTray h p) s =
            .next (putResponse h.tag 0x28#8 .ok (trayRecord p.toNat c.tray 0 c.arrivalTime c.arrivalOrder) s)) ∧
        (∀ (h : CmdHead) (i : BitVec 8) (s : State), PortReady h 1 s → s.role ≠ .chamber →
          (i.toNat ≤ 15 →
              exec (.readZone h i) s =
                .next (putResponse h.tag 0x29#8 .ok (zoneRecord s (slotAt s.lot.table i.toNat)) s)) ∧
            (i = 0xFF#8 → exec (.readZone h i) s = .next (putResponse h.tag 0x29#8 .ok (zoneRecord s none) s))) ∧
        (∀ (h : CmdHead) (bank i : BitVec 8) (e : OrderEntry) (s : State), PortReady h 2 s → s.role = .dispatch →
          i.toNat ≤ 31 →
          (bank = 0#8 → slotAt (standbyBank s) i.toNat = some e →
              exec (.readOrder h bank i) s =
                .next (putResponse h.tag 0x31#8 .ok (orderRecord (if s.dsp.swap then 0 else 1) e) s)) ∧
            (bank = 1#8 → slotAt (activeBank s) i.toNat = some e →
              exec (.readOrder h bank i) s =
                .next (putResponse h.tag 0x31#8 .ok (orderRecord (if s.dsp.swap then 1 else 0) e) s))) ∧
        ∀ (h : CmdHead) (i : BitVec 8) (s : State), PortReady h 1 s → s.role = .chamber →
          (∀ l, 1 ≤ i.toNat → s.adm.lanes[i.toNat - 1]? = some l →
              exec (.readLane h i) s = .next (putResponse h.tag 0x39#8 .ok (laneRecord i.toNat l) s)) ∧
            ∀ e, i.toNat ≤ 15 → s.admission i.toNat = some e →
              exec (.readAdmission h i) s =
                .next (putResponse h.tag 0x3A#8 .ok (admissionRecord i.toNat e (manifestOf s e.tray)) s))

/-! ### The row window (chapter 1) -/

/-- Encoder counts at a row role (1, Counting the conveyor): a forward count repays reverse debt first and otherwise
advances the position count below C; a reverse count adds debt up to C; in STARTING and CONFIGURING, and at the other roles,
counts are discarded. Nothing else changes. A reverse count at a debt of C is a TRACK-FAULT (1, Counting the conveyor):
every row is marked uncertain, every pot below the gate gains UNCERTAIN and no other pot changes, and the debt becomes 0.
Where TRACK is no cause yet it joins the cause set, TRACK-FAULT is latched, and a RUNNING station is HELD; where it is one
already the cause set, the latched notices and the mode stay as they were. That the tray roles and CHAMBER discard counts is
the model's reading (log entry 27). -/
def Obligations.EncoderCountsAndTrackFault : Prop :=
  (∀ (presence bond : BitVec 8) (s : State),
      (takesCounts s = true →
        (0 < s.idx.debt →
            exec (.forwardCount presence bond) s = .next { s with idx.debt := s.idx.debt - 1 }) ∧
          (s.idx.debt = 0 → s.idx.posCount + 1 < s.countsPerIndex →
            exec (.forwardCount presence bond) s = .next { s with idx.posCount := s.idx.posCount + 1 }) ∧
          (s.idx.debt < s.countsPerIndex →
            exec .reverseCount s = .next { s with idx.debt := s.idx.debt + 1 })) ∧
        (s.role.isRow = false ∨ s.mode = .starting ∨ s.mode = .configuring →
          exec (.forwardCount presence bond) s = .next s ∧ exec .reverseCount s = .next s)) ∧
    (∀ s : State, takesCounts s = true → s.countsPerIndex ≤ s.idx.debt →
        ∃ t, exec .reverseCount s = .next t ∧ t.idx.debt = 0 ∧ t.idx.posCount = s.idx.posCount ∧
          t.stc.causes = s.stc.causes ||| 0x02#8 ∧ t.stc.latched =
            (if s.hasCause .track then s.stc.latched else s.stc.latched ||| Notice.trackFault.mask) ∧
          t.mode = (if s.mode = .running ∧ s.hasCause .track = false then .held else s.mode) ∧ t.out.runPermit = permitOf t ∧
          (∀ p r, s.rowAt p = some r →
            ∃ q, t.rowAt p = some q ∧ q.number = r.number ∧ q.body.uncertain = true ∧ q.body.lot = r.body.lot ∧
              q.body.pots =
                (if p < s.gatePos then r.body.pots.map (Option.map (fun x => x.mark .uncertain)) else r.body.pots)) ∧
          (∀ p, s.rowAt p = none → t.rowAt p = none) ∧ t.lot = s.lot ∧ t.lid = s.lid ∧ t.tray = s.tray)

/-- The forward count that brings the position count to C is an index event (1, The row window): the position count returns
to 0, every row moves one position up keeping its local row number and its lot, and with no lane sensed position 0 is left
empty. -/
def Obligations.IndexEventMovesRowsOnePosition : Prop :=
  ∀ (presence bond : BitVec 8) (s : State), takesCounts s = true → s.idx.debt = 0 →
    s.countsPerIndex ≤ s.idx.posCount + 1 →
    ∃ t, exec (.forwardCount presence bond) s = .next t ∧ t.idx.posCount = 0 ∧ t.idx.debt = 0 ∧
      (∀ p, p + 1 < s.windowLength →
        (t.rowAt (p + 1)).map (fun r => (r.number, r.body.lot)) =
          (s.rowAt p).map (fun r => (r.number, r.body.lot))) ∧
      (sensedCount presence s.laneCount = 0 → t.rowAt 0 = none ∧ t.idx.nextRow = s.idx.nextRow) ∧
      t.out.runPermit = permitOf t

/-- At FILLER in RUNNING, HELD or FAULT an index event that senses pots creates a row (1, Filling position 0): the next
local row number, exposure 0, the open lot or none, the purge flag while purge rows remain, and a pot in each sensed lane,
with UNKNOWN-LOT on every pot where no lot is open and PURGE where purge rows remain. At LIDDER and TRAYER an index event
that senses pots takes the oldest arrivals entry (2, Pairing with physical arrivals): the entering row keeps the announced
lot, exposure and flags; a pot announced and sensed is kept, one announced and not sensed is counted missing, and one sensed
and not announced is a STRAY pot, counted stray; every pot gains UNCERTAIN where the row is uncertain (1, Filling position
0) and SPENT where its lot's allowance is used up (6.5). With the list empty a row of STRAY pots and absent lot enters, the
expected sequence advances by 1, and a CREDIT is placed for an upstream neighbour. In RUNNING the room that the taken entry
frees is advertised in a CREDIT at once, as the stray's is, before any row is treated (2, Room and the advertised credit
limit); a cause that the treatment then adds makes the room 0. Pots sensed where no row may be created, at FILLER in
DRAINING and at each row role in SANITISING, are counted untracked; position 0 stays empty, and no row number and no
arrivals entry is used up (1, Filling position 0; 1, IDX and the station modes). That stage 3 makes its CREDIT before stage
4 treats any row is DEDUCED (log entry 7). -/
def Obligations.FillerCreatesRowFromSensedLanes : Prop :=
  ((∀ (presence bond : BitVec 8) (s : State), s.role = .filler →
      s.mode = .running ∨ s.mode = .held ∨ s.mode = .fault → s.idx.debt = 0 →
      s.countsPerIndex ≤ s.idx.posCount + 1 → 1 ≤ s.gatePos → 1 ≤ s.windowLength →
      sensedCount presence s.laneCount ≠ 0 →
      ∃ t r, exec (.forwardCount presence bond) s = .next t ∧ t.rowAt 0 = some r ∧ r.number = s.idx.nextRow ∧
        t.idx.nextRow = (if s.idx.nextRow = 65535 then 1 else s.idx.nextRow + 1) ∧
        r.body.lot = (openLotRec s).map LotRec.id ∧ r.body.exposure = 0 ∧ r.body.uncertain = false ∧
        r.body.purge = (openLotRec s).any (fun l => decide (l.purgeLeft ≠ 0)) ∧
        (∀ k, k < 8 → (slotAt r.body.pots k).isSome = sensed presence s.laneCount k) ∧
        ∀ k p, slotAt r.body.pots k = some p →
          p.lidded = false ∧ p.has .unknownLot = (openLotRec s).isNone ∧
            p.has .purge = (openLotRec s).any (fun l => decide (l.purgeLeft ≠ 0))) ∧
     (∀ (presence bond : BitVec 8) (e : RowEntry) (rest : List RowEntry) (s : State),
        takesCounts s = true → s.idx.debt = 0 → s.countsPerIndex ≤ s.idx.posCount + 1 →
        s.role = .lidder ∨ s.role = .trayer → s.mode ≠ .sanitising → 1 ≤ s.gatePos → 1 ≤ s.windowLength →
        1 ≤ s.lidPos → 1 ≤ s.bondPos → sensedCount presence s.laneCount ≠ 0 → s.hnd.rowArrivals = e :: rest →
        e.body.pots.length = 8 →
          let lot := lotOf s e.body.lot
          let added : BitVec 9 :=
            (if e.body.uncertain then Reason.uncertain.mask else 0#9) |||
              (if lot.any (fun l => l.allowance ≤ e.body.exposure) then Reason.spent.mask else 0#9)
          let here := sensed presence s.laneCount
          let announced := fun (k : Nat) => (slotAt e.body.pots k).isSome
          ∃ t, exec (.forwardCount presence bond) s = .next t ∧
            (∃ r, t.rowAt 0 = some r ∧ r.number = s.idx.nextRow ∧ r.body.lot = e.body.lot ∧
              r.body.exposure = e.body.exposure ∧ r.body.purge = e.body.purge ∧ r.body.uncertain = e.body.uncertain ∧
              ∀ k, slotAt r.body.pots k =
                if here k then
                  some { lidded := (slotAt e.body.pots k).any Pot.lidded,
                         reasons := ((slotAt e.body.pots k).map Pot.reasons).getD Reason.stray.mask ||| added }
                else none) ∧
            t.hnd.rowArrivals = rest ∧ t.hnd.expected = s.hnd.expected ∧ t.hnd.room = roomOf t ∧
            t.hnd.missing =
              min 4294967295 (s.hnd.missing + ((List.range 8).filter (fun k => announced k && !here k)).length) ∧
            t.hnd.stray =
              min 4294967295 (s.hnd.stray + ((List.range 8).filter (fun k => !announced k && here k)).length) ∧
            (∀ l, lot = some l →
              ∃ q, findLot t l.id = some q ∧
                q.potsReceived = min 4294967295 (l.potsReceived + sensedCount presence s.laneCount)) ∧
            (s.upstream ≠ 0 →
              let room := if s.mode = .running ∧ ¬(s.role = .trayer ∧ 16 ≤ t.tray.formed.length) then 8 - rest.length else 0
              (s.hnd.room < room →
                  t.lnk.creditSlot =
                      some (frameTo s.upstream (.credit (s.hnd.expected + BitVec.ofNat 16 room) (BitVec.ofNat 8 room))) ∧
                    t.hnd.advertised = s.hnd.expected + BitVec.ofNat 16 room) ∧
                (room ≤ s.hnd.room → t.lnk.creditSlot = s.lnk.creditSlot ∧ t.hnd.advertised = s.hnd.advertised))) ∧
     (∀ (presence bond : BitVec 8) (s : State),
        takesCounts s = true → s.idx.debt = 0 → s.countsPerIndex ≤ s.idx.posCount + 1 →
        s.role = .lidder ∨ s.role = .trayer → s.mode ≠ .sanitising → 1 ≤ s.gatePos → 1 ≤ s.windowLength →
        1 ≤ s.lidPos → 1 ≤ s.bondPos → sensedCount presence s.laneCount ≠ 0 → s.hnd.rowArrivals = [] →
          ∃ t, exec (.forwardCount presence bond) s = .next t ∧
            (∃ r, t.rowAt 0 = some r ∧ r.number = s.idx.nextRow ∧ r.body.lot = none ∧ r.body.exposure = 0 ∧
              r.body.purge = false ∧ r.body.uncertain = false ∧
              ∀ k, slotAt r.body.pots k =
                if sensed presence s.laneCount k then some { lidded := false, reasons := Reason.stray.mask } else none) ∧
            t.hnd.rowArrivals = [] ∧ t.hnd.expected = s.hnd.expected + 1#16 ∧ t.hnd.room = roomOf t ∧
            t.hnd.missing = s.hnd.missing ∧
            t.hnd.stray = min 4294967295 (s.hnd.stray + sensedCount presence s.laneCount) ∧
            (s.upstream ≠ 0 →
              let room := if s.mode = .running ∧ ¬(s.role = .trayer ∧ 16 ≤ t.tray.formed.length) then 8 else 0
              t.lnk.creditSlot =
                  some (frameTo s.upstream (.credit (t.hnd.expected + BitVec.ofNat 16 room) (BitVec.ofNat 8 room))) ∧
                t.hnd.advertised = t.hnd.expected + BitVec.ofNat 16 room))) ∧
    (∀ (presence bond : BitVec 8) (s : State),
       takesCounts s = true → s.idx.debt = 0 → s.countsPerIndex ≤ s.idx.posCount + 1 →
       s.role = .filler ∧ s.mode = .draining ∨ s.mode = .sanitising → 1 ≤ s.gatePos → 1 ≤ s.windowLength →
       1 ≤ s.lidPos → 1 ≤ s.bondPos → sensedCount presence s.laneCount ≠ 0 →
         ∃ t, exec (.forwardCount presence bond) s = .next t ∧ t.rowAt 0 = none ∧ t.idx.nextRow = s.idx.nextRow ∧
           t.idx.untracked = min 4294967295 (s.idx.untracked + sensedCount presence s.laneCount) ∧
           t.hnd.rowArrivals = s.hnd.rowArrivals ∧ t.hnd.expected = s.hnd.expected ∧ t.hnd.missing = s.hnd.missing ∧
           t.hnd.stray = s.hnd.stray ∧ t.hnd.room = roomOf t)

/-- An index event rejects at the gate (1, The reject gate): no pot of the row then at the gate position is marked; a pot
that was marked one position before the gate is gone and its lane is driven for 50 ms from then; in a window whose rows have
an entry for each of lanes 1 to 8, as every step keeps it (StoresStayBounded), no other running pulse is changed, and where
neither the lid nor the bond position is the gate's exactly the lanes of the marked pots are driven; and at FILLER and
TRAYER the row keeps its other pots and all else. A running reject pulse ends when its 50 ms run out, and the pulses on the
other lanes run on (1, The reject gate). The time scale is the model's (log entry 3). -/
def Obligations.GateRemovesMarkedPotsByPulse : Prop :=
  (∀ (presence bond : BitVec 8) (s : State),
     takesCounts s = true → s.idx.debt = 0 → s.countsPerIndex ≤ s.idx.posCount + 1 → 1 ≤ s.gatePos →
     s.gatePos < s.windowLength → s.idx.pulses.length = 8 →
       ∃ t, exec (.forwardCount presence bond) s = .next t ∧
         (∀ r, t.rowAt s.gatePos = some r → r.body.markedCount = 0) ∧
         (∀ r, s.rowAt (s.gatePos - 1) = some r → ∀ k x, slotAt r.body.pots k = some x → k < 8 → x.marked = true →
           slotAt t.idx.pulses k = some (s.nowMs + 50) ∧
             ∀ q, t.rowAt s.gatePos = some q → slotAt q.body.pots k = none) ∧
         ((∀ r, some r ∈ s.idx.window → r.body.pots.length = 8) →
           (∀ k, slotAt t.idx.pulses k = some (s.nowMs + 50) ∨ slotAt t.idx.pulses k = slotAt s.idx.pulses k) ∧
             (s.role ≠ .lidder ∨ s.lidPos ≠ s.gatePos ∧ s.bondPos ≠ s.gatePos →
               ∀ k, slotAt t.idx.pulses k =
                 if (s.rowAt (s.gatePos - 1)).any (fun r => (slotAt r.body.pots k).any Pot.marked) then some (s.nowMs + 50)
                 else slotAt s.idx.pulses k)) ∧
         (s.role ≠ .lidder → ∀ r, s.rowAt (s.gatePos - 1) = some r →
           t.rowAt s.gatePos = some { r with body := r.body.gated })) ∧
    (∀ (lane d : Nat) (s : State), 1 ≤ lane → slotAt s.idx.pulses (lane - 1) = some d →
        ∃ t, exec (.rejectPulseEnd lane) s = .next t ∧ slotAt t.idx.pulses (lane - 1) = none ∧
          (∀ k, k ≠ lane - 1 → slotAt t.idx.pulses k = slotAt s.idx.pulses k) ∧ t.nowMs = max s.nowMs d ∧
          { t with idx.pulses := s.idx.pulses, nowMs := s.nowMs } = s)

/-- A row with pots that may not leave FILLER or LIDDER at an index event is written off (1, The index event): its pots are
counted lost, OVERRUN is latched, no sequence is used; and one that may leave takes the next sequence. What a receiver
ignores is sent as 0 (log entry 43). -/
def Obligations.ExitRowLeavesByCreditOrIsWrittenOff : Prop :=
  ∀ (presence bond : BitVec 8) (r : Row) (s : State), s.role = .filler ∨ s.role = .lidder →
    takesCounts s = true → s.idx.debt = 0 → s.countsPerIndex ≤ s.idx.posCount + 1 →
    s.rowAt (s.windowLength - 1) = some r → r.body.hasPots = true →
    (maySend s = false →
      ∃ t, exec (.forwardCount presence bond) s = .next t ∧
        t.idx.lost = min 4294967295 (s.idx.lost + r.body.potCount) ∧ t.latchedNotice .overrun = true ∧
        t.hnd.nextSeq = s.hnd.nextSeq) ∧
      (maySend s = true →
        ∃ t, exec (.forwardCount presence bond) s = .next t ∧ t.idx.lost = s.idx.lost ∧
          t.hnd.nextSeq = s.hnd.nextSeq + 1#16 ∧
          frameTo s.downstream (.rowPass (writeRowPass s.hnd.nextSeq r.body)) ∈ t.lnk.mainQ)

/-- FORCE-REJECT (R22): at other roles it is BAD-ROLE; at a row role BAD-MODE in STARTING, CONFIGURING and SANITISING,
BAD-VALUE at or beyond the window length or the gate or for a lane outside 1 to N, EMPTY where the position holds no row, the
lane no pot, or the row no pot for ALL; otherwise HOST is added to the lane's pot, or to every pot, and the answer is OK. A
refused command changes nothing. -/
def Obligations.ForceRejectAddsHostBelowGate : Prop :=
  ∀ (h : CmdHead) (position lane : BitVec 8) (s : State), s.port.restartPending = false → h.paramLen.toNat = 2 →
    let p := position.toNat
    let n := lane.toNat
    let refused := fun st => exec (.forceReject h position lane) s = .next (putResponse h.tag 0x10#8 st [] s)
    (s.mode = .starting → refused .badMode) ∧
      (s.mode ≠ .starting → s.role.isRow = false → refused .badRole) ∧
      (s.role.isRow = true → s.mode = .configuring ∨ s.mode = .sanitising → refused .badMode) ∧
      (s.role.isRow = true → s.mode ≠ .starting → s.mode ≠ .configuring → s.mode ≠ .sanitising →
        (s.windowLength ≤ p ∨ s.gatePos ≤ p ∨ s.laneCount < n → refused .badValue) ∧
          (p < s.windowLength → p < s.gatePos → n ≤ s.laneCount →
            (s.rowAt p = none → refused .empty) ∧
              ∀ r, s.rowAt p = some r →
                (n ≠ 0 → slotAt r.body.pots (n - 1) = none → refused .empty) ∧
                  (n = 0 → r.body.hasPots = false → refused .empty) ∧
                  (n ≠ 0 ∧ (slotAt r.body.pots (n - 1)).isSome = true ∨ n = 0 ∧ r.body.hasPots = true →
                    ∃ t, exec (.forceReject h position lane) s = .next (putResponse h.tag 0x10#8 .ok [] t) ∧
                      { t with idx.window := s.idx.window } = s ∧ (∀ q, q ≠ p → t.rowAt q = s.rowAt q) ∧
                      ∃ r', t.rowAt p = some r' ∧ { r' with body.pots := r.body.pots } = r ∧
                        ∀ k, slotAt r'.body.pots k =
                          if n = 0 ∨ k = n - 1 then (slotAt r.body.pots k).map (fun x => x.mark .host)
                          else slotAt r.body.pots k)))

/-! ### Handoff and credit (chapter 2) -/

/-- A CREDIT from the downstream neighbour is held, received now, and ends a loss; the first one after a reset gives the
next sequence, and a later one moves it, counted, only where it is more than 8 beyond what the receiver expects. A CREDIT
from any other station changes nothing (2, Credit received). The lapse of the held limit removes it, latches CREDIT-EXPIRED
once per loss, keeps the next sequence, and works the run permit out again (2, Credit received). At each refresh period a
station with an incoming side and an upstream neighbour places a CREDIT in the credit slot, carrying expected sequence plus
room and the room, and the period starts again (2, Room and the advertised credit limit). The time scale is the model's (log
entry 3); room and the permit are worked out once, at the end of the step (log entry 7). A limit held lapses at any role
(log entry 44). -/
def Obligations.CreditTakenLapsedAndRefreshed : Prop :=
  (∀ (src tgt : BitVec 5) (limit : BitVec 16) (room : BitVec 8) (s : State), TakenFrom .credit src tgt s →
      (src.toNat ≠ s.downstream → exec (.credit src tgt limit room) s = .next s) ∧
        (src.toNat = s.downstream →
          let expected := limit - BitVec.ofNat 16 room.toNat
          let far := 9 ≤ (s.hnd.nextSeq - expected).toNat
          ∃ t, exec (.credit src tgt limit room) s = .next t ∧
            t.hnd.held = some { limit, since := s.nowMs } ∧ t.hnd.everHeld = true ∧ t.hnd.inLoss = false ∧
            t.hnd.nextSeq =
              (if s.hnd.everHeld = false ∨ far then expected else s.hnd.nextSeq) ∧
            t.hnd.resync =
              (if s.hnd.everHeld = true ∧ far then min 4294967295 (s.hnd.resync + 1) else s.hnd.resync) ∧
            t.hnd.expected = s.hnd.expected ∧ t.out.runPermit = permitOf t ∧ t.idx = s.idx ∧ t.lot = s.lot ∧
            t.lid = s.lid ∧ t.tray = s.tray ∧ t.stc = s.stc)) ∧
    (∀ (l : HeldLimit) (s : State), s.hnd.held = some l →
        ∃ t, exec .creditExpiry s = .next t ∧ t.hnd.held = none ∧ t.hnd.inLoss = true ∧ t.hnd.nextSeq = s.hnd.nextSeq ∧
          t.stc.latched = (if s.hnd.inLoss then s.stc.latched else s.stc.latched ||| Notice.creditExpired.mask) ∧
          t.nowMs = max s.nowMs (l.since + s.creditExpiryMs) ∧ t.out.runPermit = permitOf t ∧ t.idx = s.idx ∧
          t.lot = s.lot ∧ t.tray = s.tray) ∧
    (∀ (d : Nat) (s : State), s.hnd.refreshAt = some d → s.role.hasIncoming = true → s.upstream ≠ 0 →
        s.mode ≠ .starting →
        ∃ t, exec .creditRefresh s = .next t ∧
          t.lnk.creditSlot =
            some (frameTo s.upstream
              (.credit (s.hnd.expected + BitVec.ofNat 16 s.hnd.room) (BitVec.ofNat 8 s.hnd.room))) ∧
          t.hnd.advertised = s.hnd.expected + BitVec.ofNat 16 s.hnd.room ∧
          t.hnd.refreshAt = some (max s.nowMs d + s.refreshMs) ∧ t.hnd.expected = s.hnd.expected ∧
          t.hnd.room = s.hnd.room ∧ t.lnk.mainQ = s.lnk.mainQ ∧ t.lnk.answerQ = s.lnk.answerQ ∧ t.stc = s.stc ∧
          t.idx = s.idx ∧ t.tray = s.tray)

/-- A ROW-PASS at LIDDER and TRAYER (2, The arrivals lists): one from another station, in a mode that takes none, or with a
sequence the list holds is dropped and counted; one finding eight entries also latches CREDIT-VIOLATION; otherwise the
expected sequence follows it and the entry joins as the newest, its lot made absent where the table does not hold it, its
pots as carried with SPENT added where the lot's allowance is used up (6.5). A TRAY-PASS at CHILL and DISPATCH (2, The
arrivals lists): the same checks; an accepted tray whose announced lot the table does not hold loses the lot and gains the
quarantine flag. The time scale is the model's (log entry 3). The model's choice: a received tray keeps its rows and pots as
carried (log entry 20). -/
def Obligations.PassesAcceptedOrDropped : Prop :=
  (∀ (src tgt : BitVec 5) (p : RowPassFields) (s : State), TakenFrom .rowPass src tgt s →
      let known := s.hnd.rowArrivals.any (fun e => e.seq = p.seq)
      let barred := decide (src.toNat ≠ s.upstream) || !passMode s.mode || known
      let dropped : State := { s with hnd.dropped := min 4294967295 (s.hnd.dropped + 1) }
      (barred = true → exec (.rowPass src tgt p) s = .next dropped) ∧
        (barred = false → 8 ≤ s.hnd.rowArrivals.length →
          exec (.rowPass src tgt p) s = .next (latch .creditViolation dropped)) ∧
        (barred = false → s.hnd.rowArrivals.length < 8 →
          ∃ t e, exec (.rowPass src tgt p) s = .next t ∧ t.hnd.expected = p.seq + 1#16 ∧
            t.hnd.rowArrivals = s.hnd.rowArrivals ++ [e] ∧ e.seq = p.seq ∧ e.since = s.nowMs ∧
            e.body.lot = (if (lotOf s (optId p.lot.toNat)).isSome then optId p.lot.toNat else none) ∧
            e.body.exposure = p.exposure.toNat ∧ e.body.purge = p.flags.getLsbD 0 ∧
            e.body.uncertain = p.flags.getLsbD 1 ∧ e.body.pots.length = 8 ∧
            (∀ k, k < 8 → slotAt e.body.pots k =
              (let w := p.pots.getD k 0#16
              if w.getLsbD 15 then
                some { lidded := w.getLsbD 14,
                       reasons := w.setWidth 9 |||
                         (if (lotOf s (optId p.lot.toNat)).any (fun l => l.allowance ≤ p.exposure.toNat) then
                           Reason.spent.mask
                         else 0#9) }
              else none)) ∧ t.hnd.dropped = s.hnd.dropped ∧ t.hnd.room = roomOf t ∧
            t.idx = s.idx ∧ t.lid = s.lid ∧ t.tray = s.tray ∧ t.stc = s.stc)) ∧
    (∀ (src tgt : BitVec 5) (p : TrayPassFields) (s : State), TakenFrom .trayPass src tgt s → s.role ≠ .chamber →
        let known := s.hnd.trayArrivals.any (fun e => e.seq = p.seq)
        let barred := decide (src.toNat ≠ s.upstream) || !passMode s.mode || known
        let dropped : State := { s with hnd.dropped := min 4294967295 (s.hnd.dropped + 1) }
        let unheld := (lotOf s (optId p.lot.toNat)).isNone
        (barred = true → exec (.trayPass src tgt p) s = .next dropped) ∧
          (barred = false → 8 ≤ s.hnd.trayArrivals.length →
            exec (.trayPass src tgt p) s = .next (latch .creditViolation dropped)) ∧
          (barred = false → s.hnd.trayArrivals.length < 8 →
            ∃ t e, exec (.trayPass src tgt p) s = .next t ∧ t.hnd.expected = p.seq + 1#16 ∧
              t.hnd.trayArrivals = s.hnd.trayArrivals ++ [e] ∧ e.seq = p.seq ∧ e.since = s.nowMs ∧
              e.tray.id = readTrayId p.trayId ∧ e.tray.lot = (if unheld then none else optId p.lot.toNat) ∧
              e.tray.exposure = p.exposure.toNat ∧ e.tray.rows = p.rows.toNat ∧ e.tray.pots = p.pots.toNat ∧
              (p.flags.getLsbD 1 = true → e.tray.quarantine = true) ∧
              (p.lot.toNat ≠ 0 → unheld = true → e.tray.quarantine = true) ∧ t.hnd.dropped = s.hnd.dropped ∧
              t.hnd.room = roomOf t ∧ t.tray = s.tray ∧ t.stc = s.stc))

/-- The transit limit takes the oldest entry out as missing and latches MISSING: at a row role its pots are counted, at CHILL
and DISPATCH the tray; the expected sequence stays, and room is computed again (2, Transit-limit expiry). Room is worked out
once, at the end of the step (log entry 7). -/
def Obligations.TransitLimitRemovesOldestEntry : Prop :=
  (∀ (e : RowEntry) (rest : List RowEntry) (s : State), s.role = .lidder ∨ s.role = .trayer →
      s.hnd.rowArrivals = e :: rest →
      ∃ t, exec .transitLimitExpiry s = .next t ∧ t.hnd.rowArrivals = rest ∧
        t.hnd.missing = min 4294967295 (s.hnd.missing + e.body.potCount) ∧ t.latchedNotice .missing = true ∧
        t.hnd.expected = s.hnd.expected ∧ t.hnd.room = roomOf t ∧ t.idx = s.idx ∧ t.lid = s.lid) ∧
    ∀ (e : TrayEntry) (rest : List TrayEntry) (s : State), s.role = .chill ∨ s.role = .dispatch →
      s.hnd.trayArrivals = e :: rest →
      ∃ t, exec .transitLimitExpiry s = .next t ∧ t.hnd.trayArrivals = rest ∧
        t.hnd.missing = min 4294967295 (s.hnd.missing + 1) ∧ t.latchedNotice .missing = true ∧
        t.hnd.expected = s.hnd.expected ∧ t.hnd.room = roomOf t ∧ t.tray = s.tray ∧ t.dsp = s.dsp

/-! ### Products, lots and changeover (chapter 3) -/

/-- OPEN-LOT at FILLER in RUNNING or HELD (3.4): the checks in their order, and where all pass the new lot is the open lot,
with the product's fields, the use-by day from the plant day, the purge rows of the transition and counts of 0; the flag is
cleared and the previous class is the lot's. -/
def Obligations.OpenLotChecksAndOpens : Prop :=
  ∀ (h : CmdHead) (i tank : BitVec 8) (lot : BitVec 24) (s : State), PortReady h 5 s → s.role = .filler →
    let refused := fun st => exec (.openLot h i tank lot) s = .next (putResponse h.tag 0x1A#8 st [] s)
    let good := decide (1 ≤ tank.toNat ∧ tank.toNat ≤ 16 ∧ lot.toNat ≠ 0)
    (s.mode ≠ .running → s.mode ≠ .held → refused .badMode) ∧
      (s.mode = .running ∨ s.mode = .held →
        (slotAt s.stc.products i.toNat = none ∨ good = false → refused .badValue) ∧
          ∀ p, slotAt s.stc.products i.toNat = some p → good = true →
            ((findLot s lot.toNat).isSome = true → refused .duplicate) ∧
              ((findLot s lot.toNat).isSome = false →
                (findPlace (tableAfterClose s) = none → refused .full) ∧
                  (findPlace (tableAfterClose s) ≠ none →
                    (transitionFor s p.cls = .sanitise → s.lot.sanitised = false → refused .barred) ∧
                      (transitionFor s p.cls ≠ .sanitise ∨ s.lot.sanitised = true →
                        (s.lot.pendingCloses ≠ [] → refused .busy) ∧
                          (s.lot.pendingCloses = [] →
                            ∃ t j r, exec (.openLot h i tank lot) s =
                                .next (putResponse h.tag 0x1A#8 .ok [] t) ∧
                              t.lot.openIdx = some j ∧ slotAt t.lot.table j = some r ∧ r.id = lot.toNat ∧
                              r.origin = s.own ∧ r.product = p.code ∧ r.flavour = p.flavour ∧ r.cls = p.cls ∧
                              r.tank = tank.toNat ∧ r.allowance = p.allowance ∧ r.tref = p.tref ∧ r.tk = p.tk ∧
                              r.useBy = min 65535 (s.stc.day.toNat + p.shelf) ∧ r.state = .opened ∧ r.refs = 0 ∧
                              r.purgeLeft = purgeRows (transitionFor s p.cls) ∧ r.rowsFilled = 0 ∧
                              r.potsFilled = 0 ∧ r.potsRejected = 0 ∧ t.lot.prevClass = some p.cls ∧
                              t.lot.sanitised = false ∧ t.idx = s.idx ∧ t.tray = s.tray ∧ t.stc = s.stc)))))

/-- CLOSE-LOT (R52): BAD-ROLE at other roles; at FILLER BAD-MODE outside RUNNING and HELD, EMPTY with no lot open, BUSY while
a LOT-CLOSE is pending; otherwise the open lot becomes CLOSED, or RETIRED where no record names it, its LOT-CLOSE is queued
or made pending, its repetition stops, there is no open lot, and the answer is OK. No other field of the lot changes. The
model's choice: the close order is the counter before it advances (log entry 13). -/
def Obligations.CloseLotClosesOpenLot : Prop :=
  ∀ (h : CmdHead) (s : State), s.port.restartPending = false → h.paramLen.toNat = 0 →
    let refused := fun st => exec (.closeLot h) s = .next (putResponse h.tag 0x1B#8 st [] s)
    (s.mode = .starting → refused .badMode) ∧
      (s.mode ≠ .starting → s.role ≠ .filler → refused .badRole) ∧
      (s.role = .filler →
        (s.mode ≠ .running → s.mode ≠ .held → refused .badMode) ∧
          (s.mode = .running ∨ s.mode = .held →
            (s.lot.openIdx = none → refused .empty) ∧
              (s.lot.openIdx ≠ none → s.lot.pendingCloses ≠ [] → refused .busy) ∧
              ∀ j r, s.lot.openIdx = some j → slotAt s.lot.table j = some r → r.state = .opened →
                s.lot.pendingCloses = [] →
                let f := frameTo 0 (.lotClose (BitVec.ofNat 24 r.id))
                ∃ t, exec (.closeLot h) s = .next (putResponse h.tag 0x1B#8 .ok [] t) ∧ t.lot.openIdx = none ∧
                  t.lot.pendingOpen = false ∧ t.lot.repeatAt = none ∧
                  (s.lnk.mainQ.length < 16 → t.lnk.mainQ = s.lnk.mainQ ++ [f] ∧ t.lot.pendingCloses = []) ∧
                  (16 ≤ s.lnk.mainQ.length → t.lnk.mainQ = s.lnk.mainQ ∧ t.lot.pendingCloses = [r.id]) ∧
                  slotAt t.lot.table j =
                    some { r with
                      state := if r.refs = 0 then .retired else .closed
                      closeOrder := s.lot.closeCounter, closeTime := some s.stc.clock } ∧
                  t.lot.closeCounter = s.lot.closeCounter + 1#32 ∧
                  (∀ k, k ≠ j → slotAt t.lot.table k = slotAt s.lot.table k) ∧
                  t.lot.prevClass = s.lot.prevClass ∧ t.lot.sanitised = s.lot.sanitised ∧ t.stc = s.stc ∧
                  t.idx = s.idx))

/-- The LOT-OPEN repetition queues the open lot's LOT-OPEN again and runs another 5 s; and when the main queue gains room the
pending LOT-CLOSEs are queued oldest first, then the pending LOT-OPEN (3.4). The time scale is the model's (log entry 3). -/
def Obligations.LotAnnouncementsRepeatAndCatchUp : Prop :=
  (∀ (d j : Nat) (r : LotRec) (s : State), s.lot.repeatAt = some d → s.lot.openIdx = some j →
      slotAt s.lot.table j = some r → s.lot.pendingCloses = [] → s.lnk.mainQ.length < 16 →
      ∃ t, exec .lotOpenRepetition s = .next t ∧
        t.lnk.mainQ = s.lnk.mainQ ++ [frameTo 0 (.lotOpen (writeLotOpen r))] ∧
        t.lot = { s.lot with pendingOpen := false, repeatAt := some (max s.nowMs d + 5000) } ∧ t.idx = s.idx ∧
        t.stc = s.stc) ∧
    ∀ s : State, s.lnk.mainQ.length + s.lot.pendingCloses.length < 16 →
      ∃ t, exec .pendingLotFramesQueued s = .next t ∧ t.lot.pendingCloses = [] ∧
        (s.lot.pendingOpen = false →
          t.lnk.mainQ =
            s.lnk.mainQ ++ s.lot.pendingCloses.map (fun id => frameTo 0 (.lotClose (BitVec.ofNat 24 id)))) ∧
        (∀ j r, s.lot.pendingOpen = true → s.lot.openIdx = some j → slotAt s.lot.table j = some r →
          t.lnk.mainQ =
              s.lnk.mainQ ++ s.lot.pendingCloses.map (fun id => frameTo 0 (.lotClose (BitVec.ofNat 24 id))) ++
                [frameTo 0 (.lotOpen (writeLotOpen r))] ∧
            t.lot.pendingOpen = false ∧ t.lot.repeatAt = some (s.nowMs + 5000)) ∧
        t.lot.table = s.lot.table ∧ t.stc = s.stc

/-- A LOT-OPEN from the upstream range with every field in range (3.5): every other OPEN copy of its origin is closed, and
no other copy changes; a copy held already takes the fields carried, keeping its reference count and counts; where the table
after those closes has a place (3.2) the new copy takes it, OPEN with reference count 0 and counts 0, and LOT-TABLE-FULL is
latched exactly where it has none. Any other LOT-OPEN is discarded and counted. A LOT-CLOSE from the upstream range closes
the OPEN copy of its lot, which is RETIRED where no record names it, and changes nothing for a lot the table does not hold;
one from elsewhere is discarded and counted (3.5). The model's choices: the close order is the counter before it advances
(log entry 13), and a copy never closed has close order 0 (log entry 12). -/
def Obligations.LotFramesOpenAndCloseCopies : Prop :=
  (∀ (src tgt : BitVec 5) (p : LotOpenFields) (s : State), HeardFrom .lotOpen src s → tgt.toNat = 0 →
     (inUpstreamRange s src.toNat && lotOpenInRange p) = false →
       exec (.lotOpen src tgt p) s = .next { s with lot.discards := min 4294967295 (s.lot.discards + 1) }) ∧
    (∀ (src tgt : BitVec 5) (p : LotOpenFields) (s : State),
       HeardFrom .lotOpen src s → tgt.toNat = 0 → (inUpstreamRange s src.toNat && lotOpenInRange p) = true →
         let after := implicitClose src.toNat p.lot.toNat (List.range s.lot.table.length) s
         ∃ t, exec (.lotOpen src tgt p) s = .next t ∧ t.lot.discards = s.lot.discards ∧
           (∀ (j : Nat) (r : LotRec), slotAt t.lot.table j = some r → r.origin = src.toNat → r.state = .opened →
             r.id = p.lot.toNat) ∧
           (∀ (j : Nat) (r : LotRec), slotAt s.lot.table j = some r →
             slotAt after.lot.table j = some r ∨
               r.origin = src.toNat ∧ r.state = .opened ∧ r.id ≠ p.lot.toNat ∧
                 ∃ q, slotAt after.lot.table j = some q ∧ q.id = r.id ∧ q.refs = r.refs ∧
                   q.state = (if r.refs = 0 then .retired else .closed) ∧ q.closeTime = some s.stc.clock) ∧
           (∀ q, findLot s p.lot.toNat = some q → ∃ r, findLot t p.lot.toNat = some r ∧ r.state = .opened ∧
             r.origin = src.toNat ∧ r.product = p.product.toNat ∧ r.flavour = p.flavour.toNat ∧
             r.cls = p.cls.toNat ∧ r.tank = p.tank.toNat ∧ r.useBy = p.useBy.toNat ∧
             r.allowance = p.allowance.toNat ∧ r.tref = p.tref.toNat ∧ r.tk = p.tk.toNat ∧ r.refs = q.refs ∧
             r.potsReceived = q.potsReceived ∧ r.potsRejected = q.potsRejected ∧ t.stc = s.stc) ∧
           (findLot s p.lot.toNat = none →
             (∀ i, findPlace after.lot.table = some i →
               t.lot.table = after.lot.table.set i (some (copyOf src.toNat p)) ∧
                 findLot t p.lot.toNat = some (copyOf src.toNat p) ∧ t.stc = s.stc) ∧
             (findPlace after.lot.table = none →
               t.lot.table = after.lot.table ∧ findLot t p.lot.toNat = none ∧
                 t.stc = { s.stc with latched := s.stc.latched ||| Notice.lotTableFull.mask })) ∧
           t.idx = s.idx ∧ t.hnd = s.hnd ∧ t.tray = s.tray ∧ t.lnk = s.lnk) ∧
    (∀ (src tgt : BitVec 5) (lot : BitVec 24) (s : State), HeardFrom .lotClose src s → tgt.toNat = 0 →
        (inUpstreamRange s src.toNat = false →
          exec (.lotCloseFrame src tgt lot) s = .next { s with lot.discards := min 4294967295 (s.lot.discards + 1) }) ∧
          (inUpstreamRange s src.toNat = true →
            (findLot s lot.toNat = none → exec (.lotCloseFrame src tgt lot) s = .next s) ∧
              (∀ r, findLot s lot.toNat = some r → r.state ≠ .opened →
                exec (.lotCloseFrame src tgt lot) s = .next s) ∧
              ∀ r, findLot s lot.toNat = some r → r.state = .opened →
                ∃ t, exec (.lotCloseFrame src tgt lot) s = .next t ∧
                  findLot t lot.toNat =
                    some { r with
                      state := if r.refs = 0 then .retired else .closed
                      closeOrder := s.lot.closeCounter, closeTime := some s.stc.clock } ∧
                  { t with lot.table := s.lot.table, lot.closeCounter := s.lot.closeCounter } = s))

/-! ### Lidding and bond check (chapter 4) -/

/-- LOAD-REEL (R63): BAD-ROLE at other roles, BAD-MODE in STARTING, BAD-VALUE for a reel id, flavour or lid count of 0;
otherwise STANDBY holds the reel, a lid count above 60,000 held at 60,000 and answered CLAMPED. ACTIVE and the cause set are
not touched. -/
def Obligations.LoadReelFillsStandby : Prop :=
  ∀ (h : CmdHead) (reel : BitVec 16) (flavour : BitVec 8) (useBy lids : BitVec 16) (s : State),
    s.port.restartPending = false → h.paramLen.toNat = 7 →
    let refused := fun st =>
      exec (.loadReel h reel flavour useBy lids) s = .next (putResponse h.tag 0x20#8 st [] s)
    (s.mode = .starting → refused .badMode) ∧
      (s.mode ≠ .starting → s.role ≠ .lidder → refused .badRole) ∧
      (s.mode ≠ .starting → s.role = .lidder →
        (reel = 0#16 ∨ flavour = 0#8 ∨ lids = 0#16 → refused .badValue) ∧
          (reel ≠ 0#16 → flavour ≠ 0#8 → lids ≠ 0#16 →
            exec (.loadReel h reel flavour useBy lids) s =
              .next (putResponse h.tag 0x20#8 (if 60000 < lids.toNat then .clamped else .ok) []
                { s with
                  lid.standby := some (Reel.mk reel.toNat flavour.toNat useBy.toNat (min 60000 lids.toNat)) })))

/-- SPLICE (R64): BAD-ROLE at other roles, BAD-MODE in STARTING, EMPTY with STANDBY absent; otherwise the ACTIVE record is
discarded, STANDBY's record becomes ACTIVE and STANDBY absent, answered OK, with no notice and no splice counted. -/
def Obligations.SpliceMovesStandbyToActive : Prop :=
  ∀ (h : CmdHead) (s : State), s.port.restartPending = false → h.paramLen.toNat = 0 →
    let refused := fun st => exec (.splice h) s = .next (putResponse h.tag 0x21#8 st [] s)
    (s.mode = .starting → refused .badMode) ∧
      (s.mode ≠ .starting → s.role ≠ .lidder → refused .badRole) ∧
      (s.mode ≠ .starting → s.role = .lidder →
        (s.lid.standby = none → refused .empty) ∧
          ∀ r, s.lid.standby = some r →
            exec (.splice h) s =
              .next (putResponse h.tag 0x21#8 .ok [] { s with lid.active := some r, lid.standby := none }))

/-- At LIDDER an index event brings a row with a pot to lid to the lid position (4.3): with no reel in either place every
pot to lid gains NO-LID and NO-LIDS joins the cause set and the notices; with an ACTIVE reel that does not match, every pot
gains LID-MISMATCH and LID-MISMATCH joins both; and with a matching ACTIVE reel holding lids enough, every pot to lid is
lidded and the reel's count falls by as many. With ACTIVE absent a reel in STANDBY is first drawn in by an automatic splice,
counted and with REEL-SPLICED, and the row is then checked against it. Where the pots to lid, in lane order, use up ACTIVE,
the splice is made at once: with no reel behind it, or one that does not match, the pots still to lid gain NO-LID and the
cause and notice are added, where there is such a pot; with a matching one the lidding goes on. At the bond position each
lidded pot of lanes 1 to N is sampled: a pass clears its lane's count, a fail adds BOND and counts, and the third in a row
trips the lane, with BOND and BOND-LANE (4.4). -/
def Obligations.LidPositionTreatsRow : Prop :=
  (∀ (presence bond : BitVec 8) (r : Row) (l : LotRec) (s : State), s.role = .lidder → takesCounts s = true →
     s.idx.debt = 0 → s.countsPerIndex ≤ s.idx.posCount + 1 → 1 ≤ s.lidPos → s.lidPos < s.bondPos →
     s.bondPos < s.gatePos → s.gatePos < s.windowLength → s.rowAt (s.lidPos - 1) = some r →
     r.body.needsLid = true → r.body.lot = some l.id → findLot s l.id = some l → s.rowAt (s.windowLength - 1) = none →
     sensedCount presence s.laneCount = 0 → s.rowAt (s.bondPos - 1) = none →
     (s.lid.active = none → s.lid.standby = none →
       ∃ t q, exec (.forwardCount presence bond) s = .next t ∧ t.rowAt s.lidPos = some q ∧
         q.body.pots = r.body.pots.map (Option.map (fun x => if x.toLid then x.mark .noLid else x)) ∧
         t.stc.causes = s.stc.causes ||| 0x08#8 ∧ t.latchedNotice .noLids = true ∧ t.lid = s.lid) ∧
       (∀ a, s.lid.active = some a → a.suits l = false →
         ∃ t q, exec (.forwardCount presence bond) s = .next t ∧ t.rowAt s.lidPos = some q ∧
           q.body.pots = r.body.pots.map (Option.map (fun x => x.mark .lidMismatch)) ∧
           t.stc.causes = s.stc.causes ||| 0x04#8 ∧ t.latchedNotice .lidMismatch = true ∧
           t.lid = { s.lid with mismatches := min 4294967295 (s.lid.mismatches + 1) }) ∧
       (∀ a, s.lid.active = some a → a.suits l = true →
         (r.body.pots.filter (fun o => o.any Pot.toLid)).length < a.lids →
         ∃ t q, exec (.forwardCount presence bond) s = .next t ∧ t.rowAt s.lidPos = some q ∧
           q.body.pots =
             r.body.pots.map (Option.map (fun x => if x.toLid then { x with lidded := true } else x)) ∧
           t.lid.active =
             some { a with lids := a.lids - (r.body.pots.filter (fun o => o.any Pot.toLid)).length } ∧
           t.lid.standby = s.lid.standby ∧ t.stc.causes = s.stc.causes ∧ t.stc.latched = s.stc.latched)) ∧
    (∀ (presence bond : BitVec 8) (r : Row) (l : LotRec) (b : Reel) (s : State),
       s.role = .lidder → takesCounts s = true → s.idx.debt = 0 → s.countsPerIndex ≤ s.idx.posCount + 1 →
       1 ≤ s.lidPos → s.lidPos < s.bondPos → s.bondPos < s.gatePos → s.gatePos < s.windowLength →
       s.rowAt (s.lidPos - 1) = some r → r.body.needsLid = true → r.body.lot = some l.id →
       findLot s l.id = some l → s.rowAt (s.windowLength - 1) = none → sensedCount presence s.laneCount = 0 →
       s.rowAt (s.bondPos - 1) = none → s.lid.active = none → s.lid.standby = some b →
         let n := (r.body.pots.filter (fun o => o.any Pot.toLid)).length
         (b.suits l = true → n < b.lids →
           ∃ t, exec (.forwardCount presence bond) s = .next t ∧
             (∃ q, t.rowAt s.lidPos = some q ∧
               q.body.pots = r.body.pots.map (Option.map (fun x => if x.toLid then { x with lidded := true } else x))) ∧
             t.lid = { s.lid with
               active := some { b with lids := b.lids - n }, standby := none
               splices := min 4294967295 (s.lid.splices + 1), applied := min 4294967295 (s.lid.applied + n) } ∧
             t.stc.latched = s.stc.latched ||| Notice.reelSpliced.mask ∧ t.stc.causes = s.stc.causes) ∧
           (b.suits l = false →
             ∃ t, exec (.forwardCount presence bond) s = .next t ∧
               (∃ q, t.rowAt s.lidPos = some q ∧
                 q.body.pots = r.body.pots.map (Option.map (fun x => x.mark .lidMismatch))) ∧
               t.lid = { s.lid with
                 active := some b, standby := none
                 splices := min 4294967295 (s.lid.splices + 1), mismatches := min 4294967295 (s.lid.mismatches + 1) } ∧
               t.stc.latched = s.stc.latched ||| Notice.reelSpliced.mask ||| Notice.lidMismatch.mask ∧
               t.stc.causes = s.stc.causes ||| 0x04#8)) ∧
    (∀ (presence bond : BitVec 8) (r : Row) (l : LotRec) (a : Reel) (s : State),
       s.role = .lidder → takesCounts s = true → s.idx.debt = 0 → s.countsPerIndex ≤ s.idx.posCount + 1 →
       1 ≤ s.lidPos → s.lidPos < s.bondPos → s.bondPos < s.gatePos → s.gatePos < s.windowLength →
       s.rowAt (s.lidPos - 1) = some r → r.body.needsLid = true → r.body.lot = some l.id →
       findLot s l.id = some l → s.rowAt (s.windowLength - 1) = none → sensedCount presence s.laneCount = 0 →
       s.rowAt (s.bondPos - 1) = none → s.lid.active = some a → a.suits l = true → 1 ≤ a.lids →
       a.lids ≤ (r.body.pots.filter (fun o => o.any Pot.toLid)).length →
         let n := (r.body.pots.filter (fun o => o.any Pot.toLid)).length
         let spliced := s.stc.latched ||| Notice.reelSpliced.mask
         let splices := min 4294967295 (s.lid.splices + 1)
         let firstLidded := fun (q : Row) => ∀ k, slotAt q.body.pots k =
           (slotAt r.body.pots k).map (fun x =>
             if x.toLid then
               if ((r.body.pots.take k).filter (fun o => o.any Pot.toLid)).length < a.lids then { x with lidded := true }
               else x.mark .noLid
             else x)
         (s.lid.standby = none →
           ∃ t, exec (.forwardCount presence bond) s = .next t ∧
             (∃ q, t.rowAt s.lidPos = some q ∧ firstLidded q) ∧
             t.lid = { s.lid with active := none, splices := splices, applied := min 4294967295 (s.lid.applied + a.lids) } ∧
             t.stc.latched = (if a.lids = n then spliced else spliced ||| Notice.noLids.mask) ∧
             t.stc.causes = (if a.lids = n then s.stc.causes else s.stc.causes ||| 0x08#8)) ∧
           (∀ b, s.lid.standby = some b →
             (b.suits l = true → n < a.lids + b.lids →
               ∃ t, exec (.forwardCount presence bond) s = .next t ∧
                 (∃ q, t.rowAt s.lidPos = some q ∧
                   q.body.pots = r.body.pots.map (Option.map (fun x => if x.toLid then { x with lidded := true } else x))) ∧
                 t.lid = { s.lid with
                   active := some { b with lids := b.lids - (n - a.lids) }, standby := none
                   splices := splices, applied := min 4294967295 (s.lid.applied + n) } ∧
                 t.stc.latched = spliced ∧ t.stc.causes = s.stc.causes) ∧
               (b.suits l = false →
                 ∃ t, exec (.forwardCount presence bond) s = .next t ∧
                   (∃ q, t.rowAt s.lidPos = some q ∧ firstLidded q) ∧
                   t.lid = { s.lid with
                     active := some b, standby := none, splices := splices
                     applied := min 4294967295 (s.lid.applied + a.lids)
                     mismatches := if a.lids = n then s.lid.mismatches else min 4294967295 (s.lid.mismatches + 1) } ∧
                   t.stc.latched = (if a.lids = n then spliced else spliced ||| Notice.lidMismatch.mask) ∧
                   t.stc.causes = (if a.lids = n then s.stc.causes else s.stc.causes ||| 0x04#8)))) ∧
    (∀ (presence bond : BitVec 8) (r : Row) (s : State),
       s.role = .lidder → takesCounts s = true → s.idx.debt = 0 → s.countsPerIndex ≤ s.idx.posCount + 1 →
       1 ≤ s.lidPos → s.lidPos < s.bondPos → s.bondPos < s.gatePos → s.gatePos < s.windowLength →
       s.rowAt (s.lidPos - 1) = none → s.rowAt (s.bondPos - 1) = some r → s.lid.fails.length = 8 →
       s.laneCount ≤ 8 →
         let sampled := fun (k : Nat) => k < s.laneCount && (slotAt r.body.pots k).any Pot.lidded
         let failed := fun (k : Nat) => sampled k && !bond.getLsbD k
         let trips := fun (k : Nat) => failed k && 2 ≤ s.lid.fails.getD k 0
         let n := ((List.range 8).filter failed).length
         ∃ t, exec (.forwardCount presence bond) s = .next t ∧
           (∃ q, t.rowAt s.bondPos = some q ∧
             ∀ k, slotAt q.body.pots k = (slotAt r.body.pots k).map (fun x => if failed k then x.mark .bond else x)) ∧
           (∀ k, k < 8 → t.lid.fails.getD k 0 =
             if !sampled k then s.lid.fails.getD k 0
             else if bond.getLsbD k || trips k then 0 else s.lid.fails.getD k 0 + 1) ∧
           (∀ k, k < 8 → t.lid.tripped.getLsbD k = (s.lid.tripped.getLsbD k || trips k)) ∧
           t.lid.bondFailures = (if n = 0 then s.lid.bondFailures else min 4294967295 (s.lid.bondFailures + n)) ∧
           t.lid.active = s.lid.active ∧ t.lid.standby = s.lid.standby ∧ t.lid.applied = s.lid.applied ∧
           (if (List.range 8).any trips then t.stc.causes = s.stc.causes ||| 0x10#8 ∧ t.latchedNotice .bondLane = true
           else t.stc.causes = s.stc.causes ∧ t.latchedNotice .bondLane = s.latchedNotice .bondLane))

/-! ### Trays (chapter 5) -/

/-- When the tray close time runs out the tray under construction closes short, taking the own number and the next tray
sequence as its tray id and joining the formed-tray queue; while the queue is full it stays, its close held back (5.2). An
exit sensor event takes the head of TRAYER's formed-tray queue or of CHILL's queue (5.4, 5.5): with the sending rule and the
main queue allowing it, the tray leaves in a TRAY-PASS with the next sequence; otherwise it is written off with OVERRUN.
With the queue empty the event is counted unmatched. The model's choice: the two exit rows of the table share one physical
line and act by the role (log entry 19). A row with pots that reaches the exit at TRAYER (1, The index event; 5.2) starts a
tray of its lot, or joins one of the same lot, its close time starting again; the tray closes complete when its rows reach
the setting, and a tray of another lot closes short first; with the formed-tray queue full the row is written off, its pots
lost, with OVERRUN. A close that is held back takes place when the exit makes a place, after room has been worked out with
the place free, a CREDIT placed for the rise in RUNNING (5.4). The time scale is the model's (log entry 3); room is worked
out once for each report (log entry 7). What a receiver ignores is sent as 0 (log entry 43). In DRAINING the tray under
construction closes short once the window holds no row with pots and the row arrivals list is empty (5.2), after the event's
own row has joined; with the formed-tray queue full that close is held back, and the tray stays. -/
def Obligations.TraysCloseAndLeave : Prop :=
  (((∀ (f : Forming) (d : Nat) (s : State), s.tray.forming = some f → f.deadline = some d →
        (s.tray.formed.length < 16 →
          ∃ t, exec .trayCloseTime s = .next t ∧
            t.tray = { s.tray with
              forming := none
              formed :=
                s.tray.formed ++ [{ f.tray with id := { origin := s.own, seq := s.tray.nextSeq }, short := true }]
              nextSeq := if s.tray.nextSeq = 1048575 then 1 else s.tray.nextSeq + 1 } ∧
            t.idx = s.idx ∧ t.lot = s.lot ∧ t.stc = s.stc ∧ t.hnd.room = roomOf t) ∧
          (16 ≤ s.tray.formed.length →
            ∃ t, exec .trayCloseTime s = .next t ∧
              t.tray = { s.tray with forming := some { f with deadline := none, closeDue := true } } ∧ t.idx = s.idx ∧
              t.lot = s.lot ∧ t.stc = s.stc)) ∧
      ((∀ (x : Tray) (rest : List Tray) (s : State), s.role = .trayer → s.mode ≠ .starting → s.tray.formed = x :: rest →
            s.tray.forming = none →
            (maySend s = true →
                ∃ t, exec .exitSensorEvent s = .next t ∧ t.tray = { s.tray with formed := rest } ∧
                  t.lnk.mainQ = s.lnk.mainQ ++ [frameTo s.downstream (.trayPass (writeTrayPass s.hnd.nextSeq x))] ∧
                  t.hnd.nextSeq = s.hnd.nextSeq + 1#16 ∧ t.stc = s.stc ∧ t.idx = s.idx) ∧
              (maySend s = false →
                ∃ t, exec .exitSensorEvent s = .next t ∧
                  t.tray = { s.tray with formed := rest, lost := min 4294967295 (s.tray.lost + 1) } ∧
                  t.lnk.mainQ = s.lnk.mainQ ∧ t.hnd.nextSeq = s.hnd.nextSeq ∧
                  t.stc.latched = s.stc.latched ||| Notice.overrun.mask ∧ t.idx = s.idx)) ∧
          (∀ (x : Tray) (rest : List Tray) (s : State), s.role = .chill → s.mode ≠ .starting → s.tray.queue = x :: rest →
            (maySend s = true →
                ∃ t, exec .chillExitSensorEvent s = .next t ∧ t.tray = { s.tray with queue := rest } ∧
                  t.lnk.mainQ = s.lnk.mainQ ++ [frameTo s.downstream (.trayPass (writeTrayPass s.hnd.nextSeq x))] ∧
                  t.hnd.nextSeq = s.hnd.nextSeq + 1#16 ∧ t.stc = s.stc) ∧
              (maySend s = false →
                ∃ t, exec .chillExitSensorEvent s = .next t ∧
                  t.tray = { s.tray with queue := rest, lost := min 4294967295 (s.tray.lost + 1) } ∧
                  t.lnk.mainQ = s.lnk.mainQ ∧ t.hnd.nextSeq = s.hnd.nextSeq ∧
                  t.stc.latched = s.stc.latched ||| Notice.overrun.mask)) ∧
          ∀ s : State, s.mode ≠ .starting →
            s.role = .trayer ∧ s.tray.formed = [] ∨ s.role = .chill ∧ s.tray.queue = [] →
            exec .exitSensorEvent s = .next { s with tray.unmatched := min 4294967295 (s.tray.unmatched + 1) } ∧
              exec .chillExitSensorEvent s = .next { s with tray.unmatched := min 4294967295 (s.tray.unmatched + 1) })) ∧
     (∀ (presence bond : BitVec 8) (r : Row) (s : State),
        s.role = .trayer → takesCounts s = true → s.idx.debt = 0 → s.countsPerIndex ≤ s.idx.posCount + 1 →
        s.rowAt (s.windowLength - 1) = some r → r.body.hasPots = true → s.tray.formed.length < 16 →
        s.tray.forming = none →
          ∃ t, exec (.forwardCount presence bond) s = .next t ∧ t.idx.lost = s.idx.lost ∧ t.hnd.room = roomOf t ∧
            (s.rowsPerTray ≠ 1 →
              ∃ x, TrayLeft s t s.tray.formed s.tray.nextSeq x ∧ x.short = false ∧
              x.lot = r.body.lot ∧ x.product = (lotOf s r.body.lot).map LotRec.product ∧
              x.useBy = (lotOf s r.body.lot).map LotRec.useBy ∧ x.rows = 1 ∧ x.pots = r.body.potCount ∧
              x.exposure = r.body.exposure ∧
              x.quarantine =
                (r.body.lot.isNone || r.body.uncertain ||
                  (lotOf s r.body.lot).any (fun l => l.allowance ≤ r.body.exposure))) ∧
            (s.rowsPerTray = 1 →
              t.tray.forming = none ∧ t.tray.nextSeq = (if s.tray.nextSeq = 1048575 then 1 else s.tray.nextSeq + 1) ∧
              ∃ x, t.tray.formed = s.tray.formed ++ [x] ∧
                x.id = { origin := s.own, seq := s.tray.nextSeq } ∧ x.short = false ∧
                x.lot = r.body.lot ∧ x.product = (lotOf s r.body.lot).map LotRec.product ∧
              x.useBy = (lotOf s r.body.lot).map LotRec.useBy ∧ x.rows = 1 ∧ x.pots = r.body.potCount ∧
              x.exposure = r.body.exposure ∧
              x.quarantine =
                (r.body.lot.isNone || r.body.uncertain ||
                  (lotOf s r.body.lot).any (fun l => l.allowance ≤ r.body.exposure)))) ∧
     (∀ (presence bond : BitVec 8) (r : Row) (f : Forming) (s : State),
        s.role = .trayer → takesCounts s = true → s.idx.debt = 0 → s.countsPerIndex ≤ s.idx.posCount + 1 →
        s.rowAt (s.windowLength - 1) = some r → r.body.hasPots = true → s.tray.formed.length < 16 →
        s.tray.forming = some f →
          ∃ t, exec (.forwardCount presence bond) s = .next t ∧ t.idx.lost = s.idx.lost ∧ t.hnd.room = roomOf t ∧
            (f.tray.lot = r.body.lot → f.tray.rows + 1 ≠ s.rowsPerTray →
              ∃ x, TrayLeft s t s.tray.formed s.tray.nextSeq x ∧
                x.lot = f.tray.lot ∧ x.product = f.tray.product ∧ x.useBy = f.tray.useBy ∧ x.rows = f.tray.rows + 1 ∧
                x.pots = f.tray.pots + r.body.potCount ∧ x.exposure = max f.tray.exposure r.body.exposure ∧
                x.short = f.tray.short ∧
                x.quarantine =
                  (f.tray.quarantine || r.body.uncertain ||
                    (lotOf s r.body.lot).any (fun l => l.allowance ≤ max f.tray.exposure r.body.exposure))) ∧
            (f.tray.lot = r.body.lot → f.tray.rows + 1 = s.rowsPerTray →
              t.tray.forming = none ∧ t.tray.nextSeq = (if s.tray.nextSeq = 1048575 then 1 else s.tray.nextSeq + 1) ∧
              ∃ x, t.tray.formed = s.tray.formed ++ [x] ∧ x.id = { origin := s.own, seq := s.tray.nextSeq } ∧
                x.lot = f.tray.lot ∧ x.product = f.tray.product ∧ x.useBy = f.tray.useBy ∧ x.rows = f.tray.rows + 1 ∧
                x.pots = f.tray.pots + r.body.potCount ∧ x.exposure = max f.tray.exposure r.body.exposure ∧
                x.short = f.tray.short ∧
                x.quarantine =
                  (f.tray.quarantine || r.body.uncertain ||
                    (lotOf s r.body.lot).any (fun l => l.allowance ≤ max f.tray.exposure r.body.exposure))) ∧
            (f.tray.lot ≠ r.body.lot → s.rowsPerTray ≠ 1 →
              ∃ x, TrayLeft s t (s.tray.formed ++ [{ f.tray with id := { origin := s.own, seq := s.tray.nextSeq }, short := true }]) (if s.tray.nextSeq = 1048575 then 1 else s.tray.nextSeq + 1) x ∧
                x.short = false ∧
              x.lot = r.body.lot ∧ x.product = (lotOf s r.body.lot).map LotRec.product ∧
              x.useBy = (lotOf s r.body.lot).map LotRec.useBy ∧ x.rows = 1 ∧ x.pots = r.body.potCount ∧
              x.exposure = r.body.exposure ∧
              x.quarantine =
                (r.body.lot.isNone || r.body.uncertain ||
                  (lotOf s r.body.lot).any (fun l => l.allowance ≤ r.body.exposure)))) ∧
     (∀ (presence bond : BitVec 8) (r : Row) (s : State),
        s.role = .trayer → takesCounts s = true → s.idx.debt = 0 → s.countsPerIndex ≤ s.idx.posCount + 1 →
        s.rowAt (s.windowLength - 1) = some r → r.body.hasPots = true → 16 ≤ s.tray.formed.length →
          ∃ t, exec (.forwardCount presence bond) s = .next t ∧ (s.mode ≠ .draining → t.tray = s.tray) ∧ t.tray.formed = s.tray.formed ∧
            t.tray.forming.map Forming.tray = s.tray.forming.map Forming.tray ∧
            t.idx.lost = min 4294967295 (s.idx.lost + r.body.potCount) ∧ t.latchedNotice .overrun = true) ∧
     (∀ (x : Tray) (rest : List Tray) (f : Forming) (s : State),
        s.role = .trayer → s.mode ≠ .starting → s.tray.formed = x :: rest → s.tray.forming = some f →
        f.closeDue = true → rest.length < 16 →
          ∃ t, exec .exitSensorEvent s = .next t ∧ t.tray.forming = none ∧
            t.tray.formed = rest ++ [{ f.tray with id := { origin := s.own, seq := s.tray.nextSeq }, short := true }] ∧
            t.tray.nextSeq = (if s.tray.nextSeq = 1048575 then 1 else s.tray.nextSeq + 1) ∧ t.hnd.room = roomOf t ∧
            (maySend s = true →
              t.tray.lost = s.tray.lost ∧ t.hnd.nextSeq = s.hnd.nextSeq + 1#16 ∧
                t.lnk.mainQ = s.lnk.mainQ ++ [frameTo s.downstream (.trayPass (writeTrayPass s.hnd.nextSeq x))] ∧ t.stc = s.stc) ∧
            (maySend s = false →
              t.tray.lost = min 4294967295 (s.tray.lost + 1) ∧ t.hnd.nextSeq = s.hnd.nextSeq ∧ t.lnk.mainQ = s.lnk.mainQ ∧
                t.stc.latched = s.stc.latched ||| Notice.overrun.mask) ∧
            (s.mode = .running → rest.length = 15 → s.hnd.room = 0 → s.hnd.rowArrivals.length < 8 → s.upstream ≠ 0 →
              let free := 8 - s.hnd.rowArrivals.length
              t.lnk.creditSlot =
                  some (frameTo s.upstream (.credit (s.hnd.expected + BitVec.ofNat 16 free) (BitVec.ofNat 8 free))) ∧
                t.hnd.room = 0))) ∧
    (∀ (presence bond : BitVec 8) (f : Forming) (s : State),
       s.role = .trayer → s.mode = .draining → s.idx.debt = 0 → s.countsPerIndex ≤ s.idx.posCount + 1 →
       1 ≤ s.windowLength → 1 ≤ s.gatePos → s.rowAt (s.windowLength - 1) = none →
       sensedCount presence s.laneCount = 0 → s.tray.forming = some f →
         ∃ t, exec (.forwardCount presence bond) s = .next t ∧ t.hnd.room = roomOf t ∧
           if t.hnd.rowArrivals = [] ∧ t.idx.window.all (fun o => !o.any (fun r => r.body.hasPots)) = true then
             t.tray =
               (if s.tray.formed.length < 16 then
                 { s.tray with
                   forming := none
                   formed := s.tray.formed ++ [{ f.tray with id := { origin := s.own, seq := s.tray.nextSeq }, short := true }]
                   nextSeq := (if s.tray.nextSeq = 1048575 then 1 else s.tray.nextSeq + 1) }
               else { s.tray with forming := some { f with closeDue := true } })
           else t.tray = s.tray)

/-- An infeed event at CHILL and DISPATCH (5.5, 5.6, 2): the oldest entry's tray joins the newest of CHILL's queue, or takes
the lowest-numbered free cell with the arrival order; with no entry CHILL places a tray (0, 0) with the quarantine flag,
counted stray, and the expected sequence advances; in CONFIGURING and SANITISING the tray is counted untracked and not
placed. The model's choice: the two infeed rows of the table share one physical line and act by the role (log entry 19).
DISPATCH routes a placed tray at once (7.3): a tray (0, 0) is ROUTE-HELD for the quarantine chamber, counted, with
ROUTE-FAILED; a quarantined tray goes to the quarantine chamber; otherwise the first OPEN ACTIVE entry that fits takes it,
one more assigned and FILLED at its quantity; and a tray that fits none goes to the stock chamber. A tray with no entry is
placed at DISPATCH as (0, 0), counted stray, and the expected sequence advances. With CHILL's queue or every cell full the
tray is counted lost with OVERRUN and not placed (5.3, 5.5, 5.6). -/
def Obligations.InfeedPlacesTray : Prop :=
  ((∀ (e : TrayEntry) (rest : List TrayEntry) (s : State), s.role = .chill →
       s.mode = .running ∨ s.mode = .held ∨ s.mode = .draining ∨ s.mode = .fault → s.hnd.trayArrivals = e :: rest →
       s.tray.queue.length < 48 →
       ∃ t x, exec .infeedSensorEvent s = .next t ∧ t.tray = { s.tray with queue := s.tray.queue ++ [x] } ∧
         x.id = e.tray.id ∧ x.lot = e.tray.lot ∧ x.exposure = e.tray.exposure ∧ t.hnd.trayArrivals = rest ∧
         t.hnd.expected = s.hnd.expected ∧ t.hnd.room = roomOf t ∧ t.stc = s.stc) ∧
     (∀ (e : TrayEntry) (rest : List TrayEntry) (i : Nat) (s : State), s.role = .dispatch →
       s.mode = .running ∨ s.mode = .held ∨ s.mode = .draining ∨ s.mode = .fault → s.hnd.trayArrivals = e :: rest →
       lowestFree s.tray.cells = some i →
       ∃ t c, exec .infeedSensorEvent s = .next t ∧ t.cellAt i = some c ∧ c.tray.id = e.tray.id ∧
         c.tray.lot = e.tray.lot ∧ c.tray.exposure = e.tray.exposure ∧ c.arrivalTime = s.stc.clock ∧
         c.arrivalOrder = s.tray.nextArrival ∧ c.tray.grant = none ∧ c.tray.retry = 0 ∧
         t.tray.nextArrival = nextOrder s.tray.nextArrival ∧ (∀ k, k ≠ i → t.cellAt k = s.cellAt k) ∧
         t.hnd.trayArrivals = rest ∧ t.hnd.expected = s.hnd.expected) ∧
     (∀ s : State, s.role = .chill → s.mode = .running ∨ s.mode = .held ∨ s.mode = .draining ∨ s.mode = .fault →
       s.hnd.trayArrivals = [] → s.tray.queue.length < 48 →
       ∃ t x, exec .infeedSensorEvent s = .next t ∧ t.tray.queue = s.tray.queue ++ [x] ∧
         x.id = { origin := 0, seq := 0 } ∧ x.quarantine = true ∧ x.lot = none ∧
         t.hnd.stray = min 4294967295 (s.hnd.stray + 1) ∧ t.hnd.expected = s.hnd.expected + 1#16) ∧
     ∀ s : State, s.role = .chill ∨ s.role = .dispatch → s.mode = .configuring ∨ s.mode = .sanitising →
       exec .infeedSensorEvent s = .next { s with tray.untracked := min 4294967295 (s.tray.untracked + 1) }) ∧
    (∀ (e : TrayEntry) (rest : List TrayEntry) (i : Nat) (s : State),
       s.role = .dispatch → s.mode = .running ∨ s.mode = .held ∨ s.mode = .draining ∨ s.mode = .fault →
       s.hnd.trayArrivals = e :: rest → lowestFree s.tray.cells = some i →
         let flagged := e.tray.quarantine || (lotOf s e.tray.lot).any (fun l => l.allowance ≤ e.tray.exposure)
         let fits := fun (o : OrderEntry) =>
           o.state = .opened && e.tray.product = some o.product && e.tray.useBy.any (fun d => o.minUseBy ≤ d) &&
             o.assigned < o.quantity
         ∃ t, exec .infeedSensorEvent s = .next t ∧ ∃ c, t.cellAt i = some c ∧ c.tray.quarantine = flagged ∧
           standbyBank t = standbyBank s ∧
           (e.tray.id = { origin := 0, seq := 0 } →
             c.tray.order = none ∧ c.tray.route = some s.quarantineChamber ∧ c.tray.dstate = .routeHeld ∧
               activeBank t = activeBank s ∧ t.stc.latched = s.stc.latched ||| Notice.routeFailed.mask ∧
               t.dsp.unnamedTrays = min 4294967295 (s.dsp.unnamedTrays + 1)) ∧
           (e.tray.id ≠ { origin := 0, seq := 0 } →
             c.tray.dstate = .unasked ∧ t.stc = s.stc ∧ t.dsp.unnamedTrays = s.dsp.unnamedTrays ∧
               (flagged = true →
                 c.tray.order = none ∧ c.tray.route = some s.quarantineChamber ∧ activeBank t = activeBank s) ∧
               (flagged = false →
                 ((∀ j o, slotAt (activeBank s) j = some o → fits o = false) →
                   c.tray.order = none ∧ c.tray.route = some s.stockChamber ∧ activeBank t = activeBank s) ∧
                   ∀ j o, slotAt (activeBank s) j = some o → fits o = true →
                     (∀ k q, slotAt (activeBank s) k = some q → k < j → fits q = false) →
                     c.tray.order = some o.order ∧
                       c.tray.route = some (if o.onAlternate then o.alternate else o.primary) ∧
                       c.tray.chambers = some (o.primary, o.alternate) ∧
                       activeBank t =
                         (activeBank s).set j
                           (some { o with
                             assigned := o.assigned + 1
                             state := if o.assigned + 1 = o.quantity then .filled else .opened })))) ∧
    (∀ (i : Nat) (s : State),
       s.role = .dispatch → s.mode = .running ∨ s.mode = .held ∨ s.mode = .draining ∨ s.mode = .fault →
       s.hnd.trayArrivals = [] → lowestFree s.tray.cells = some i →
         ∃ t, exec .infeedSensorEvent s = .next t ∧ ∃ c, t.cellAt i = some c ∧ c.tray.id = { origin := 0, seq := 0 } ∧
           c.tray.lot = none ∧ c.tray.product = none ∧ c.tray.useBy = none ∧ c.tray.rows = 1 ∧ c.tray.pots = 1 ∧
           c.tray.short = true ∧ c.tray.exposure = 0 ∧ c.tray.quarantine = true ∧ c.tray.order = none ∧
           c.tray.route = some s.quarantineChamber ∧ c.tray.dstate = .routeHeld ∧ c.arrivalTime = s.stc.clock ∧
           c.arrivalOrder = s.tray.nextArrival ∧ (∀ k, k ≠ i → t.cellAt k = s.cellAt k) ∧ t.hnd.trayArrivals = [] ∧
           t.hnd.stray = min 4294967295 (s.hnd.stray + 1) ∧ t.hnd.expected = s.hnd.expected + 1#16 ∧
           t.dsp.unnamedTrays = min 4294967295 (s.dsp.unnamedTrays + 1) ∧
           t.stc.latched = s.stc.latched ||| Notice.routeFailed.mask ∧ t.tray.lost = s.tray.lost) ∧
    (∀ (s : State),
       s.mode = .running ∨ s.mode = .held ∨ s.mode = .draining ∨ s.mode = .fault →
       s.role = .chill ∧ 48 ≤ s.tray.queue.length ∨ s.role = .dispatch ∧ lowestFree s.tray.cells = none →
         ∃ t, exec .infeedSensorEvent s = .next t ∧
           t.tray = { s.tray with lost := min 4294967295 (s.tray.lost + 1) } ∧
           t.stc.latched = s.stc.latched ||| Notice.overrun.mask ∧ t.dsp = s.dsp ∧
           (∀ e rest, s.hnd.trayArrivals = e :: rest →
             t.hnd.trayArrivals = rest ∧ t.hnd.stray = s.hnd.stray ∧ t.hnd.expected = s.hnd.expected) ∧
           (s.hnd.trayArrivals = [] →
             t.hnd.trayArrivals = [] ∧ t.hnd.stray = min 4294967295 (s.hnd.stray + 1) ∧
               t.hnd.expected = s.hnd.expected + 1#16 ∧ t.lot = s.lot))

/-! ### Exposure (chapter 6) -/

/-- A probe pulse is a reading (6.2): its width is kept up to 65535 µs, the miss timer starts again, a valid T10 makes the
probe OK with that last valid T10, and an invalid one is counted; and a miss is counted and makes an OK probe DEGRADED with
PROBE-FAULT and a DEGRADED probe at 4 in a row FAILED with PROBE-FAILED. A reading of width W converts to (W - W0) × G / 256
rounded to the nearest integer, halves away from zero; and a lot's increment is 0 at and below its reference, one for each
tenth above it up to the knee, and two for each tenth above the knee (6.2, 6.3). The time scale is the model's (log entry 3).
-/
def Obligations.ProbeReadingsAndIncrements : Prop :=
  ((∀ (width : Nat) (s : State), takesReadings s = true →
        let w := min 65535 width
        let t10 := convertReading w s.probeZero s.probeGain
        ∃ t, exec (.reading width) s = .next t ∧ t.exp.lastWidth = some w ∧
          t.exp.lastReading = some (.value t10 (validT10 t10)) ∧ t.exp.missAt = some (s.nowMs + 250) ∧
          (validT10 t10 = true →
            t.exp.probe = .ok ∧ t.exp.bad = 0 ∧ t.exp.lastValid = some t10 ∧ t.exp.invalid = s.exp.invalid ∧
              t.stc = s.stc) ∧
          (validT10 t10 = false →
            t.exp.lastValid = s.exp.lastValid ∧ t.exp.invalid = min 4294967295 (s.exp.invalid + 1)) ∧
          t.idx = s.idx ∧ t.hnd = s.hnd ∧ t.tray = s.tray ∧ t.lot = s.lot) ∧
      ∀ (d : Nat) (s : State), takesReadings s = true → s.exp.missAt = some d →
        ∃ t, exec .miss s = .next t ∧ t.exp.lastReading = some .miss ∧
          t.exp.missAt = some (max s.nowMs d + 250) ∧ t.exp.invalid = min 4294967295 (s.exp.invalid + 1) ∧
          t.exp.lastValid = s.exp.lastValid ∧
          (s.exp.probe = .ok → t.exp.probe = .degraded ∧ t.exp.bad = 1 ∧
            t.stc.latched = s.stc.latched ||| Notice.probeFault.mask) ∧
          (s.exp.probe = .degraded → s.exp.bad < 4 →
            t.exp.probe = .degraded ∧ t.exp.bad = s.exp.bad + 1 ∧ t.stc = s.stc) ∧
          (s.exp.probe = .degraded → 4 ≤ s.exp.bad →
            t.exp.probe = .failed ∧ t.exp.bad = 5 ∧ t.stc.latched = s.stc.latched ||| Notice.probeFailed.mask) ∧
          t.idx = s.idx ∧ t.hnd = s.hnd ∧ t.tray = s.tray ∧ t.lot = s.lot) ∧
    ((∀ w w0 g : Int,
          let m := convertReading w w0 g
          2 * |m * 256 - (w - w0) * g| ≤ 256 ∧ (2 * |m * 256 - (w - w0) * g| = 256 → |(w - w0) * g| < |m * 256|)) ∧
        ∀ (tref tk : Nat) (t10 : Int), tref ≤ tk →
          (t10 ≤ tref → increment tref tk t10 = 0) ∧
            (tref ≤ t10 → t10 ≤ tk → (increment tref tk t10 : Int) = t10 - tref) ∧
            (tk ≤ t10 → (increment tref tk t10 : Int) = (tk - tref) + 2 * (t10 - tk)))

/-- The station second (10.5, 6.4, 6.5): the clock advances by 1 modulo 2^32; every row and tray held, in every store, gains
its lot's increment at the zone temperature in use, up to 16,777,215, and one of absent lot gains nothing; the mode, the
notices, the lot table, the reels, the link, the chamber's tables and the trace ring stay. The time scale is the model's
(log entry 3). At DISPATCH a tray that gains the quarantine flag at the second is handed over (7.3): it leaves its order,
whose entry has one tray fewer, for the quarantine chamber; a series or a grant made without the flag is dropped; and a tray
that is RELEASING keeps all else. Then every OPEN entry of the ACTIVE bank whose cut-off is at or below the clock is CUT
(7.4); the STANDBY bank stays. At CHAMBER the second moves the clock alone. -/
def Obligations.StationSecondAccruesExposure : Prop :=
  (∀ s : State, s.role.holdsLots = true →
     ∃ t, exec .stationSecond s = .next t ∧ t.stc.clock = s.stc.clock + 1#32 ∧
       t.stc.secondAt = s.stc.secondAt + 1000 ∧ t.nowMs = max s.nowMs s.stc.secondAt ∧ t.stc.mode = s.stc.mode ∧
       t.stc.latched = s.stc.latched ∧
       (∀ p r, s.rowAt p = some r →
         ∃ q, t.rowAt p = some q ∧ q.number = r.number ∧ q.body.lot = r.body.lot ∧
           q.body.exposure = accrued s r.body.lot r.body.exposure) ∧
       t.hnd.rowArrivals.map (fun e => (e.seq, e.body.exposure)) =
         s.hnd.rowArrivals.map (fun e => (e.seq, accrued s e.body.lot e.body.exposure)) ∧
       t.hnd.trayArrivals.map (fun e => (e.seq, e.tray.exposure)) =
         s.hnd.trayArrivals.map (fun e => (e.seq, accrued s e.tray.lot e.tray.exposure)) ∧
       t.tray.forming.map (fun f => f.tray.exposure) =
         s.tray.forming.map (fun f => accrued s f.tray.lot f.tray.exposure) ∧
       t.tray.formed.map (fun x => (x.id, x.exposure)) = s.tray.formed.map (fun x => (x.id, accrued s x.lot x.exposure)) ∧
       t.tray.queue.map (fun x => (x.id, x.exposure)) = s.tray.queue.map (fun x => (x.id, accrued s x.lot x.exposure)) ∧
       (∀ i c, s.cellAt i = some c →
         ∃ d, t.cellAt i = some d ∧ d.tray.id = c.tray.id ∧ d.tray.exposure = accrued s c.tray.lot c.tray.exposure) ∧
       t.exp.fallbackSeconds =
         (if s.exp.probe = .failed then min 4294967295 (s.exp.fallbackSeconds + 1) else s.exp.fallbackSeconds) ∧
       t.hnd.expected = s.hnd.expected ∧ t.lid = s.lid ∧ t.lot = s.lot ∧ t.lnk = s.lnk ∧ t.adm = s.adm ∧ t.trc = s.trc) ∧
    (∀ (s : State),
       s.role = .dispatch →
         let now := s.stc.clock + 1#32
         let gains := fun (c : Cell) => !c.tray.quarantine &&
           (lotOf s c.tray.lot).any (fun l => l.allowance ≤ accrued s c.tray.lot c.tray.exposure)
         let taken := fun (j : Nat) =>
           (s.tray.cells.filter (fun b => b.any (fun c =>
             gains c && c.tray.dstate ≠ .releasing && entryIndex s c.tray.order = some j))).length
         ∃ t, exec .stationSecond s = .next t ∧ standbyBank t = standbyBank s ∧ t.dsp.swap = s.dsp.swap ∧
           t.dsp.release = s.dsp.release ∧
           (∀ j, (slotAt (activeBank t) j).isSome = (slotAt (activeBank s) j).isSome) ∧
           (∀ j o, slotAt (activeBank s) j = some o →
             slotAt (activeBank t) j =
               some { o with
                 assigned := o.assigned - taken j
                 state :=
                   if o.state = .filled ∧ taken j = 0 ∨ o.state = .cut then o.state
                   else if o.cutOff.toNat ≤ now.toNat then .cut else .opened }) ∧
           ∀ i c, s.cellAt i = some c → ∃ d, t.cellAt i = some d ∧ d.arrivalTime = c.arrivalTime ∧
             d.arrivalOrder = c.arrivalOrder ∧ d.tray.retry = c.tray.retry ∧
             d.tray.quarantine = (c.tray.quarantine || gains c) ∧
             (gains c = false ∨ c.tray.dstate = .releasing →
               d.tray.order = c.tray.order ∧ d.tray.route = c.tray.route ∧ d.tray.chambers = c.tray.chambers ∧
                 d.tray.dstate = c.tray.dstate ∧ d.tray.grant = c.tray.grant ∧
                 ∀ j x, s.slot j = some x → x.cell = i → t.slot j = some x) ∧
             (gains c = true → c.tray.dstate ≠ .releasing →
               d.tray.order = none ∧ d.tray.route = some s.quarantineChamber ∧ d.tray.chambers = none ∧
                 (c.tray.dstate = .unasked ∨ c.tray.dstate = .routeHeld →
                   d.tray.dstate = c.tray.dstate ∧ d.tray.grant = c.tray.grant) ∧
                 (c.tray.dstate = .granted →
                   (c.tray.grant.any Grant.marked = true → d.tray.dstate = .granted ∧ d.tray.grant = c.tray.grant) ∧
                     (c.tray.grant.any Grant.marked = false → d.tray.dstate = .unasked ∧ d.tray.grant = none)) ∧
                 (c.tray.dstate = .asking → ∀ j, slotOfCell s i = some j → ∀ x, s.slot j = some x →
                   (x.flagged = true → d.tray.dstate = .asking ∧ t.slot j = some x) ∧
                     (x.flagged = false → d.tray.dstate = .unasked ∧ t.slot j = none)))) ∧
    (∀ (s : State),
       s.role = .chamber →
         exec .stationSecond s =
           .next { s with
             stc.clock := s.stc.clock + 1#32
             stc.secondAt := s.stc.secondAt + 1000
             nowMs := max s.nowMs s.stc.secondAt })

/-! ### Dispatch (chapter 7) -/

/-- WRITE-ORDER at DISPATCH (7.2): BAD-MODE for the ACTIVE bank, BAD-VALUE for an index above 31 or a field out of range, and
otherwise the STANDBY entry is written, quantity held at 999 and assigned at the quantity, with the selector PRIMARY and OPEN
or FILLED by its counts, or emptied; the ACTIVE bank is not written. The model's choice: an EMPTY mark is the value 1, and
any other is not EMPTY (log entry 14). -/
def Obligations.WriteOrderFillsStandbyBank : Prop :=
  ∀ (h : CmdHead) (i : BitVec 8) (o : OrderFields) (s : State), PortReady h 19 s → s.role = .dispatch →
    let refused := fun bank mark st =>
      exec (.writeOrder h bank i mark o) s = .next (putResponse h.tag 0x30#8 st [] s)
    refused 1#8 0#8 .badMode ∧ refused 1#8 1#8 .badMode ∧
      (32 ≤ i.toNat → refused 0#8 0#8 .badValue ∧ refused 0#8 1#8 .badValue) ∧
      (i.toNat < 32 → s.dsp.bank0.length = 32 → s.dsp.bank1.length = 32 →
        (∃ t, exec (.writeOrder h 0#8 i 1#8 o) s = .next (putResponse h.tag 0x30#8 .ok [] t) ∧
            slotAt (standbyBank t) i.toNat = none ∧ activeBank t = activeBank s ∧ t.tray = s.tray) ∧
          (orderRefused o = true → refused 0#8 0#8 .badValue) ∧
          (orderRefused o = false →
            ∃ t e, exec (.writeOrder h 0#8 i 0#8 o) s =
                .next (putResponse h.tag 0x30#8
                  (if 999 < o.quantity.toNat ∨ o.quantity.toNat < o.assigned.toNat then .clamped else .ok) [] t) ∧
              slotAt (standbyBank t) i.toNat = some e ∧ e.order = o.order.toNat ∧ e.product = o.product.toNat ∧
              e.minUseBy = o.minUseBy.toNat ∧ e.quantity = min 999 o.quantity.toNat ∧
              e.assigned = min e.quantity o.assigned.toNat ∧ e.cutOff = o.cutOff ∧ e.primary = o.primary.toNat ∧
              e.alternate = o.alternate.toNat ∧ e.onAlternate = false ∧
              e.state = (if e.assigned < e.quantity then .opened else .filled) ∧
              (∀ k, k ≠ i.toNat → slotAt (standbyBank t) k = slotAt (standbyBank s) k) ∧
              activeBank t = activeBank s ∧ t.tray = s.tray ∧ t.dsp.slots = s.dsp.slots))

/-- SWAP-BOOK (R111): BAD-ROLE at other roles, BAD-MODE in STARTING, BAD-VALUE for a bank above 1; a bank that is ACTIVE
already changes nothing; otherwise the banks are exchanged, every entry of the new ACTIVE bank with its selector at PRIMARY
and all else as written, the old one as it stood; trays and series keep what they have. -/
def Obligations.SwapBookExchangesBanks : Prop :=
  ∀ (h : CmdHead) (bank : BitVec 8) (s : State), s.port.restartPending = false → h.paramLen.toNat = 1 →
    let refused := fun st => exec (.swapBook h bank) s = .next (putResponse h.tag 0x32#8 st [] s)
    (s.mode = .starting → refused .badMode) ∧
      (s.mode ≠ .starting → s.role ≠ .dispatch → refused .badRole) ∧
      (s.mode ≠ .starting → s.role = .dispatch →
        (1 < bank.toNat → refused .badValue) ∧
          (bank.toNat = (if s.dsp.swap then 1 else 0) →
            exec (.swapBook h bank) s = .next (putResponse h.tag 0x32#8 .ok [] s)) ∧
          (bank.toNat = (if s.dsp.swap then 0 else 1) →
            ∃ t, exec (.swapBook h bank) s = .next (putResponse h.tag 0x32#8 .ok [] t) ∧
              t.dsp.swap = !s.dsp.swap ∧ standbyBank t = activeBank s ∧
              activeBank t = (standbyBank s).map (Option.map (fun e => { e with onAlternate := false })) ∧
              { t with dsp.swap := s.dsp.swap, dsp.bank0 := s.dsp.bank0, dsp.bank1 := s.dsp.bank1 } = s))

/-- RETRY-TRAY and REMOVE-TRAY (R121): their refusals in order, BAD-ROLE and STARTING's BAD-MODE among them; a held tray is
retried with retry status 0 and state UNASKED, keeping its order and route; a removed tray is unassigned, its grant gone
with it, and leaves its cell counted lost and reported to LOT, room and the infeed permit worked out again, with no notice.
Room and the permit are worked out once, at the end of the step (log entry 7). -/
def Obligations.RetryAndRemoveTray : Prop :=
  ∀ (h : CmdHead) (cell : BitVec 8) (s : State), s.port.restartPending = false → h.paramLen.toNat = 1 →
    let retry := fun st => exec (.retryTray h cell) s = .next (putResponse h.tag 0x33#8 st [] s)
    let remove := fun st => exec (.removeTray h cell) s = .next (putResponse h.tag 0x34#8 st [] s)
    let i := cell.toNat - 1
    (s.mode = .starting → retry .badMode ∧ remove .badMode) ∧
      (s.mode ≠ .starting → s.role ≠ .dispatch → retry .badRole ∧ remove .badRole) ∧
      (s.mode ≠ .starting → s.role = .dispatch →
        (cell.toNat < 1 ∨ 12 < cell.toNat → retry .badValue ∧ remove .badValue) ∧
          (1 ≤ cell.toNat → cell.toNat ≤ 12 →
            (s.cellAt i = none → retry .empty ∧ remove .empty) ∧
              ∀ c, s.cellAt i = some c →
                (c.tray.dstate = .asking ∨ c.tray.dstate = .releasing → retry .busy ∧ remove .busy) ∧
                  (c.tray.dstate ≠ .asking → c.tray.dstate ≠ .releasing →
                    (c.tray.id = { origin := 0, seq := 0 } → retry .badValue) ∧
                      (c.tray.id ≠ { origin := 0, seq := 0 } → c.tray.dstate ≠ .routeHeld → retry .busy) ∧
                      (c.tray.id ≠ { origin := 0, seq := 0 } → c.tray.dstate = .routeHeld →
                        ∃ t, exec (.retryTray h cell) s = .next (putResponse h.tag 0x33#8 .ok [] t) ∧
                          t.cellAt i = some { c with tray := { c.tray with retry := 0, dstate := .unasked } } ∧
                          (∀ k, k ≠ i → t.cellAt k = s.cellAt k) ∧
                          { t with tray.cells := s.tray.cells } = s) ∧
                      ∃ t, exec (.removeTray h cell) s = .next (putResponse h.tag 0x34#8 .ok [] t) ∧
                        t.cellAt i = none ∧ (∀ k, k ≠ i → t.cellAt k = s.cellAt k) ∧
                        t.tray.lost = min 4294967295 (s.tray.lost + 1) ∧
                        t.lot = (lotDepart c.tray.lot s).lot ∧
                        activeBank t = activeBank (unassign c.tray.order s) ∧ t.stc = s.stc ∧
                        t.dsp.slots = s.dsp.slots ∧ t.hnd.room = roomOf t ∧ t.out.runPermit = permitOf t)))

/-- An attempt series begins for the RED UNASKED tray of lowest arrival order, or the UNASKED tray of lowest, in a free slot
(7.5): a tray that has an entry takes the entry's current chamber; where the peer table does not refuse the chamber, and the
tray is not projected spent, its MANIFEST and ADMIT-ASK are queued and the tray is ASKING with one attempt made; where it
refuses, no frame is queued and the route fails. The model's choices: the lowest IDLE slot is taken, and the asks are told
apart by a serial number of the model's own (log entry 18). What a receiver ignores is sent as 0 (log entry 43). A tray that
the projection finds spent gains the quarantine flag first (6.6, 7.5): it leaves its order, whose entry has one tray fewer
(7.3), and its MANIFEST, with the flag, and its ask go to the quarantine chamber, or its route fails there. -/
def Obligations.SeriesStartQueuesManifestAndAsk : Prop :=
  (∀ (i j chamber : Nat) (c : Cell) (s : State), seriesAllowed s = true → lowestFree s.dsp.slots = some j →
     redFirst s (fun x => x.tray.dstate = .unasked) = some i → s.cellAt i = some c →
     projectedSpent s c.tray = false ∨ c.tray.quarantine = true →
     let x : Tray :=
       match trayEntry s c.tray.order with
       | none => c.tray
       | some e => { c.tray with route := some e.current, chambers := some (e.primary, e.alternate) }
     x.route = some chamber →
     (peerRefuses s chamber = false →
       ∃ t y, exec .seriesStart s = .next t ∧
         t.lnk.mainQ =
           s.lnk.mainQ ++
             [frameTo chamber (.manifest (writeManifest x)),
               { target := chamber, payload := .admitAsk (writeTrayId x.id), serial := s.dsp.nextAsk }] ∧
         t.slot j = some y ∧ y.cell = i ∧ y.target = chamber ∧ y.attempts = 1 ∧ y.phase = .asking ∧
         y.flagged = c.tray.quarantine ∧ (∀ k, k ≠ j → t.slot k = s.slot k) ∧
         t.cellAt i = some { c with tray := { x with dstate := .asking } } ∧
         (∀ k, k ≠ i → t.cellAt k = s.cellAt k) ∧ t.stc = s.stc ∧ t.lot = s.lot ∧ t.trc = s.trc) ∧
       (peerRefuses s chamber = true → c.tray.retry ≤ 1 →
         ∃ t d, exec .seriesStart s = .next t ∧ t.lnk = s.lnk ∧ t.dsp.slots = s.dsp.slots ∧ t.cellAt i = some d ∧
           d.tray.retry = c.tray.retry + 1 ∧ d.tray.dstate = .unasked ∧
           t.dsp.routes = min 4294967295 (s.dsp.routes + 1))) ∧
    (∀ (i j : Nat) (c : Cell) (s : State),
       seriesAllowed s = true → lowestFree s.dsp.slots = some j →
       redFirst s (fun x => x.tray.dstate = .unasked) = some i → s.cellAt i = some c →
       projectedSpent s c.tray = true → c.tray.quarantine = false →
         let x : Tray :=
           { c.tray with quarantine := true, order := none, route := some s.quarantineChamber, chambers := none }
         (peerRefuses s s.quarantineChamber = false →
             ∃ t, exec .seriesStart s = .next t ∧ EntryLeft c.tray.order s t ∧
               t.lnk.mainQ =
                 s.lnk.mainQ ++
                   [frameTo s.quarantineChamber (.manifest (writeManifest x)),
                     { target := s.quarantineChamber, payload := .admitAsk (writeTrayId x.id), serial := s.dsp.nextAsk }] ∧
               (∃ y, t.slot j = some y ∧ y.cell = i ∧ y.target = s.quarantineChamber ∧ y.attempts = 1 ∧ y.phase = .asking ∧
                 y.flagged = true) ∧
               (∀ k, k ≠ j → t.slot k = s.slot k) ∧ t.cellAt i = some { c with tray := { x with dstate := .asking } } ∧
               (∀ k, k ≠ i → t.cellAt k = s.cellAt k) ∧ t.stc = s.stc ∧ t.lot = s.lot ∧ t.trc = s.trc) ∧
           (peerRefuses s s.quarantineChamber = true →
             ∃ t, exec .seriesStart s = .next t ∧ t.lnk = s.lnk ∧ t.dsp.slots = s.dsp.slots ∧ EntryLeft c.tray.order s t ∧
               (∀ k, k ≠ i → t.cellAt k = s.cellAt k) ∧
               (c.tray.retry ≤ 1 →
                 t.cellAt i = some { c with tray := { x with retry := c.tray.retry + 1 } } ∧
                   t.dsp.routes = min 4294967295 (s.dsp.routes + 1) ∧ t.stc = s.stc) ∧
               (2 ≤ c.tray.retry →
                 t.cellAt i = some { c with tray := { x with dstate := .routeHeld } } ∧ t.dsp.routes = s.dsp.routes ∧
                   t.stc.latched = s.stc.latched ||| Notice.routeFailed.mask)))

/-- An ADMIT-REPLY that meets a slot (7.5): GRANT makes the tray GRANTED by the series' chamber and the slot IDLE; DENY
fails the route; WAIT and WAIT-FULL move an ASKING slot below the attempt limit to BETWEEN and change nothing in BETWEEN.
One that meets no slot is counted unmatched, but for a GRANT of a chamber that has granted already. The time scale is the
model's (log entry 3). Of two slots with series for one id at one target the reply meets the lowest (log entry 40). DENY,
and WAIT or WAIT-FULL for an ASKING slot at the attempt limit, leave the slot IDLE and fail the route (7.5, 7.6): below
retry status 2 the tray waits UNASKED for its other order chamber, and its entry's selector turns where the entry's current
chamber is the one that failed; at 2 the tray is ROUTE-HELD with ROUTE-FAILED. -/
def Obligations.AdmitReplySettlesAttempt : Prop :=
  (∀ (src tgt : BitVec 5) (id : BitVec 32) (answer lane : BitVec 8) (s : State), TakenFrom .admitReply src tgt s →
     (∀ (j : Nat) (x : Slot) (c : Cell), replySlot s (readTrayId id) src.toNat = some j → s.slot j = some x →
         s.cellAt x.cell = some c →
         (answer = 3#8 → 1 ≤ lane.toNat → lane.toNat ≤ 8 →
             ∃ t g, exec (.admitReply src tgt id answer lane) s = .next t ∧ t.slot j = none ∧
               t.cellAt x.cell = some { c with tray := { c.tray with grant := some g, dstate := .granted } } ∧
               g.chamber = src.toNat ∧ g.lane = lane.toNat ∧ g.time = s.stc.clock ∧ g.marked = x.flagged ∧
               g.deadline = s.nowMs + s.grantMs ∧ t.dsp.grants = min 4294967295 (s.dsp.grants + 1) ∧
               t.lnk = s.lnk ∧ t.stc = s.stc) ∧
           (answer = 1#8 ∨ answer = 2#8 → x.phase = .asking → x.attempts < s.attemptLimit →
             ∃ t y, exec (.admitReply src tgt id answer lane) s = .next t ∧ t.slot j = some y ∧
               y.phase = .between ∧ y.repeatAt = some (s.nowMs + s.repeatMs) ∧ y.attempts = x.attempts ∧
               y.answerAt = none ∧ { t with dsp.slots := s.dsp.slots } = s) ∧
           (answer = 1#8 ∨ answer = 2#8 → x.phase = .between →
             exec (.admitReply src tgt id answer lane) s = .next s) ∧
           (answer = 4#8 → c.tray.retry ≤ 1 →
             ∃ t d, exec (.admitReply src tgt id answer lane) s = .next t ∧ t.slot j = none ∧
               t.cellAt x.cell = some d ∧ d.tray.retry = c.tray.retry + 1 ∧ d.tray.dstate = .unasked ∧
               d.tray.route = flippedRoute s c.tray ∧ t.dsp.routes = min 4294967295 (s.dsp.routes + 1)) ∧
           (answer = 4#8 → 2 ≤ c.tray.retry →
             ∃ t d, exec (.admitReply src tgt id answer lane) s = .next t ∧ t.slot j = none ∧
               t.cellAt x.cell = some d ∧ d.tray.dstate = .routeHeld ∧ t.latchedNotice .routeFailed = true)) ∧
       (replySlot s (readTrayId id) src.toNat = none ∧
             (answer ≠ 3#8 ∨ alreadyGranted s (readTrayId id) src.toNat = false) ∨
           Answer.ofCode answer.toNat = none ∨ answer = 3#8 ∧ (lane.toNat < 1 ∨ 8 < lane.toNat) →
         exec (.admitReply src tgt id answer lane) s =
           .next { s with dsp.unmatchedReplies := min 4294967295 (s.dsp.unmatchedReplies + 1) })) ∧
    (∀ (src tgt : BitVec 5) (id : BitVec 32) (answer lane : BitVec 8) (j : Nat) (x : Slot) (c : Cell) (s : State),
       TakenFrom .admitReply src tgt s → replySlot s (readTrayId id) src.toNat = some j → s.slot j = some x →
       s.cellAt x.cell = some c →
       answer = 4#8 ∨ (answer = 1#8 ∨ answer = 2#8) ∧ x.phase = .asking ∧ s.attemptLimit ≤ x.attempts →
         ∃ t, exec (.admitReply src tgt id answer lane) s = .next t ∧ t.slot j = none ∧ (∀ k, k ≠ j → t.slot k = s.slot k) ∧
           RouteFailed x.cell x.target c s t ∧ t.lnk = s.lnk ∧ t.lot = s.lot ∧ t.dsp.grants = s.dsp.grants)

/-- The timers of a request slot (7.5): an answer timer that runs out is an unanswered attempt, counted, and below the
attempt limit the slot goes to BETWEEN; a repeat timer that runs out queues the next ask, or leaves it due in the slot where
the main queue is full; and a due ask is queued when the queue gains room. A GRANTED tray whose grant lifetime runs out
drops the grant and becomes UNASKED, its retry status and route kept, counted in the expired grants (7.7). The model's
choices: the time scale (log entry 3) and the asks' serial number (log entry 18). An unanswered attempt at the attempt limit
is counted, leaves the slot IDLE and fails the route, the entry's selector turning where its current chamber is the one that
failed (7.6). -/
def Obligations.SlotAndGrantTimersRunOut : Prop :=
  (((∀ (n d : Nat) (x : Slot) (s : State), 1 ≤ n → s.slot (n - 1) = some x → x.answerAt = some d →
         x.attempts < s.attemptLimit →
         ∃ t, exec (.answerTimeout n) s = .next t ∧
           t.slot (n - 1) =
             some { x with
               phase := .between, answerAt := none, repeatAt := some (max s.nowMs d + s.repeatMs), askDue := false } ∧
           t.dsp.noAnswers = min 4294967295 (s.dsp.noAnswers + 1) ∧ t.lnk = s.lnk ∧ t.tray = s.tray) ∧
       (∀ (n d : Nat) (x : Slot) (c : Cell) (s : State), 1 ≤ n → s.slot (n - 1) = some x → x.repeatAt = some d →
         s.cellAt x.cell = some c →
         (askRoom s = true →
             ∃ t, exec (.repeatTimer n) s = .next t ∧
               t.lnk.mainQ =
                 s.lnk.mainQ ++
                   [{ target := x.target, payload := .admitAsk (writeTrayId c.tray.id), serial := s.dsp.nextAsk }] ∧
               t.slot (n - 1) =
                 some { x with
                   attempts := x.attempts + 1, phase := .asking, answerAt := none, repeatAt := none, askDue := false,
                   latestAsk := s.dsp.nextAsk } ∧
               t.tray = s.tray) ∧
           (askRoom s = false →
             ∃ t, exec (.repeatTimer n) s = .next t ∧ t.lnk = s.lnk ∧
               t.slot (n - 1) = some { x with repeatAt := none, askDue := true } ∧ t.tray = s.tray)) ∧
       ∀ (j : Nat) (x : Slot) (c : Cell) (s : State), s.dsp.slots.findIdx? (fun o => o.any Slot.askDue) = some j →
         s.slot j = some x → s.cellAt x.cell = some c → s.lnk.mainQ.length < 16 → s.dsp.pendingPass = none →
         ∃ t y, exec .dueAskQueued s = .next t ∧
           t.lnk.mainQ =
             s.lnk.mainQ ++
               [{ target := x.target, payload := .admitAsk (writeTrayId c.tray.id), serial := s.dsp.nextAsk }] ∧
           t.slot j = some y ∧ y.askDue = false ∧ y.attempts = x.attempts + 1 ∧ y.phase = .asking ∧ t.tray = s.tray) ∧
     (∀ (n : Nat) (c : Cell) (g : Grant) (s : State), 1 ≤ n → s.cellAt (n - 1) = some c → c.tray.grant = some g →
         c.tray.dstate = .granted →
         ∃ t, exec (.grantExpiry n) s = .next t ∧
           t.cellAt (n - 1) = some { c with tray := { c.tray with grant := none, dstate := .unasked } } ∧
           (∀ k, k ≠ n - 1 → t.cellAt k = s.cellAt k) ∧ t.nowMs = max s.nowMs g.deadline ∧
           { t with
               tray.cells := s.tray.cells
               nowMs := s.nowMs
               dsp.expiredGrants := s.dsp.expiredGrants } = s ∧
           t.dsp.expiredGrants = min 4294967295 (s.dsp.expiredGrants + 1))) ∧
    (∀ (n d : Nat) (x : Slot) (c : Cell) (s : State),
       1 ≤ n → s.slot (n - 1) = some x → x.answerAt = some d → s.attemptLimit ≤ x.attempts →
       s.cellAt x.cell = some c →
         ∃ t, exec (.answerTimeout n) s = .next t ∧ t.slot (n - 1) = none ∧ (∀ k, k ≠ n - 1 → t.slot k = s.slot k) ∧
           t.dsp.noAnswers = min 4294967295 (s.dsp.noAnswers + 1) ∧ t.nowMs = max s.nowMs d ∧
           RouteFailed x.cell x.target c s t ∧ t.lnk = s.lnk ∧ t.lot = s.lot)

/-- The arbiter drives the shuttle for the chosen candidate, a RED one where one is; the tray becomes RELEASING and the
shuttle timeout of 10 s runs (7.8, 7.9). Shuttle-done ends the release in flight: a trace entry is written, the tray's
TRAY-PASS with sequence 0 goes to the grant's chamber or waits for the main queue, the cell is empty and the tray is
reported to LOT; with no release in flight it is only counted. A shuttle timeout in RUNNING, HELD or DRAINING is FAULT; a
pending TRAY-PASS is queued when there is room (7.9, 10.4). The time scale is the model's (log entry 3). What a receiver
ignores is sent as 0 (log entry 43). A chosen tray that the projection finds spent gains the quarantine flag (6.6, 7.8): it
leaves its order, drops its grant and is UNASKED for the quarantine chamber, and the arbiter chooses again, so that no
release begins where no tray is then chosen. -/
def Obligations.ReleasesBeginAndEnd : Prop :=
  ((∀ (i : Nat) (c : Cell) (s : State), releaseAllowed s = true → chooseRelease s = some i → s.cellAt i = some c →
       projectedSpent s c.tray = false ∨ c.tray.quarantine = true →
       ∃ t, exec .releaseBegin s = .next t ∧ t.dsp.release = some i ∧ t.dsp.shuttleAt = some (s.nowMs + 10000) ∧
         t.cellAt i = some { c with tray := { c.tray with dstate := .releasing } } ∧
         (∀ k, k ≠ i → t.cellAt k = s.cellAt k) ∧ candidate c = true ∧
         ((∃ k d, s.cellAt k = some d ∧ candidate d = true ∧ d.tray.urgency = .red) → c.tray.urgency = .red) ∧
         t.lnk = s.lnk ∧ t.trc = s.trc ∧ t.stc = s.stc) ∧
     ((∀ (i : Nat) (c : Cell) (g : Grant) (s : State), s.role = .dispatch → s.dsp.release = some i →
           s.cellAt i = some c → c.tray.grant = some g → s.trc.entries.length < 128 →
           let f := frameTo g.chamber (.trayPass (writeTrayPass 0#16 c.tray))
           ∃ t, exec .shuttleDone s = .next t ∧ t.dsp.release = none ∧ t.dsp.shuttleAt = none ∧ t.cellAt i = none ∧
             t.trc.entries =
               s.trc.entries ++
                 [.release c.tray.id c.tray.lot c.tray.product c.tray.order g.chamber g.lane c.tray.exposure
                   c.tray.urgency s.stc.clock] ∧
             (s.lnk.mainQ.length < 16 → t.lnk.mainQ = s.lnk.mainQ ++ [f]) ∧
             (16 ≤ s.lnk.mainQ.length → t.dsp.pendingPass = some f) ∧
             t.dsp.releases = min 4294967295 (s.dsp.releases + 1) ∧ t.lot = (lotDepart c.tray.lot s).lot) ∧
         (∀ s : State, s.role = .dispatch → s.dsp.release = none →
           exec .shuttleDone s = .next { s with dsp.unexpectedDone := min 4294967295 (s.dsp.unexpectedDone + 1) }) ∧
         (∀ (d : Nat) (s : State), s.dsp.shuttleAt = some d → s.mode = .running ∨ s.mode = .held ∨ s.mode = .draining →
           ∃ t, exec .shuttleTimeout s = .next t ∧ t.mode = .fault ∧ t.stc.fault = some .shuttle ∧
             t.latchedNotice .stationFault = true ∧ t.dsp = { s.dsp with shuttleAt := none } ∧ t.tray = s.tray ∧
             t.out.runPermit = false ∧ t.stc.drainAt = none) ∧
         ∀ (f : Frame) (s : State), s.dsp.pendingPass = some f → s.lnk.mainQ.length < 16 →
           exec .pendingTrayPassQueued s = .next { s with dsp.pendingPass := none, lnk.mainQ := s.lnk.mainQ ++ [f] })) ∧
    (∀ (i : Nat) (c : Cell) (s : State),
       releaseAllowed s = true → chooseRelease s = some i → s.cellAt i = some c →
       projectedSpent s c.tray = true → c.tray.quarantine = false →
         let u := projectCell i s
         EntryLeft c.tray.order s u ∧
           u.cellAt i =
             some { c with tray := { c.tray with
               quarantine := true, order := none, route := some s.quarantineChamber, chambers := none, grant := none
               dstate := .unasked } } ∧
           (∀ k, k ≠ i → u.cellAt k = s.cellAt k) ∧ u.dsp.slots = s.dsp.slots ∧ u.dsp.release = none ∧ u.lnk = s.lnk ∧
           u.trc = s.trc ∧ u.stc = s.stc ∧ u.lot = s.lot ∧
           (chooseRelease u = none → exec .releaseBegin s = .next u) ∧
           (∀ k, chooseRelease u = some k → ∀ d, u.cellAt k = some d → projectedSpent u d.tray = false ∨ d.tray.quarantine = true →
             ∃ t, exec .releaseBegin s = .next t ∧ t.dsp.release = some k ∧ t.dsp.shuttleAt = some (s.nowMs + 10000) ∧
               t.cellAt k = some { d with tray := { d.tray with dstate := .releasing } } ∧
               (∀ m, m ≠ k → t.cellAt m = u.cellAt m) ∧ t.lnk = s.lnk ∧ t.trc = s.trc ∧ t.stc = s.stc))

/-! ### The trace ring (chapter 7) -/

/-- READ-TRACE and FREE-TRACE at DISPATCH and CHAMBER (7.11): EMPTY with no unread entry, otherwise the oldest unread entry
becomes read and is answered with the counts; EMPTY with no entry held, BUSY with the oldest unread, otherwise the oldest
leaves the ring. At DISPATCH nothing else changes. The trace ring keeps what it holds (7.11): whatever the command, but for a
hard reset, the held entries stay in their order with any new ones after them, or the oldest leaves by FREE-TRACE after it
has been read. -/
def Obligations.TraceRingKeepsReadsAndFrees : Prop :=
  (∀ (h : CmdHead) (s : State), PortReady h 0 s → s.role = .dispatch ∨ s.role = .chamber →
      (s.trc.entries.length ≤ s.trc.readCount →
        exec (.readTrace h) s = .next (putResponse h.tag 0x35#8 .empty [] s)) ∧
        (∀ e, s.trc.entries[s.trc.readCount]? = some e →
          let t : State :=
            { s with trc.readCount := s.trc.readCount + 1, trc.readPos := (s.trc.readPos + 1) % 128 }
          exec (.readTrace h) s = .next (putResponse h.tag 0x35#8 .ok (traceRecord s e) t)) ∧
        (s.trc.entries = [] → exec (.freeTrace h) s = .next (putResponse h.tag 0x36#8 .empty [] s)) ∧
        (s.trc.entries ≠ [] → s.trc.readCount = 0 →
          exec (.freeTrace h) s = .next (putResponse h.tag 0x36#8 .busy [] s)) ∧
        ∀ e rest, s.trc.entries = e :: rest → 1 ≤ s.trc.readCount →
          ∃ t, exec (.freeTrace h) s = .next (putResponse h.tag 0x36#8 .ok [] t) ∧
            t.trc = { s.trc with entries := rest, readCount := s.trc.readCount - 1 } ∧
            (s.role = .dispatch → { t with trc := s.trc } = s)) ∧
    (∀ (c : Instr) (s t : State), c ≠ .hardReset → exec c s = .next t →
        (∃ new, t.trc.entries = s.trc.entries ++ new) ∨
          (∃ h, c = .freeTrace h) ∧ 1 ≤ s.trc.readCount ∧ t.trc.entries = s.trc.entries.tail)

/-! ### Cold-store admission (chapter 8) -/

/-- WRITE-LANE at CHAMBER (8.2): BAD-VALUE for a use that is none before the mode is looked at (11.2, 12.2), BAD-MODE
outside CONFIGURING; there BAD-VALUE for a lane outside 1 to 8 or an order another ORDERS lane holds; otherwise the lane is
written, capacity moved into 1 to 500, then occupancy held at the capacity, with the order kept for an ORDERS lane only; the
reserved count and every other lane stay. The working sum is the store's afterwards (10.1, log entry 21). -/
def Obligations.WriteLaneSetsLane : Prop :=
  (∀ (h : CmdHead) (lane use : BitVec 8) (capacity occupancy order : BitVec 16) (s : State), PortReady h 8 s →
      s.role = .chamber →
      let refused := fun st =>
        exec (.writeLane h lane use capacity occupancy order) s = .next (putResponse h.tag 0x38#8 st [] s)
      (3 < use.toNat → refused .badValue) ∧ (use.toNat ≤ 3 → s.mode ≠ .configuring → refused .badMode)) ∧
  ∀ (h : CmdHead) (lane use : BitVec 8) (capacity occupancy order : BitVec 16) (s : State), PortReady h 8 s →
    s.role = .chamber → s.mode = .configuring → use.toNat ≤ 3 → s.adm.lanes.length = 8 →
    let refused := fun st =>
      exec (.writeLane h lane use capacity occupancy order) s = .next (putResponse h.tag 0x38#8 st [] s)
    let n := lane.toNat
    (n < 1 ∨ 8 < n → refused .badValue) ∧
      (1 ≤ n → n ≤ 8 →
        (order ≠ 0#16 → (∃ k l, k ≠ n ∧ s.lane k = some l ∧ l.use = .orders ∧ l.order = some order.toNat) →
          refused .badValue) ∧
          (order = 0#16 ∨ (∀ k l, k ≠ n → s.lane k = some l → l.use = .orders → l.order ≠ some order.toNat) →
            ∃ t old new, exec (.writeLane h lane use capacity occupancy order) s =
                .next (putResponse h.tag 0x38#8
                  (if capacity.toNat < 1 ∨ 500 < capacity.toNat ∨ capacity.toNat < occupancy.toNat then .clamped
                  else .ok) [] t) ∧
              s.lane n = some old ∧ t.lane n = some new ∧ new.use.code = use.toNat ∧
              new.capacity = max 1 (min 500 capacity.toNat) ∧ new.occupancy = min new.capacity occupancy.toNat ∧
              new.reserved = old.reserved ∧
              new.order = (if new.use = .orders ∧ order ≠ 0#16 then some order.toNat else none) ∧
              (∀ k, k ≠ n → t.lane k = s.lane k) ∧
              t.stc.workingSum = wordSum (storeWords t.stc.settings t.stc.products t.stc.transitions t.adm.lanes) ∧
              t.adm.table = s.adm.table ∧ t.lot = s.lot ∧ t.lnk = s.lnk))

/-- DRAWDOWN (R145): BAD-ROLE at other roles, BAD-MODE in STARTING, BAD-VALUE for a lane outside 1 to 8 or a count outside 1
to 500; otherwise the lane's occupancy falls by the count, to 0 and CLAMPED where the count is above it; the reserved count
and the entries stay, but for what serving then does after an occupancy was lowered; and an ORDERS lane whose occupancy and
reserved are both 0 loses its order. -/
def Obligations.DrawdownLowersOccupancyAndServes : Prop :=
  ∀ (h : CmdHead) (lane : BitVec 8) (count : BitVec 16) (s : State), s.port.restartPending = false →
    h.paramLen.toNat = 3 → s.adm.lanes.length = 8 →
    let refused := fun st => exec (.drawdown h lane count) s = .next (putResponse h.tag 0x3B#8 st [] s)
    let n := lane.toNat
    let k := count.toNat
    (s.mode = .starting → refused .badMode) ∧
      (s.mode ≠ .starting → s.role ≠ .chamber → refused .badRole) ∧
      (s.mode ≠ .starting → s.role = .chamber →
        (n < 1 ∨ 8 < n ∨ k = 0 ∨ 500 < k → refused .badValue) ∧
          ∀ l, s.lane n = some l → 1 ≤ k → k ≤ 500 →
            ∃ d, (∀ m, m ≠ n → d.lane m = s.lane m) ∧
              d.lane n =
                some { l with
                  occupancy := l.occupancy - k
                  order := if l.use = .orders ∧ l.occupancy - k = 0 ∧ l.reserved = 0 then none else l.order } ∧
              { d with adm.lanes := s.adm.lanes } = s ∧
              exec (.drawdown h lane count) s =
                .next (putResponse h.tag 0x3B#8 (if l.occupancy < k then .clamped else .ok) []
                  (if 1 ≤ l.occupancy then serve d else d)))

/-- A MANIFEST at CHAMBER (8.3): one for a tray id not held takes the lowest free entry, received now; one for a tray whose
manifest is held replaces it; a full table drops it, counted, with MANIFEST-FULL; and in SANITISING it is dropped and
counted. The time scale of the lifetime is the model's (log entry 3). A replacing manifest meets the entry of its tray: an
INBOUND one is kept; one with the same quarantine flag and order id takes the manifest's urgency; another is withdrawn and
counted, its lane giving up the reservation unless it was PENDING, and ADM then serves. -/
def Obligations.ManifestIsStoredOrDropped : Prop :=
  (∀ (src tgt : BitVec 5) (p : ManifestFields) (s : State), TakenFrom .manifest src tgt s →
     let dropped : State := { s with adm.manifestDropped := min 4294967295 (s.adm.manifestDropped + 1) }
     let id := readTrayId p.trayId
     (s.mode = .sanitising → exec (.manifest src tgt p) s = .next dropped) ∧
       (s.mode ≠ .sanitising → manifestIndex s id = none →
         (lowestFree s.adm.manifests = none →
           exec (.manifest src tgt p) s = .next (latch .manifestFull dropped)) ∧
           ∀ i, lowestFree s.adm.manifests = some i →
             ∃ m, exec (.manifest src tgt p) s =
                 .next { s with adm.manifests := s.adm.manifests.set i (some m) } ∧
               m.tray = id ∧ m.requester = src.toNat ∧ m.lot = optId p.lot.toNat ∧ m.order = optId p.order.toNat ∧
               m.exposure = p.exposure.toNat ∧ m.quarantine = p.flags.getLsbD 1 ∧ m.received = s.stc.clock ∧
               m.since = s.nowMs) ∧
       (∀ i, s.mode ≠ .sanitising → manifestIndex s id = some i → admissionIndex s id = none →
         ∃ m, exec (.manifest src tgt p) s =
             .next { s with adm.manifests := s.adm.manifests.set i (some m) } ∧ m.tray = id ∧
           m.requester = src.toNat ∧ m.order = optId p.order.toNat ∧ m.received = s.stc.clock)) ∧
    (∀ (src tgt : BitVec 5) (p : ManifestFields) (i j : Nat) (e : Admission) (s : State),
       TakenFrom .manifest src tgt s → s.mode ≠ .sanitising → manifestIndex s (readTrayId p.trayId) = some i →
       admissionIndex s (readTrayId p.trayId) = some j → s.admission j = some e →
         let same := decide (e.quarantine = p.flags.getLsbD 1 ∧ e.order = optId p.order.toNat)
         let kept := fun (u : State) =>
           ∃ m, slotAt u.adm.manifests i = some m ∧ m.tray = readTrayId p.trayId ∧ m.requester = src.toNat ∧
             m.lot = optId p.lot.toNat ∧ m.order = optId p.order.toNat ∧ m.quarantine = p.flags.getLsbD 1 ∧
             m.exposure = p.exposure.toNat ∧ m.received = s.stc.clock ∧ m.since = s.nowMs ∧
             u.adm.manifests = s.adm.manifests.set i (some m)
         (e.state = .inbound →
           ∃ t, exec (.manifest src tgt p) s = .next t ∧ kept t ∧
             { t with adm.manifests := s.adm.manifests } = s) ∧
           (e.state ≠ .inbound → same = true →
             ∃ t, exec (.manifest src tgt p) s = .next t ∧ kept t ∧
               t.admission j = some { e with urgency := Urgency.ofCode (p.flags.toNat / 4 % 4) } ∧
               (∀ k, k ≠ j → t.admission k = s.admission k) ∧
               { t with adm.manifests := s.adm.manifests, adm.table := s.adm.table } = s) ∧
           (e.state ≠ .inbound → same = false →
             ∃ u, exec (.manifest src tgt p) s = .next (serve u) ∧ kept u ∧ u.admission j = none ∧
               (∀ k, k ≠ j → u.admission k = s.admission k) ∧
               u.adm.withdrawn = min 4294967295 (s.adm.withdrawn + 1) ∧
               (∀ n, u.lane n =
                 if e.state ≠ .pending ∧ n = e.laneNo then
                   (s.lane n).map (fun l =>
                     { l with
                       reserved := l.reserved - 1
                       order := if l.use = .orders ∧ l.occupancy + (l.reserved - 1) = 0 then none else l.order })
                 else s.lane n) ∧
               { u with
                   adm.manifests := s.adm.manifests
                   adm.table := s.adm.table
                   adm.lanes := s.adm.lanes
                   adm.withdrawn := s.adm.withdrawn } = s))

/-- An ADMIT-ASK at CHAMBER (8.5): with the answer queue full it is counted unanswered and no more; in CONFIGURING,
SANITISING and FAULT the answer is DENY; for a tray with an entry it is WAIT while PENDING, and GRANT with the lane for the
others, a READY entry becoming CLAIMED; for a tray with none it is DENY in DRAINING, WAIT-FULL with the table full, WAIT
with no manifest, and DENY where no lane has the use it needs. The time scale of the windows is the model's (log entry 3).
Otherwise a PENDING entry is made with the manifest's fields and the next creation order, the answer is WAIT, and ADM
serves. Serving (8.6) does nothing outside RUNNING or where the reserved total leaves no trace entry free. A placement (8.2)
is the roomiest available lane of the needed use, the lowest on a tie, the order's own lane, or the lowest empty ORDERS
lane. The PENDING entry that ranks first, a RED one before the others and then the lowest creation order, becomes READY with
its lane, which reserves one more and takes its order; where it has no lane the next one is served. The ask's tray id goes
back as carried (log entry 35). -/
def Obligations.AdmitAskIsAnswered : Prop :=
  (∀ (src tgt : BitVec 5) (id : BitVec 32) (s : State), TakenFrom .admitAsk src tgt s →
     let reply := fun (a lane : BitVec 8) => frameTo src.toNat (.admitReply id a lane)
     let answered := fun (a lane : BitVec 8) =>
       exec (.admitAsk src tgt id) s = .next { s with lnk.answerQ := s.lnk.answerQ ++ [reply a lane] }
     (8 ≤ s.lnk.answerQ.length →
       exec (.admitAsk src tgt id) s =
         .next { s with adm.unansweredAsks := min 4294967295 (s.adm.unansweredAsks + 1) }) ∧
       (s.lnk.answerQ.length < 8 →
         (s.mode = .configuring ∨ s.mode = .sanitising ∨ s.mode = .fault → answered 4#8 0#8) ∧
           (s.mode = .running ∨ s.mode = .held ∨ s.mode = .draining →
             (∀ i e, admissionIndex s (readTrayId id) = some i → s.admission i = some e →
               (e.state = .pending →
                 ∃ t, exec (.admitAsk src tgt id) s = .next t ∧
                   t.lnk.answerQ = s.lnk.answerQ ++ [reply 1#8 0#8] ∧
                   t.admission i = some { e with lastAsk := s.stc.clock, askSince := s.nowMs }) ∧
                 (e.state = .ready →
                   ∃ t, exec (.admitAsk src tgt id) s = .next t ∧
                     t.lnk.answerQ = s.lnk.answerQ ++ [reply 3#8 (BitVec.ofNat 8 e.laneNo)] ∧
                     t.admission i =
                       some { e with
                         state := .claimed, stateTime := s.stc.clock, claimTime := some s.stc.clock,
                         stateSince := s.nowMs, claimSince := s.nowMs } ∧
                     t.adm.lanes = s.adm.lanes) ∧
                 (e.state = .claimed ∨ e.state = .inbound → answered 3#8 (BitVec.ofNat 8 e.laneNo))) ∧
               (admissionIndex s (readTrayId id) = none →
                 (s.mode = .draining → answered 4#8 0#8) ∧
                   (s.mode ≠ .draining →
                     (lowestFree s.adm.table = none → answered 2#8 0#8) ∧
                       (lowestFree s.adm.table ≠ none →
                         (manifestOf s (readTrayId id) = none → answered 1#8 0#8) ∧
                           ∀ m, manifestOf s (readTrayId id) = some m →
                             (hasLaneFor s (neededUse m.quarantine m.order) = false → answered 4#8 0#8) ∧
                               (hasLaneFor s (neededUse m.quarantine m.order) = true →
                                 ∃ t, exec (.admitAsk src tgt id) s = .next t ∧
                                   t.lnk.answerQ = s.lnk.answerQ ++ [reply 1#8 0#8] ∧
                                   t.adm.nextCreation = nextOrder s.adm.nextCreation ∧ t.lot = s.lot))))))) ∧
    (∀ (src tgt : BitVec 5) (id : BitVec 32) (i : Nat) (m : Manifest) (s : State),
       TakenFrom .admitAsk src tgt s → s.lnk.answerQ.length < 8 → s.mode = .running ∨ s.mode = .held →
       admissionIndex s (readTrayId id) = none → lowestFree s.adm.table = some i →
       manifestOf s (readTrayId id) = some m → hasLaneFor s (neededUse m.quarantine m.order) = true →
         let made : Admission :=
           { tray := m.tray, requester := m.requester, order := m.order, quarantine := m.quarantine, urgency := m.urgency,
             state := .pending, lane := none, stateTime := s.stc.clock, claimTime := none, lastAsk := s.stc.clock,
             creation := s.adm.nextCreation, inbound := none, stateSince := s.nowMs, claimSince := 0, askSince := s.nowMs }
         exec (.admitAsk src tgt id) s =
           .next (serve { s with
             lnk.answerQ := s.lnk.answerQ ++ [frameTo src.toNat (.admitReply id 1#8 0#8)]
             adm.table := s.adm.table.set i (some made)
             adm.nextCreation := nextOrder s.adm.nextCreation })) ∧
    (∀ (s : State),
       s.role ≠ .chamber ∨ s.mode ≠ .running ∨ traceFree s ≤ reservedTotal s →
         serve s = s) ∧
    (∀ (lanes : List Lane) (quarantine : Bool) (order : Option Nat),
       quarantine = true ∨ order = none →
         let use := if quarantine then LaneUse.quarantine else .stock
         let avail := fun (l : Lane) => decide (l.use = use ∧ l.occupancy + l.reserved < l.capacity)
         let free := fun (l : Lane) => l.capacity - l.occupancy - l.reserved
         (lanes.any avail = false → placement lanes quarantine order = none) ∧
           ∀ i l, lanes[i]? = some l → avail l = true →
             (∀ k m, lanes[k]? = some m → avail m = true → free m ≤ free l ∧ (free m = free l → i ≤ k)) →
             placement lanes quarantine order = some (i + 1)) ∧
    (∀ (lanes : List Lane) (order : Nat),
       let holds := fun (l : Lane) => decide (l.use = .orders ∧ l.order = some order)
       let empty := fun (l : Lane) => decide (l.use = .orders ∧ l.occupancy + l.reserved = 0)
       (∀ i l, lanes[i]? = some l → holds l = true → (∀ k m, lanes[k]? = some m → k < i → holds m = false) →
         placement lanes false (some order) = if l.occupancy + l.reserved < l.capacity then some (i + 1) else none) ∧
         (lanes.any holds = false →
           (lanes.any empty = false → placement lanes false (some order) = none) ∧
             ∀ i l, lanes[i]? = some l → empty l = true → (∀ k m, lanes[k]? = some m → k < i → empty m = false) →
               placement lanes false (some order) = some (i + 1))) ∧
    (∀ (i n : Nat) (e : Admission) (s : State),
       s.role = .chamber → s.mode = .running → s.admission i = some e → e.state = .pending →
       placement s.adm.lanes e.quarantine e.order = some n → traceFree s = reservedTotal s + 1 →
       (∀ k d, s.admission k = some d → d.state = .pending → k ≠ i →
           e.urgency = .red ∧ d.urgency ≠ .red ∨
             (e.urgency = .red ↔ d.urgency = .red) ∧ orderBefore e.creation d.creation = true) →
         (serve s).admission i =
             some { e with state := .ready, lane := some n, stateTime := s.stc.clock, stateSince := s.nowMs } ∧
           (∀ k, k ≠ i → (serve s).admission k = s.admission k) ∧
           (∀ k, (serve s).lane k =
             if k = n then
               (s.lane n).map (fun l =>
                 { l with
                   reserved := l.reserved + 1
                   order := if e.quarantine = false ∧ e.order ≠ none then e.order else l.order })
             else s.lane k) ∧
           { serve s with adm.table := s.adm.table, adm.lanes := s.adm.lanes } = s) ∧
    (∀ (i j n : Nat) (e d : Admission) (s : State),
       s.role = .chamber → s.mode = .running → traceFree s = reservedTotal s + 1 → s.admission i = some e →
       e.state = .pending → placement s.adm.lanes e.quarantine e.order = none → s.admission j = some d →
       d.state = .pending → j ≠ i → placement s.adm.lanes d.quarantine d.order = some n →
       (∀ k x, s.admission k = some x → x.state = .pending → k = i ∨ k = j) →
         (serve s).admission j =
             some { d with state := .ready, lane := some n, stateTime := s.stc.clock, stateSince := s.nowMs } ∧
           ∀ k, k ≠ j → (serve s).admission k = s.admission k)

/-- The windows of an admission entry (8.5, 8.7): a PENDING entry whose manifest lifetime has passed since its last ask is
removed and counted; a READY entry at its claim window gives its room back and is removed with UNCLAIMED; a CLAIMED or
INBOUND one at its arrival window is written to the trace ring as MISSING and removed with TRAY-MISSING; a manifest whose
tray has no entry expires. The time scale is the model's (log entry 3). In every mode, RUNNING among them, what is left is
the state served: with the entry and its tray's manifest gone (8.3), its lane one reservation lower and every other entry
and lane as it was. -/
def Obligations.AdmissionWindowsEndEntries : Prop :=
  ((∀ (i : Nat) (e : Admission) (s : State), s.admission i = some e → e.state = .pending →
       ∃ t, exec (.pendingLapse i) s = .next t ∧ t.admission i = none ∧ (∀ k, k ≠ i → t.admission k = s.admission k) ∧
         t.adm.lapsed = min 4294967295 (s.adm.lapsed + 1) ∧ t.adm.lanes = s.adm.lanes ∧ t.stc = s.stc) ∧
     (∀ (i : Nat) (e : Admission) (s : State), s.admission i = some e → e.state = .ready →
       ∃ t, exec (.claimWindow i) s = .next t ∧ t.admission i = none ∧
         t.adm.unclaimed = min 4294967295 (s.adm.unclaimed + 1) ∧ t.latchedNotice .unclaimed = true ∧ t.trc = s.trc ∧
         (s.mode ≠ .running →
           (∀ k, k ≠ i → t.admission k = s.admission k) ∧
             t.lane e.laneNo = (s.lane e.laneNo).map Lane.release)) ∧
     (∀ (i : Nat) (e : Admission) (s : State), s.admission i = some e → e.state = .claimed ∨ e.state = .inbound →
       s.trc.entries.length < 128 →
       let lot := (manifestOf s e.tray).bind Manifest.lot
       ∃ t, exec (.arrivalWindow i) s = .next t ∧ t.admission i = none ∧
         t.trc.entries = s.trc.entries ++ [.chamber e.tray .missing e.lane lot s.stc.clock] ∧
         t.adm.missing = min 4294967295 (s.adm.missing + 1) ∧ t.latchedNotice .trayMissing = true ∧
         (s.mode ≠ .running →
           (∀ k, k ≠ i → t.admission k = s.admission k) ∧
             t.lane e.laneNo = (s.lane e.laneNo).map Lane.release)) ∧
     ∀ (i : Nat) (m : Manifest) (s : State), slotAt s.adm.manifests i = some m → admissionIndex s m.tray = none →
       exec (.manifestLifetime i) s =
         .next { s with
           adm.manifests := s.adm.manifests.set i none
           adm.expiredManifests := min 4294967295 (s.adm.expiredManifests + 1)
           nowMs := max s.nowMs (m.since + s.manifestMs) }) ∧
    (∀ (i : Nat) (e : Admission) (s : State),
       s.admission i = some e → e.state = .ready →
         ∃ u, exec (.claimWindow i) s = .next (serve u) ∧
           u.mode = s.mode ∧ u.role = s.role ∧ u.admission i = none ∧ (∀ k, k ≠ i → u.admission k = s.admission k) ∧
           u.adm.manifests =
             ((manifestIndex s e.tray).map (fun k => s.adm.manifests.set k none)).getD s.adm.manifests ∧
           (∀ n, u.lane n =
             if n = e.laneNo then
               (s.lane n).map (fun l =>
                 { l with
                   reserved := l.reserved - 1
                   order := if l.use = .orders ∧ l.occupancy + (l.reserved - 1) = 0 then none else l.order })
             else s.lane n) ∧
           u.adm.unclaimed = min 4294967295 (s.adm.unclaimed + 1) ∧ u.trc = s.trc ∧
           u.stc.latched = s.stc.latched ||| Notice.unclaimed.mask ∧ u.nowMs = max s.nowMs (e.stateSince + s.claimMs)) ∧
    (∀ (i : Nat) (e : Admission) (s : State),
       s.admission i = some e → e.state = .claimed ∨ e.state = .inbound → s.trc.entries.length < 128 →
         let lot := (manifestOf s e.tray).bind Manifest.lot
         ∃ u, exec (.arrivalWindow i) s = .next (serve u) ∧
           u.mode = s.mode ∧ u.role = s.role ∧ u.admission i = none ∧ (∀ k, k ≠ i → u.admission k = s.admission k) ∧
           u.adm.manifests =
             ((manifestIndex s e.tray).map (fun k => s.adm.manifests.set k none)).getD s.adm.manifests ∧
           (∀ n, u.lane n =
             if n = e.laneNo then
               (s.lane n).map (fun l =>
                 { l with
                   reserved := l.reserved - 1
                   order := if l.use = .orders ∧ l.occupancy + (l.reserved - 1) = 0 then none else l.order })
             else s.lane n) ∧
           u.trc.entries = s.trc.entries ++ [.chamber e.tray .missing e.lane lot s.stc.clock] ∧
           u.adm.missing = min 4294967295 (s.adm.missing + 1) ∧ u.latchedNotice .trayMissing = true ∧
           u.nowMs = max s.nowMs (e.claimSince + s.arrivalMs)) ∧
    (∀ (i : Nat) (e : Admission) (s : State),
       s.admission i = some e → e.state = .pending →
         ∃ t, exec (.pendingLapse i) s = .next t ∧
           t.adm.manifests =
             ((manifestIndex s e.tray).map (fun k => s.adm.manifests.set k none)).getD s.adm.manifests ∧
           t.nowMs = max s.nowMs (e.askSince + s.manifestMs))

/-- The way in at CHAMBER (8.7, 8.8): a TRAY-PASS makes a CLAIMED entry INBOUND with the next inbound order; an infeed event
admits the INBOUND entry of lowest order, its lane presented and its occupancy raised in place of its reservation, and
writes ADMITTED; and with none INBOUND the tray is a stray, its lane-select 0, traced only into a free entry no reservation
needs. The model's choice: the tray-pass and infeed rows of the table act by the role (log entry 19). In every mode what an
admission leaves is the state served: the lane's occupancy one more and its reserved one less, the entry and its tray's
manifest gone (8.3), every other entry and lane as it was. A TRAY-PASS for an INBOUND entry is a repeat and changes nothing;
one for a PENDING, READY or no entry is kept as a note, which pushes out the oldest of four; and in CONFIGURING and
SANITISING it is dropped and counted. The time scale is the model's (log entry 3). -/
def Obligations.InboundTrayIsAdmitted : Prop :=
  ((∀ (src tgt : BitVec 5) (p : TrayPassFields) (i : Nat) (e : Admission) (s : State),
       TakenFrom .trayPass src tgt s → s.role = .chamber →
       s.mode = .running ∨ s.mode = .held ∨ s.mode = .draining ∨ s.mode = .fault →
       admissionIndex s (readTrayId p.trayId) = some i → s.admission i = some e → e.state = .claimed →
       ∃ t, exec (.chamberTrayPass src tgt p) s = .next t ∧
         t.admission i =
           some { e with
             state := .inbound, stateTime := s.stc.clock, stateSince := s.nowMs, inbound := some s.adm.nextInbound } ∧
         t.adm.nextInbound = nextOrder s.adm.nextInbound ∧ t.adm.lanes = s.adm.lanes ∧ t.trc = s.trc) ∧
     (∀ (i n : Nat) (e : Admission) (l : Lane) (s : State), s.role = .chamber → s.mode ≠ .starting →
       oldestInbound s = some i → s.admission i = some e → e.lane = some n → s.lane n = some l →
       s.trc.entries.length < 128 →
       let lot := (manifestOf s e.tray).bind Manifest.lot
       ∃ t, exec .chamberInfeedEvent s = .next t ∧ t.adm.laneSelect = n ∧ t.admission i = none ∧
         t.trc.entries = s.trc.entries ++ [.chamber e.tray .admitted (some n) lot s.stc.clock] ∧
         t.adm.admitted = min 4294967295 (s.adm.admitted + 1) ∧
         (s.mode ≠ .running → t.lane n = some (Lane.occupy l))) ∧
     ∀ s : State, s.role = .chamber → s.mode ≠ .starting → oldestInbound s = none →
       ∃ t, exec .chamberInfeedEvent s = .next t ∧ t.adm.laneSelect = 0 ∧
         t.adm.strays = min 4294967295 (s.adm.strays + 1) ∧ t.adm.notes = s.adm.notes.tail ∧
         t.adm.lanes = s.adm.lanes ∧ t.adm.table = s.adm.table ∧
         (reservedTotal s < traceFree s → t.trc.entries.length = s.trc.entries.length + 1) ∧
         (traceFree s ≤ reservedTotal s →
           t.trc = s.trc ∧ t.latchedNotice .strayUntraced = true ∧
             t.adm.untracedStrays = min 4294967295 (s.adm.untracedStrays + 1))) ∧
    (∀ (i : Nat) (e : Admission) (s : State),
       s.role = .chamber → s.mode ≠ .starting → oldestInbound s = some i → s.admission i = some e →
       s.trc.entries.length < 128 →
         let lot := (manifestOf s e.tray).bind Manifest.lot
         ∃ u, exec .chamberInfeedEvent s = .next (serve u) ∧
           u.mode = s.mode ∧ u.role = s.role ∧ u.admission i = none ∧ (∀ k, k ≠ i → u.admission k = s.admission k) ∧
           u.adm.manifests =
             ((manifestIndex s e.tray).map (fun k => s.adm.manifests.set k none)).getD s.adm.manifests ∧
           (∀ n, u.lane n =
             if n = e.laneNo then
               (s.lane n).map (fun l =>
                 { l with
                   occupancy := l.occupancy + 1
                   reserved := l.reserved - 1 })
             else s.lane n) ∧
           u.trc.entries = s.trc.entries ++ [.chamber e.tray .admitted e.lane lot s.stc.clock] ∧
           u.adm.laneSelect = e.laneNo ∧ u.adm.admitted = min 4294967295 (s.adm.admitted + 1)) ∧
    (∀ (src tgt : BitVec 5) (p : TrayPassFields) (s : State),
       TakenFrom .trayPass src tgt s → s.role = .chamber →
         let id := readTrayId p.trayId
         let note : Note := { tray := id, lot := optId p.lot.toNat }
         let state := ((admissionIndex s id).bind s.admission).map Admission.state
         (s.mode = .configuring ∨ s.mode = .sanitising →
           exec (.chamberTrayPass src tgt p) s =
             .next { s with adm.droppedPasses := min 4294967295 (s.adm.droppedPasses + 1) }) ∧
           (s.mode ≠ .configuring → s.mode ≠ .sanitising →
             (state = some .inbound → exec (.chamberTrayPass src tgt p) s = .next s) ∧
               (state = none ∨ state = some .pending ∨ state = some .ready →
                 (s.adm.notes.length < 4 →
                   exec (.chamberTrayPass src tgt p) s = .next { s with adm.notes := s.adm.notes ++ [note] }) ∧
                   (4 ≤ s.adm.notes.length →
                     exec (.chamberTrayPass src tgt p) s =
                       .next { s with
                         adm.notes := s.adm.notes.tail ++ [note]
                         adm.droppedNotes := min 4294967295 (s.adm.droppedNotes + 1) }))))

/-! ### The line link (chapter 9) -/

/-- A STATION-STATE from another station with an assigned role and mode sets its peer entry, reported now; one naming the
own number or an unassigned code is counted malformed; and 3 s after its last report an entry becomes UNKNOWN (9.6). Each 1
s a STATION-STATE of the role and mode falls due: with none waiting and the main queue with room it joins the queue, and one
waiting is replaced where it stands; a pending one is placed when there is room; each placement starts the 1 s again (9.6).
The time scale is the model's (log entry 3). Whatever command changes the mode, but for a reset, leaves a STATION-STATE of
the new mode in the main queue or pending. -/
def Obligations.StationReportsAreSentAndKept : Prop :=
  (((∀ (src tgt : BitVec 5) (role mode : BitVec 8) (s : State), HeardFrom .stationState src s → tgt.toNat = 0 →
         (src.toNat = s.own ∨ Role.ofCode role.toNat = none ∨ Mode.ofCode mode.toNat = none →
           exec (.stationState src tgt role mode) s =
             .next { s with lnk.malformed := min 4294967295 (s.lnk.malformed + 1) }) ∧
           ∀ m, src.toNat ≠ s.own → Role.ofCode role.toNat ≠ none → Mode.ofCode mode.toNat = some m →
             exec (.stationState src tgt role mode) s =
               .next { s with
                 lnk.peers := s.lnk.peers.set (src.toNat - 1) { mode := some m, since := some s.nowMs } }) ∧
       ∀ (n d : Nat) (m : Mode) (s : State), 1 ≤ n →
         s.lnk.peers[n - 1]? = some { mode := some m, since := some d } →
         exec (.peerTimeout n) s =
           .next { s with
             lnk.peers := s.lnk.peers.set (n - 1) { mode := none, since := some d }
             nowMs := max s.nowMs (d + 3000) }) ∧
     ((∀ (d : Nat) (s : State), s.lnk.stateAt = some d → s.lnk.mainQ.length < 16 ∨ s.lnk.mainQ.any Frame.isState = true →
           ∃ t, exec .stationStatePeriod s = .next t ∧
             (s.lnk.mainQ.any Frame.isState = false → t.lnk.mainQ = s.lnk.mainQ ++ [stateFrame s]) ∧
             (s.lnk.mainQ.any Frame.isState = true →
               t.lnk.mainQ = s.lnk.mainQ.map (fun g => if g.isState then stateFrame s else g)) ∧
             t.lnk.stateAt = some (max s.nowMs d + 1000) ∧ t.lnk.pendingState = none ∧ t.stc = s.stc ∧ t.idx = s.idx ∧
             t.tray = s.tray) ∧
         (∀ (d : Nat) (s : State), s.lnk.stateAt = some d → 16 ≤ s.lnk.mainQ.length → s.lnk.mainQ.any Frame.isState = false →
           ∃ t, exec .stationStatePeriod s = .next t ∧ t.lnk.mainQ = s.lnk.mainQ ∧
             t.lnk.pendingState = some (stateFrame s)) ∧
         ∀ (f : Frame) (s : State), s.lnk.pendingState = some f → s.lnk.mainQ.length < 16 →
           s.lnk.mainQ.any Frame.isState = false →
           ∃ t, exec .pendingStationStatePlaced s = .next t ∧ t.lnk.mainQ = s.lnk.mainQ ++ [f] ∧
             t.lnk.pendingState = none ∧ t.lnk.stateAt = some (s.nowMs + 1000) ∧ t.stc = s.stc ∧ t.tray = s.tray)) ∧
    (∀ (c : Instr) (s t : State), exec c s = .next t → t.mode ≠ s.mode → t.mode ≠ .starting →
       stateFrame t ∈ t.lnk.mainQ ∨ t.lnk.pendingState = some (stateFrame t))

/-- A received frame whose CRC fails, whose length is above 40, or that ends where its length does not say is counted bad;
one whose CRC is good and whose head is not a frame's of the line is counted malformed; neither changes anything else (9.3).
-/
def Obligations.BadFramesAreCountedAndDiscarded : Prop :=
  ∀ (ended : Bool) (bytes : List (BitVec 8)) (s : State),
    let h := readHead bytes
    (frameSound ended bytes = false →
      exec (.badFrame ended bytes) s = .next { s with lnk.badFrames := min 4294967295 (s.lnk.badFrames + 1) }) ∧
      (frameSound ended bytes = true →
        h.source = 0 ∨ 30 < h.source ∨ 30 < h.target ∨
            (h.target = 0 ∨ h.target = s.own) ∧
              ∀ k, FrameKind.ofCode h.kind = some k →
                h.cls ≠ k.cls ∨ h.length ≠ k.length ∨ (k.broadcast = true ↔ h.target ≠ 0) →
        exec (.badFrame ended bytes) s = .next { s with lnk.malformed := min 4294967295 (s.lnk.malformed + 1) })

/-- At an idle bus LNK offers the credit slot's frame, then the answer queue's head, then the main queue's, its bytes from
the own station; the wait runs from the first offer. A main-queue frame reported sent leaves the queue, is counted, and ends
the failures, and an ADMIT-ASK starts the answer timer of the slot it belongs to; one that loses arbitration stays, and a 20
ms wait or a corrupted frame is a failure; the 64th in a row adds LINK and latches LINK-FAIL (9.4, 9.5). The model's
choices: the time scale (log entry 3), and that a wait that runs out starts again at once (log entry 17). A frame of any
place reported sent leaves it, unless a newer frame has replaced it there; sent in HELD it clears LINK, and the station
returns to RUNNING where no cause is left. An ask is known to its slot by the model's serial number (log entry 18), and room
is worked out once, at the end of the step (log entry 7). -/
def Obligations.OffersAndTheirOutcomes : Prop :=
  ((∀ (p : TxPlace) (f : Frame) (rest : List Frame) (s : State), s.mode ≠ .starting → s.lnk.onBus = none →
       p = .creditSlot ∧ s.lnk.creditSlot = some f ∨
           p = .answerQueue ∧ s.lnk.creditSlot = none ∧ s.lnk.answerQ = f :: rest ∨
           p = .mainQueue ∧ s.lnk.creditSlot = none ∧ s.lnk.answerQ = [] ∧ s.lnk.mainQ = f :: rest →
       exec .frameOffer s =
         .next { s with
           lnk.onBus := some { place := p, frame := f, bytes := frameBytes s.own f, replaced := false }
           lnk.waitSince := some (s.lnk.waitSince.getD s.nowMs) }) ∧
     (∀ (f : Frame) (bytes : List Byte) (rest : List Frame) (s : State),
       s.lnk.onBus = some { place := .mainQueue, frame := f, bytes, replaced := false } → s.lnk.mainQ = f :: rest →
       s.mode ≠ .held → (∀ id, f.payload ≠ .admitAsk id) →
       ∃ t, exec .frameSent s = .next t ∧ t.lnk.mainQ = rest ∧ t.lnk.onBus = none ∧ t.lnk.failures = 0 ∧
         t.lnk.waitSince = none ∧ t.lnk.transmitted = min 4294967295 (s.lnk.transmitted + 1) ∧
         t.stc.causes = s.stc.causes &&& 0xDF#8 ∧ t.mode = s.mode ∧ t.dsp = s.dsp ∧ t.idx = s.idx ∧
         t.out.runPermit = permitOf t) ∧
     (∀ (f : Frame) (id : BitVec 32) (bytes : List Byte) (rest : List Frame) (j : Nat) (x : Slot) (s : State),
       s.lnk.onBus = some { place := .mainQueue, frame := f, bytes, replaced := false } → s.lnk.mainQ = f :: rest →
       f.payload = .admitAsk id → s.mode ≠ .held → s.slot j = some x →
       ∃ t, exec .frameSent s = .next t ∧ t.lnk.mainQ = rest ∧ t.lnk.onBus = none ∧
         t.slot j =
           some (if x.phase = .asking ∧ x.latestAsk = f.serial then { x with answerAt := some (s.nowMs + s.answerMs) }
             else x)) ∧
     (∀ s : State, exec .lostArbitration s = .next { s with lnk.onBus := none }) ∧
     (∀ (o : BusOffer) (s : State), s.lnk.onBus = some o → s.lnk.failures ≠ 63 →
       exec .corruptedOwnFrame s =
         .next { s with
           lnk.onBus := none
           lnk.waitSince := none
           lnk.failures := min 255 (s.lnk.failures + 1)
           lnk.txFailures := min 4294967295 (s.lnk.txFailures + 1) }) ∧
     (∀ (w : Nat) (s : State), s.lnk.waitSince = some w → s.lnk.failures ≠ 63 →
       exec .longArbitrationLoss s =
         .next { s with
           nowMs := max s.nowMs (w + 20)
           lnk.waitSince := some (max s.nowMs (w + 20))
           lnk.failures := min 255 (s.lnk.failures + 1)
           lnk.txFailures := min 4294967295 (s.lnk.txFailures + 1) }) ∧
     ∀ (o : BusOffer) (s : State), s.lnk.onBus = some o → s.lnk.failures = 63 →
       ∃ t, exec .corruptedOwnFrame s = .next t ∧ t.lnk.failures = 64 ∧ t.hasCause .link = true ∧
         t.latchedNotice .linkFail = true ∧ t.mode = (if s.mode = .running then .held else s.mode)) ∧
    (∀ (o : BusOffer) (s : State),
       s.lnk.onBus = some o → s.mode = .held →
         let left := s.stc.causes &&& 0xDF#8
         ∃ t, exec .frameSent s = .next t ∧ t.lnk.onBus = none ∧ t.lnk.failures = 0 ∧ t.lnk.waitSince = none ∧
           t.lnk.transmitted = min 4294967295 (s.lnk.transmitted + 1) ∧ t.stc.causes = left ∧
           t.mode = (if left = 0#8 then .running else .held) ∧ t.stc.latched = s.stc.latched ∧
           t.out.runPermit = permitOf t ∧ t.hnd.room = roomOf t ∧ t.idx = s.idx ∧ t.tray = s.tray ∧ t.lid = s.lid) ∧
    (∀ (o : BusOffer) (s : State),
       s.lnk.onBus = some o → s.mode ≠ .held → roomOf s ≤ s.hnd.room →
         ∃ t, exec .frameSent s = .next t ∧ t.lnk.onBus = none ∧ t.lnk.failures = 0 ∧ t.lnk.waitSince = none ∧
           t.lnk.transmitted = min 4294967295 (s.lnk.transmitted + 1) ∧ t.mode = s.mode ∧ t.stc.latched = s.stc.latched ∧
           t.lnk.creditSlot = (if o.place = .creditSlot ∧ o.replaced = false then none else s.lnk.creditSlot) ∧
           t.lnk.answerQ = (if o.place = .answerQueue ∧ o.replaced = false then s.lnk.answerQ.tail else s.lnk.answerQ) ∧
           t.lnk.mainQ = (if o.place = .mainQueue ∧ o.replaced = false then s.lnk.mainQ.tail else s.lnk.mainQ))

/-! ### Encodings (chapter 12) -/

/-- A frame laid out by the transmit side reads back whole at the receiver: from any station of the line, for every payload
with eight pot entries in a ROW-PASS, the bytes received are the reception of that payload, from that source and for that
target. A frame laid out by the transmit side for a station of the line, in its kind's form, passes every check at the
station it is for: it is neither bad nor malformed there. -/
def Obligations.LinkFramesReadBack : Prop :=
  (∀ (src : BitVec 5) (f : Frame), f.target < 32 → (∀ p, f.payload = .rowPass p → p.pots.length = 8) →
      Decode.linkFrame true (frameBytes src.toNat f) = Decode.reception src (BitVec.ofNat 5 f.target) f.payload) ∧
    (∀ (src own : Nat) (f : Frame), 1 ≤ src → src ≤ 30 → 1 ≤ own → own ≤ 30 →
        (∀ p, f.payload = .rowPass p → p.pots.length = 8) →
        f.target = (if (payloadKind f.payload).broadcast then 0 else own) →
        frameVerdict own true (frameBytes src f) = .good (payloadKind f.payload))

/-- The command record of every port command reads back as that command: its code, its tag, its parameter length and every
parameter at every value its bytes can hold. -/
def Obligations.PortRecordsReadBack : Prop :=
  ∀ (c : Instr) (bytes : List Byte), Decode.portRecord c = some bytes → Decode.lengthRight c = true →
    Decode.portTransfer true bytes = c

/-- Command records and frames written out byte by byte from chapter 12 spell the commands they stand for: SPLICE with tag 7,
SET-CLOCK 0x01020304 with tag 9, WRITE-SETTING 13 = 3, the fetch code, and a CREDIT (limit 3, room 5) from station 2 to
station 1 with its head. -/
def Obligations.WrittenOutRecordsDecode : Prop :=
  Decode.portTransfer true [0x21#8, 0x07#8, 0x00#8, 0xD8#8] = .splice { tag := 7#8, paramLen := 0#8 } ∧
    Decode.portTransfer true [0x09#8, 0x09#8, 0x04#8, 0x01#8, 0x02#8, 0x03#8, 0x04#8, 0xE0#8] =
      .setClock { tag := 9#8, paramLen := 4#8 } 0x01020304#32 ∧
    Decode.portTransfer true
        [0x01#8, 0x02#8, 0x06#8, 0x00#8, 0x0D#8, 0x00#8, 0x00#8, 0x00#8, 0x03#8, 0xE7#8] =
      .writeSetting { tag := 2#8, paramLen := 6#8 } 13#16 3#32 ∧
    Decode.portTransfer true [0xFF#8] = .responseTransfer ∧
    (frameBytes 2 (frameTo 1 (.credit 3#16 5#8))).take 6 = [0x04#8, 0x41#8, 0x03#8, 0x00#8, 0x03#8, 0x05#8]

/-! ### Invariants of every step -/

/-- Every bounded store stays within its capacity and every table keeps its size at every step, whatever the command: the
row window at most L positions and empty before START, an entry for each of lanes 1 to 8 in every row, the arrivals lists,
the product and transition tables, the lot table, the trays and cells, the banks and slots, the trace ring, the chamber's
tables and the transmit places. -/
def Obligations.StoresStayBounded : Prop :=
  ∀ s t : State, Bounded s → step s = .next t → Bounded t

/-- RUNNING keeps an empty cause set and HELD one that is not empty, at every step (10.2). The run permit stays off outside
RUNNING and DRAINING, and room at 0 outside RUNNING, at every step (1, 2, 5). The attention line is asserted exactly while a
latched notice is not masked, at every step (11.5). -/
def Obligations.CausesPermitRoomAndAttentionFit : Prop :=
  (∀ s t : State, CausesFit s → step s = .next t → CausesFit t) ∧
    (∀ s t : State, FlowFits s → step s = .next t → FlowFits t) ∧
    (∀ s t : State, AttentionFits s → step s = .next t → AttentionFits t)

/-- A held reel always has 1 to 60,000 lids, at every step (4.1). No exposure the station holds passes 16,777,215, at every
step (6.4). -/
def Obligations.ReelsAndExposuresStayInRange : Prop :=
  (∀ s t : State, ReelsFit s → step s = .next t → ReelsFit t) ∧
    (∀ s t : State, ExposureFits s → step s = .next t → ExposureFits t)

/-- Every setting stays in its range, and once started the named positions stand in the window, at LIDDER in their order, at
every step (1, 10.1, 10.2). The position count stays below C and the reverse debt at or below it, at every step (1). -/
def Obligations.SettingsAndCountsStayInRange : Prop :=
  (∀ s t : State, SettingsFit s → step s = .next t → SettingsFit t) ∧
    (∀ s t : State, CountsFit s → step s = .next t → CountsFit t)

/-- A chamber's reservations balance at every step: each lane's reserved count is the number of entries holding room in it,
no lane is over its capacity, and the entries holding room never outnumber the free trace entries (8.2, 8.4, 8.6, 8.10). -/
def Obligations.ChamberReservationsBalance : Prop :=
  ∀ s t : State, ReservationsFit s → step s = .next t → ReservationsFit t

/-- The bounded stores, the attention line, the causes, the reels, the permit and room, the exposures, the settings, the
counts, the reservations and the credit all fit in the state right after a hard reset, the store being at its factory
defaults until the load (the model's choice, log entry 5). -/
def Obligations.InvariantsHoldAtReset : Prop :=
  Bounded State.reset ∧ AttentionFits State.reset ∧ CausesFit State.reset ∧ ReelsFit State.reset ∧ FlowFits State.reset ∧
    ExposureFits State.reset ∧ SettingsFit State.reset ∧ CountsFit State.reset ∧ ReservationsFit State.reset ∧
    CreditFits State.reset

/-! ### Whole-machine rules -/

/-- The next sequence of the sending side moves only by a pass the sending rule admitted, at an index event or an exit
sensor event, by a CREDIT, or by a reset (2, The sending side). A station with downstream neighbour 0 holds no credit, nor
does one in STARTING, at every step, and a CREDIT waits in the credit slot only for the upstream neighbour, with neighbour 0
none (2, Settings of the Handoff Unit; log entry 38). -/
def Obligations.NextSequenceMovesOnlyUnderCredit : Prop :=
  (∀ (c : Instr) (s t : State), exec c s = .next t → t.hnd.nextSeq ≠ s.hnd.nextSeq →
     t.mode = .starting ∨ (∃ src tgt limit room, c = .credit src tgt limit room) ∨
       (t.hnd.nextSeq = s.hnd.nextSeq + 1#16 ∧ admitsNext s = true ∧
         ((∃ presence bond, c = .forwardCount presence bond) ∨ c = .exitSensorEvent ∨ c = .chillExitSensorEvent))) ∧
    (∀ s t : State, CreditFits s → step s = .next t → CreditFits t)

/-- Each block moves only by the commands that can move it: whatever the command, but for a reset, the trace ring, the reels
and lane failures, the probe, the settings, the product and transition tables, the row window, the expected sequence and the
peer table are as they were unless the command is one of those listed for it (the rules of chapters 1 to 11). That a role
written in CONFIGURING leaves the probe and its miss deadline as they are, as it leaves a held limit, is the model's choice
(log entries 39 and 44). -/
def Obligations.BlocksMoveOnlyByTheirCommands : Prop :=
  ∀ (c : Instr) (s t : State), c ≠ .hardReset → s.port.restartPending = false → exec c s = .next t →
    (movesTrace c = false → t.trc = s.trc) ∧ (movesLids c = false → t.lid = s.lid) ∧
      (movesProbe c = false → t.exp = s.exp) ∧ (movesSettings c = false → t.stc.settings = s.stc.settings) ∧
      (movesTables c = false → t.stc.products = s.stc.products ∧ t.stc.transitions = s.stc.transitions) ∧
      (movesWindow c = false → t.idx.window = s.idx.window) ∧ (movesExpected c = false → t.hnd.expected = s.hnd.expected) ∧
      (movesPeers c = false → t.lnk.peers = s.lnk.peers)
end

