-- ==== Sys2Proof/Laws/State.lean ====
section
/-! SUPPORT. Laws/State.lean: what each shared update leaves alone, one lemma for each field of the state, so that a proof about
one block never unfolds an update of another. -/

namespace Sys2Proof.Machine

@[simp] theorem updateAttention_stc (s : State) : (updateAttention s).stc = s.stc := rfl
@[simp] theorem updateAttention_port (s : State) : (updateAttention s).port = s.port := rfl
@[simp] theorem updateAttention_idx (s : State) : (updateAttention s).idx = s.idx := rfl
@[simp] theorem updateAttention_hnd (s : State) : (updateAttention s).hnd = s.hnd := rfl
@[simp] theorem updateAttention_lot (s : State) : (updateAttention s).lot = s.lot := rfl
@[simp] theorem updateAttention_lid (s : State) : (updateAttention s).lid = s.lid := rfl
@[simp] theorem updateAttention_tray (s : State) : (updateAttention s).tray = s.tray := rfl
@[simp] theorem updateAttention_exp (s : State) : (updateAttention s).exp = s.exp := rfl
@[simp] theorem updateAttention_dsp (s : State) : (updateAttention s).dsp = s.dsp := rfl
@[simp] theorem updateAttention_trc (s : State) : (updateAttention s).trc = s.trc := rfl
@[simp] theorem updateAttention_adm (s : State) : (updateAttention s).adm = s.adm := rfl
@[simp] theorem updateAttention_lnk (s : State) : (updateAttention s).lnk = s.lnk := rfl
@[simp] theorem updateAttention_nowMs (s : State) : (updateAttention s).nowMs = s.nowMs := rfl
@[simp] theorem updateAttention_freeCount (s : State) : (updateAttention s).freeCount = s.freeCount := rfl
@[simp] theorem updateAttention_pending (s : State) : (updateAttention s).pending = s.pending := rfl

@[simp] theorem latch_port (n : Notice) (s : State) : (latch n s).port = s.port := rfl
@[simp] theorem latch_idx (n : Notice) (s : State) : (latch n s).idx = s.idx := rfl
@[simp] theorem latch_hnd (n : Notice) (s : State) : (latch n s).hnd = s.hnd := rfl
@[simp] theorem latch_lot (n : Notice) (s : State) : (latch n s).lot = s.lot := rfl
@[simp] theorem latch_lid (n : Notice) (s : State) : (latch n s).lid = s.lid := rfl
@[simp] theorem latch_tray (n : Notice) (s : State) : (latch n s).tray = s.tray := rfl
@[simp] theorem latch_exp (n : Notice) (s : State) : (latch n s).exp = s.exp := rfl
@[simp] theorem latch_dsp (n : Notice) (s : State) : (latch n s).dsp = s.dsp := rfl
@[simp] theorem latch_trc (n : Notice) (s : State) : (latch n s).trc = s.trc := rfl
@[simp] theorem latch_adm (n : Notice) (s : State) : (latch n s).adm = s.adm := rfl
@[simp] theorem latch_lnk (n : Notice) (s : State) : (latch n s).lnk = s.lnk := rfl
@[simp] theorem latch_nowMs (n : Notice) (s : State) : (latch n s).nowMs = s.nowMs := rfl
@[simp] theorem latch_freeCount (n : Notice) (s : State) : (latch n s).freeCount = s.freeCount := rfl
@[simp] theorem latch_pending (n : Notice) (s : State) : (latch n s).pending = s.pending := rfl

@[simp] theorem putCause_out (c : Cause) (s : State) : (putCause c s).out = s.out := rfl
@[simp] theorem putCause_port (c : Cause) (s : State) : (putCause c s).port = s.port := rfl
@[simp] theorem putCause_idx (c : Cause) (s : State) : (putCause c s).idx = s.idx := rfl
@[simp] theorem putCause_hnd (c : Cause) (s : State) : (putCause c s).hnd = s.hnd := rfl
@[simp] theorem putCause_lot (c : Cause) (s : State) : (putCause c s).lot = s.lot := rfl
@[simp] theorem putCause_lid (c : Cause) (s : State) : (putCause c s).lid = s.lid := rfl
@[simp] theorem putCause_tray (c : Cause) (s : State) : (putCause c s).tray = s.tray := rfl
@[simp] theorem putCause_exp (c : Cause) (s : State) : (putCause c s).exp = s.exp := rfl
@[simp] theorem putCause_dsp (c : Cause) (s : State) : (putCause c s).dsp = s.dsp := rfl
@[simp] theorem putCause_trc (c : Cause) (s : State) : (putCause c s).trc = s.trc := rfl
@[simp] theorem putCause_adm (c : Cause) (s : State) : (putCause c s).adm = s.adm := rfl
@[simp] theorem putCause_lnk (c : Cause) (s : State) : (putCause c s).lnk = s.lnk := rfl
@[simp] theorem putCause_nowMs (c : Cause) (s : State) : (putCause c s).nowMs = s.nowMs := rfl
@[simp] theorem putCause_freeCount (c : Cause) (s : State) : (putCause c s).freeCount = s.freeCount := rfl
@[simp] theorem putCause_pending (c : Cause) (s : State) : (putCause c s).pending = s.pending := rfl

@[simp] theorem dropCause_out (c : Cause) (s : State) : (dropCause c s).out = s.out := rfl
@[simp] theorem dropCause_port (c : Cause) (s : State) : (dropCause c s).port = s.port := rfl
@[simp] theorem dropCause_idx (c : Cause) (s : State) : (dropCause c s).idx = s.idx := rfl
@[simp] theorem dropCause_hnd (c : Cause) (s : State) : (dropCause c s).hnd = s.hnd := rfl
@[simp] theorem dropCause_lot (c : Cause) (s : State) : (dropCause c s).lot = s.lot := rfl
@[simp] theorem dropCause_lid (c : Cause) (s : State) : (dropCause c s).lid = s.lid := rfl
@[simp] theorem dropCause_tray (c : Cause) (s : State) : (dropCause c s).tray = s.tray := rfl
@[simp] theorem dropCause_exp (c : Cause) (s : State) : (dropCause c s).exp = s.exp := rfl
@[simp] theorem dropCause_dsp (c : Cause) (s : State) : (dropCause c s).dsp = s.dsp := rfl
@[simp] theorem dropCause_trc (c : Cause) (s : State) : (dropCause c s).trc = s.trc := rfl
@[simp] theorem dropCause_adm (c : Cause) (s : State) : (dropCause c s).adm = s.adm := rfl
@[simp] theorem dropCause_lnk (c : Cause) (s : State) : (dropCause c s).lnk = s.lnk := rfl
@[simp] theorem dropCause_nowMs (c : Cause) (s : State) : (dropCause c s).nowMs = s.nowMs := rfl
@[simp] theorem dropCause_freeCount (c : Cause) (s : State) : (dropCause c s).freeCount = s.freeCount := rfl
@[simp] theorem dropCause_pending (c : Cause) (s : State) : (dropCause c s).pending = s.pending := rfl

@[simp] theorem timeTo_stc (d : Nat) (s : State) : (timeTo d s).stc = s.stc := rfl
@[simp] theorem timeTo_out (d : Nat) (s : State) : (timeTo d s).out = s.out := rfl
@[simp] theorem timeTo_port (d : Nat) (s : State) : (timeTo d s).port = s.port := rfl
@[simp] theorem timeTo_idx (d : Nat) (s : State) : (timeTo d s).idx = s.idx := rfl
@[simp] theorem timeTo_hnd (d : Nat) (s : State) : (timeTo d s).hnd = s.hnd := rfl
@[simp] theorem timeTo_lot (d : Nat) (s : State) : (timeTo d s).lot = s.lot := rfl
@[simp] theorem timeTo_lid (d : Nat) (s : State) : (timeTo d s).lid = s.lid := rfl
@[simp] theorem timeTo_tray (d : Nat) (s : State) : (timeTo d s).tray = s.tray := rfl
@[simp] theorem timeTo_exp (d : Nat) (s : State) : (timeTo d s).exp = s.exp := rfl
@[simp] theorem timeTo_dsp (d : Nat) (s : State) : (timeTo d s).dsp = s.dsp := rfl
@[simp] theorem timeTo_trc (d : Nat) (s : State) : (timeTo d s).trc = s.trc := rfl
@[simp] theorem timeTo_adm (d : Nat) (s : State) : (timeTo d s).adm = s.adm := rfl
@[simp] theorem timeTo_lnk (d : Nat) (s : State) : (timeTo d s).lnk = s.lnk := rfl
@[simp] theorem timeTo_freeCount (d : Nat) (s : State) : (timeTo d s).freeCount = s.freeCount := rfl
@[simp] theorem timeTo_pending (d : Nat) (s : State) : (timeTo d s).pending = s.pending := rfl

@[simp] theorem pushMain_stc (f : Frame) (s : State) : (pushMain f s).stc = s.stc := by unfold pushMain; split <;> rfl
@[simp] theorem pushMain_out (f : Frame) (s : State) : (pushMain f s).out = s.out := by unfold pushMain; split <;> rfl
@[simp] theorem pushMain_port (f : Frame) (s : State) : (pushMain f s).port = s.port := by unfold pushMain; split <;> rfl
@[simp] theorem pushMain_idx (f : Frame) (s : State) : (pushMain f s).idx = s.idx := by unfold pushMain; split <;> rfl
@[simp] theorem pushMain_hnd (f : Frame) (s : State) : (pushMain f s).hnd = s.hnd := by unfold pushMain; split <;> rfl
@[simp] theorem pushMain_lot (f : Frame) (s : State) : (pushMain f s).lot = s.lot := by unfold pushMain; split <;> rfl
@[simp] theorem pushMain_lid (f : Frame) (s : State) : (pushMain f s).lid = s.lid := by unfold pushMain; split <;> rfl
@[simp] theorem pushMain_tray (f : Frame) (s : State) : (pushMain f s).tray = s.tray := by unfold pushMain; split <;> rfl
@[simp] theorem pushMain_exp (f : Frame) (s : State) : (pushMain f s).exp = s.exp := by unfold pushMain; split <;> rfl
@[simp] theorem pushMain_dsp (f : Frame) (s : State) : (pushMain f s).dsp = s.dsp := by unfold pushMain; split <;> rfl
@[simp] theorem pushMain_trc (f : Frame) (s : State) : (pushMain f s).trc = s.trc := by unfold pushMain; split <;> rfl
@[simp] theorem pushMain_adm (f : Frame) (s : State) : (pushMain f s).adm = s.adm := by unfold pushMain; split <;> rfl
@[simp] theorem pushMain_nowMs (f : Frame) (s : State) : (pushMain f s).nowMs = s.nowMs := by unfold pushMain; split <;> rfl
@[simp] theorem pushMain_freeCount (f : Frame) (s : State) : (pushMain f s).freeCount = s.freeCount := by unfold pushMain; split <;> rfl
@[simp] theorem pushMain_pending (f : Frame) (s : State) : (pushMain f s).pending = s.pending := by unfold pushMain; split <;> rfl

@[simp] theorem pushAnswer_stc (f : Frame) (s : State) : (pushAnswer f s).stc = s.stc := by unfold pushAnswer; split <;> rfl
@[simp] theorem pushAnswer_out (f : Frame) (s : State) : (pushAnswer f s).out = s.out := by unfold pushAnswer; split <;> rfl
@[simp] theorem pushAnswer_port (f : Frame) (s : State) : (pushAnswer f s).port = s.port := by unfold pushAnswer; split <;> rfl
@[simp] theorem pushAnswer_idx (f : Frame) (s : State) : (pushAnswer f s).idx = s.idx := by unfold pushAnswer; split <;> rfl
@[simp] theorem pushAnswer_hnd (f : Frame) (s : State) : (pushAnswer f s).hnd = s.hnd := by unfold pushAnswer; split <;> rfl
@[simp] theorem pushAnswer_lot (f : Frame) (s : State) : (pushAnswer f s).lot = s.lot := by unfold pushAnswer; split <;> rfl
@[simp] theorem pushAnswer_lid (f : Frame) (s : State) : (pushAnswer f s).lid = s.lid := by unfold pushAnswer; split <;> rfl
@[simp] theorem pushAnswer_tray (f : Frame) (s : State) : (pushAnswer f s).tray = s.tray := by unfold pushAnswer; split <;> rfl
@[simp] theorem pushAnswer_exp (f : Frame) (s : State) : (pushAnswer f s).exp = s.exp := by unfold pushAnswer; split <;> rfl
@[simp] theorem pushAnswer_dsp (f : Frame) (s : State) : (pushAnswer f s).dsp = s.dsp := by unfold pushAnswer; split <;> rfl
@[simp] theorem pushAnswer_trc (f : Frame) (s : State) : (pushAnswer f s).trc = s.trc := by unfold pushAnswer; split <;> rfl
@[simp] theorem pushAnswer_adm (f : Frame) (s : State) : (pushAnswer f s).adm = s.adm := by unfold pushAnswer; split <;> rfl
@[simp] theorem pushAnswer_nowMs (f : Frame) (s : State) : (pushAnswer f s).nowMs = s.nowMs := by unfold pushAnswer; split <;> rfl
@[simp] theorem pushAnswer_freeCount (f : Frame) (s : State) : (pushAnswer f s).freeCount = s.freeCount := by unfold pushAnswer; split <;> rfl
@[simp] theorem pushAnswer_pending (f : Frame) (s : State) : (pushAnswer f s).pending = s.pending := by unfold pushAnswer; split <;> rfl

@[simp] theorem placeInCreditSlot_stc (f : Frame) (s : State) : (placeInCreditSlot f s).stc = s.stc := rfl
@[simp] theorem placeInCreditSlot_out (f : Frame) (s : State) : (placeInCreditSlot f s).out = s.out := rfl
@[simp] theorem placeInCreditSlot_port (f : Frame) (s : State) : (placeInCreditSlot f s).port = s.port := rfl
@[simp] theorem placeInCreditSlot_idx (f : Frame) (s : State) : (placeInCreditSlot f s).idx = s.idx := rfl
@[simp] theorem placeInCreditSlot_hnd (f : Frame) (s : State) : (placeInCreditSlot f s).hnd = s.hnd := rfl
@[simp] theorem placeInCreditSlot_lot (f : Frame) (s : State) : (placeInCreditSlot f s).lot = s.lot := rfl
@[simp] theorem placeInCreditSlot_lid (f : Frame) (s : State) : (placeInCreditSlot f s).lid = s.lid := rfl
@[simp] theorem placeInCreditSlot_tray (f : Frame) (s : State) : (placeInCreditSlot f s).tray = s.tray := rfl
@[simp] theorem placeInCreditSlot_exp (f : Frame) (s : State) : (placeInCreditSlot f s).exp = s.exp := rfl
@[simp] theorem placeInCreditSlot_dsp (f : Frame) (s : State) : (placeInCreditSlot f s).dsp = s.dsp := rfl
@[simp] theorem placeInCreditSlot_trc (f : Frame) (s : State) : (placeInCreditSlot f s).trc = s.trc := rfl
@[simp] theorem placeInCreditSlot_adm (f : Frame) (s : State) : (placeInCreditSlot f s).adm = s.adm := rfl
@[simp] theorem placeInCreditSlot_nowMs (f : Frame) (s : State) : (placeInCreditSlot f s).nowMs = s.nowMs := rfl
@[simp] theorem placeInCreditSlot_freeCount (f : Frame) (s : State) : (placeInCreditSlot f s).freeCount = s.freeCount := rfl
@[simp] theorem placeInCreditSlot_pending (f : Frame) (s : State) : (placeInCreditSlot f s).pending = s.pending := rfl

@[simp] theorem placeState_stc (f : Frame) (s : State) : (placeState f s).stc = s.stc := by unfold placeState; split <;> (try split) <;> rfl
@[simp] theorem placeState_out (f : Frame) (s : State) : (placeState f s).out = s.out := by unfold placeState; split <;> (try split) <;> rfl
@[simp] theorem placeState_port (f : Frame) (s : State) : (placeState f s).port = s.port := by unfold placeState; split <;> (try split) <;> rfl
@[simp] theorem placeState_idx (f : Frame) (s : State) : (placeState f s).idx = s.idx := by unfold placeState; split <;> (try split) <;> rfl
@[simp] theorem placeState_hnd (f : Frame) (s : State) : (placeState f s).hnd = s.hnd := by unfold placeState; split <;> (try split) <;> rfl
@[simp] theorem placeState_lot (f : Frame) (s : State) : (placeState f s).lot = s.lot := by unfold placeState; split <;> (try split) <;> rfl
@[simp] theorem placeState_lid (f : Frame) (s : State) : (placeState f s).lid = s.lid := by unfold placeState; split <;> (try split) <;> rfl
@[simp] theorem placeState_tray (f : Frame) (s : State) : (placeState f s).tray = s.tray := by unfold placeState; split <;> (try split) <;> rfl
@[simp] theorem placeState_exp (f : Frame) (s : State) : (placeState f s).exp = s.exp := by unfold placeState; split <;> (try split) <;> rfl
@[simp] theorem placeState_dsp (f : Frame) (s : State) : (placeState f s).dsp = s.dsp := by unfold placeState; split <;> (try split) <;> rfl
@[simp] theorem placeState_trc (f : Frame) (s : State) : (placeState f s).trc = s.trc := by unfold placeState; split <;> (try split) <;> rfl
@[simp] theorem placeState_adm (f : Frame) (s : State) : (placeState f s).adm = s.adm := by unfold placeState; split <;> (try split) <;> rfl
@[simp] theorem placeState_nowMs (f : Frame) (s : State) : (placeState f s).nowMs = s.nowMs := by unfold placeState; split <;> (try split) <;> rfl
@[simp] theorem placeState_freeCount (f : Frame) (s : State) : (placeState f s).freeCount = s.freeCount := by unfold placeState; split <;> (try split) <;> rfl
@[simp] theorem placeState_pending (f : Frame) (s : State) : (placeState f s).pending = s.pending := by unfold placeState; split <;> (try split) <;> rfl

@[simp] theorem latchRing_port (s : State) : (latchRing s).port = s.port := by unfold latchRing; split <;> (try split) <;> rfl
@[simp] theorem latchRing_idx (s : State) : (latchRing s).idx = s.idx := by unfold latchRing; split <;> (try split) <;> rfl
@[simp] theorem latchRing_hnd (s : State) : (latchRing s).hnd = s.hnd := by unfold latchRing; split <;> (try split) <;> rfl
@[simp] theorem latchRing_lot (s : State) : (latchRing s).lot = s.lot := by unfold latchRing; split <;> (try split) <;> rfl
@[simp] theorem latchRing_lid (s : State) : (latchRing s).lid = s.lid := by unfold latchRing; split <;> (try split) <;> rfl
@[simp] theorem latchRing_tray (s : State) : (latchRing s).tray = s.tray := by unfold latchRing; split <;> (try split) <;> rfl
@[simp] theorem latchRing_exp (s : State) : (latchRing s).exp = s.exp := by unfold latchRing; split <;> (try split) <;> rfl
@[simp] theorem latchRing_dsp (s : State) : (latchRing s).dsp = s.dsp := by unfold latchRing; split <;> (try split) <;> rfl
@[simp] theorem latchRing_trc (s : State) : (latchRing s).trc = s.trc := by unfold latchRing; split <;> (try split) <;> rfl
@[simp] theorem latchRing_adm (s : State) : (latchRing s).adm = s.adm := by unfold latchRing; split <;> (try split) <;> rfl
@[simp] theorem latchRing_lnk (s : State) : (latchRing s).lnk = s.lnk := by unfold latchRing; split <;> (try split) <;> rfl
@[simp] theorem latchRing_nowMs (s : State) : (latchRing s).nowMs = s.nowMs := by unfold latchRing; split <;> (try split) <;> rfl
@[simp] theorem latchRing_freeCount (s : State) : (latchRing s).freeCount = s.freeCount := by unfold latchRing; split <;> (try split) <;> rfl
@[simp] theorem latchRing_pending (s : State) : (latchRing s).pending = s.pending := by unfold latchRing; split <;> (try split) <;> rfl

@[simp] theorem writeTrace_port (e : TraceEntry) (s : State) : (writeTrace e s).port = s.port := by unfold writeTrace; split <;> simp
@[simp] theorem writeTrace_idx (e : TraceEntry) (s : State) : (writeTrace e s).idx = s.idx := by unfold writeTrace; split <;> simp
@[simp] theorem writeTrace_hnd (e : TraceEntry) (s : State) : (writeTrace e s).hnd = s.hnd := by unfold writeTrace; split <;> simp
@[simp] theorem writeTrace_lot (e : TraceEntry) (s : State) : (writeTrace e s).lot = s.lot := by unfold writeTrace; split <;> simp
@[simp] theorem writeTrace_lid (e : TraceEntry) (s : State) : (writeTrace e s).lid = s.lid := by unfold writeTrace; split <;> simp
@[simp] theorem writeTrace_tray (e : TraceEntry) (s : State) : (writeTrace e s).tray = s.tray := by unfold writeTrace; split <;> simp
@[simp] theorem writeTrace_exp (e : TraceEntry) (s : State) : (writeTrace e s).exp = s.exp := by unfold writeTrace; split <;> simp
@[simp] theorem writeTrace_dsp (e : TraceEntry) (s : State) : (writeTrace e s).dsp = s.dsp := by unfold writeTrace; split <;> simp
@[simp] theorem writeTrace_adm (e : TraceEntry) (s : State) : (writeTrace e s).adm = s.adm := by unfold writeTrace; split <;> simp
@[simp] theorem writeTrace_lnk (e : TraceEntry) (s : State) : (writeTrace e s).lnk = s.lnk := by unfold writeTrace; split <;> simp
@[simp] theorem writeTrace_nowMs (e : TraceEntry) (s : State) : (writeTrace e s).nowMs = s.nowMs := by unfold writeTrace; split <;> simp
@[simp] theorem writeTrace_freeCount (e : TraceEntry) (s : State) : (writeTrace e s).freeCount = s.freeCount := by unfold writeTrace; split <;> simp
@[simp] theorem writeTrace_pending (e : TraceEntry) (s : State) : (writeTrace e s).pending = s.pending := by unfold writeTrace; split <;> simp

@[simp] theorem updateLot_stc (id : Nat) (f : LotRec → LotRec) (s : State) : (updateLot id f s).stc = s.stc := rfl
@[simp] theorem updateLot_out (id : Nat) (f : LotRec → LotRec) (s : State) : (updateLot id f s).out = s.out := rfl
@[simp] theorem updateLot_port (id : Nat) (f : LotRec → LotRec) (s : State) : (updateLot id f s).port = s.port := rfl
@[simp] theorem updateLot_idx (id : Nat) (f : LotRec → LotRec) (s : State) : (updateLot id f s).idx = s.idx := rfl
@[simp] theorem updateLot_hnd (id : Nat) (f : LotRec → LotRec) (s : State) : (updateLot id f s).hnd = s.hnd := rfl
@[simp] theorem updateLot_lid (id : Nat) (f : LotRec → LotRec) (s : State) : (updateLot id f s).lid = s.lid := rfl
@[simp] theorem updateLot_tray (id : Nat) (f : LotRec → LotRec) (s : State) : (updateLot id f s).tray = s.tray := rfl
@[simp] theorem updateLot_exp (id : Nat) (f : LotRec → LotRec) (s : State) : (updateLot id f s).exp = s.exp := rfl
@[simp] theorem updateLot_dsp (id : Nat) (f : LotRec → LotRec) (s : State) : (updateLot id f s).dsp = s.dsp := rfl
@[simp] theorem updateLot_trc (id : Nat) (f : LotRec → LotRec) (s : State) : (updateLot id f s).trc = s.trc := rfl
@[simp] theorem updateLot_adm (id : Nat) (f : LotRec → LotRec) (s : State) : (updateLot id f s).adm = s.adm := rfl
@[simp] theorem updateLot_lnk (id : Nat) (f : LotRec → LotRec) (s : State) : (updateLot id f s).lnk = s.lnk := rfl
@[simp] theorem updateLot_nowMs (id : Nat) (f : LotRec → LotRec) (s : State) : (updateLot id f s).nowMs = s.nowMs := rfl
@[simp] theorem updateLot_freeCount (id : Nat) (f : LotRec → LotRec) (s : State) : (updateLot id f s).freeCount = s.freeCount := rfl
@[simp] theorem updateLot_pending (id : Nat) (f : LotRec → LotRec) (s : State) : (updateLot id f s).pending = s.pending := rfl

@[simp] theorem updateNamed_stc (o : Option Nat) (f : LotRec → LotRec) (s : State) : (updateNamed o f s).stc = s.stc := by cases o <;> rfl
@[simp] theorem updateNamed_out (o : Option Nat) (f : LotRec → LotRec) (s : State) : (updateNamed o f s).out = s.out := by cases o <;> rfl
@[simp] theorem updateNamed_port (o : Option Nat) (f : LotRec → LotRec) (s : State) : (updateNamed o f s).port = s.port := by cases o <;> rfl
@[simp] theorem updateNamed_idx (o : Option Nat) (f : LotRec → LotRec) (s : State) : (updateNamed o f s).idx = s.idx := by cases o <;> rfl
@[simp] theorem updateNamed_hnd (o : Option Nat) (f : LotRec → LotRec) (s : State) : (updateNamed o f s).hnd = s.hnd := by cases o <;> rfl
@[simp] theorem updateNamed_lid (o : Option Nat) (f : LotRec → LotRec) (s : State) : (updateNamed o f s).lid = s.lid := by cases o <;> rfl
@[simp] theorem updateNamed_tray (o : Option Nat) (f : LotRec → LotRec) (s : State) : (updateNamed o f s).tray = s.tray := by cases o <;> rfl
@[simp] theorem updateNamed_exp (o : Option Nat) (f : LotRec → LotRec) (s : State) : (updateNamed o f s).exp = s.exp := by cases o <;> rfl
@[simp] theorem updateNamed_dsp (o : Option Nat) (f : LotRec → LotRec) (s : State) : (updateNamed o f s).dsp = s.dsp := by cases o <;> rfl
@[simp] theorem updateNamed_trc (o : Option Nat) (f : LotRec → LotRec) (s : State) : (updateNamed o f s).trc = s.trc := by cases o <;> rfl
@[simp] theorem updateNamed_adm (o : Option Nat) (f : LotRec → LotRec) (s : State) : (updateNamed o f s).adm = s.adm := by cases o <;> rfl
@[simp] theorem updateNamed_lnk (o : Option Nat) (f : LotRec → LotRec) (s : State) : (updateNamed o f s).lnk = s.lnk := by cases o <;> rfl
@[simp] theorem updateNamed_nowMs (o : Option Nat) (f : LotRec → LotRec) (s : State) : (updateNamed o f s).nowMs = s.nowMs := by cases o <;> rfl
@[simp] theorem updateNamed_freeCount (o : Option Nat) (f : LotRec → LotRec) (s : State) : (updateNamed o f s).freeCount = s.freeCount := by cases o <;> rfl
@[simp] theorem updateNamed_pending (o : Option Nat) (f : LotRec → LotRec) (s : State) : (updateNamed o f s).pending = s.pending := by cases o <;> rfl

@[simp] theorem lotArrive_stc (o : Option Nat) (s : State) : (lotArrive o s).stc = s.stc := by simp [lotArrive]
@[simp] theorem lotArrive_out (o : Option Nat) (s : State) : (lotArrive o s).out = s.out := by simp [lotArrive]
@[simp] theorem lotArrive_port (o : Option Nat) (s : State) : (lotArrive o s).port = s.port := by simp [lotArrive]
@[simp] theorem lotArrive_idx (o : Option Nat) (s : State) : (lotArrive o s).idx = s.idx := by simp [lotArrive]
@[simp] theorem lotArrive_hnd (o : Option Nat) (s : State) : (lotArrive o s).hnd = s.hnd := by simp [lotArrive]
@[simp] theorem lotArrive_lid (o : Option Nat) (s : State) : (lotArrive o s).lid = s.lid := by simp [lotArrive]
@[simp] theorem lotArrive_tray (o : Option Nat) (s : State) : (lotArrive o s).tray = s.tray := by simp [lotArrive]
@[simp] theorem lotArrive_exp (o : Option Nat) (s : State) : (lotArrive o s).exp = s.exp := by simp [lotArrive]
@[simp] theorem lotArrive_dsp (o : Option Nat) (s : State) : (lotArrive o s).dsp = s.dsp := by simp [lotArrive]
@[simp] theorem lotArrive_trc (o : Option Nat) (s : State) : (lotArrive o s).trc = s.trc := by simp [lotArrive]
@[simp] theorem lotArrive_adm (o : Option Nat) (s : State) : (lotArrive o s).adm = s.adm := by simp [lotArrive]
@[simp] theorem lotArrive_lnk (o : Option Nat) (s : State) : (lotArrive o s).lnk = s.lnk := by simp [lotArrive]
@[simp] theorem lotArrive_nowMs (o : Option Nat) (s : State) : (lotArrive o s).nowMs = s.nowMs := by simp [lotArrive]
@[simp] theorem lotArrive_freeCount (o : Option Nat) (s : State) : (lotArrive o s).freeCount = s.freeCount := by simp [lotArrive]
@[simp] theorem lotArrive_pending (o : Option Nat) (s : State) : (lotArrive o s).pending = s.pending := by simp [lotArrive]

@[simp] theorem lotDepart_stc (o : Option Nat) (s : State) : (lotDepart o s).stc = s.stc := by simp [lotDepart]
@[simp] theorem lotDepart_out (o : Option Nat) (s : State) : (lotDepart o s).out = s.out := by simp [lotDepart]
@[simp] theorem lotDepart_port (o : Option Nat) (s : State) : (lotDepart o s).port = s.port := by simp [lotDepart]
@[simp] theorem lotDepart_idx (o : Option Nat) (s : State) : (lotDepart o s).idx = s.idx := by simp [lotDepart]
@[simp] theorem lotDepart_hnd (o : Option Nat) (s : State) : (lotDepart o s).hnd = s.hnd := by simp [lotDepart]
@[simp] theorem lotDepart_lid (o : Option Nat) (s : State) : (lotDepart o s).lid = s.lid := by simp [lotDepart]
@[simp] theorem lotDepart_tray (o : Option Nat) (s : State) : (lotDepart o s).tray = s.tray := by simp [lotDepart]
@[simp] theorem lotDepart_exp (o : Option Nat) (s : State) : (lotDepart o s).exp = s.exp := by simp [lotDepart]
@[simp] theorem lotDepart_dsp (o : Option Nat) (s : State) : (lotDepart o s).dsp = s.dsp := by simp [lotDepart]
@[simp] theorem lotDepart_trc (o : Option Nat) (s : State) : (lotDepart o s).trc = s.trc := by simp [lotDepart]
@[simp] theorem lotDepart_adm (o : Option Nat) (s : State) : (lotDepart o s).adm = s.adm := by simp [lotDepart]
@[simp] theorem lotDepart_lnk (o : Option Nat) (s : State) : (lotDepart o s).lnk = s.lnk := by simp [lotDepart]
@[simp] theorem lotDepart_nowMs (o : Option Nat) (s : State) : (lotDepart o s).nowMs = s.nowMs := by simp [lotDepart]
@[simp] theorem lotDepart_freeCount (o : Option Nat) (s : State) : (lotDepart o s).freeCount = s.freeCount := by simp [lotDepart]
@[simp] theorem lotDepart_pending (o : Option Nat) (s : State) : (lotDepart o s).pending = s.pending := by simp [lotDepart]

@[simp] theorem closeEntry_stc (i : Nat) (s : State) : (closeEntry i s).stc = s.stc := by unfold closeEntry; split <;> (try split) <;> rfl
@[simp] theorem closeEntry_out (i : Nat) (s : State) : (closeEntry i s).out = s.out := by unfold closeEntry; split <;> (try split) <;> rfl
@[simp] theorem closeEntry_port (i : Nat) (s : State) : (closeEntry i s).port = s.port := by unfold closeEntry; split <;> (try split) <;> rfl
@[simp] theorem closeEntry_idx (i : Nat) (s : State) : (closeEntry i s).idx = s.idx := by unfold closeEntry; split <;> (try split) <;> rfl
@[simp] theorem closeEntry_hnd (i : Nat) (s : State) : (closeEntry i s).hnd = s.hnd := by unfold closeEntry; split <;> (try split) <;> rfl
@[simp] theorem closeEntry_lid (i : Nat) (s : State) : (closeEntry i s).lid = s.lid := by unfold closeEntry; split <;> (try split) <;> rfl
@[simp] theorem closeEntry_tray (i : Nat) (s : State) : (closeEntry i s).tray = s.tray := by unfold closeEntry; split <;> (try split) <;> rfl
@[simp] theorem closeEntry_exp (i : Nat) (s : State) : (closeEntry i s).exp = s.exp := by unfold closeEntry; split <;> (try split) <;> rfl
@[simp] theorem closeEntry_dsp (i : Nat) (s : State) : (closeEntry i s).dsp = s.dsp := by unfold closeEntry; split <;> (try split) <;> rfl
@[simp] theorem closeEntry_trc (i : Nat) (s : State) : (closeEntry i s).trc = s.trc := by unfold closeEntry; split <;> (try split) <;> rfl
@[simp] theorem closeEntry_adm (i : Nat) (s : State) : (closeEntry i s).adm = s.adm := by unfold closeEntry; split <;> (try split) <;> rfl
@[simp] theorem closeEntry_lnk (i : Nat) (s : State) : (closeEntry i s).lnk = s.lnk := by unfold closeEntry; split <;> (try split) <;> rfl
@[simp] theorem closeEntry_nowMs (i : Nat) (s : State) : (closeEntry i s).nowMs = s.nowMs := by unfold closeEntry; split <;> (try split) <;> rfl
@[simp] theorem closeEntry_freeCount (i : Nat) (s : State) : (closeEntry i s).freeCount = s.freeCount := by unfold closeEntry; split <;> (try split) <;> rfl
@[simp] theorem closeEntry_pending (i : Nat) (s : State) : (closeEntry i s).pending = s.pending := by unfold closeEntry; split <;> (try split) <;> rfl

@[simp] theorem announceClose_stc (id : Nat) (s : State) : (announceClose id s).stc = s.stc := by unfold announceClose; split <;> simp
@[simp] theorem announceClose_out (id : Nat) (s : State) : (announceClose id s).out = s.out := by unfold announceClose; split <;> simp
@[simp] theorem announceClose_port (id : Nat) (s : State) : (announceClose id s).port = s.port := by unfold announceClose; split <;> simp
@[simp] theorem announceClose_idx (id : Nat) (s : State) : (announceClose id s).idx = s.idx := by unfold announceClose; split <;> simp
@[simp] theorem announceClose_hnd (id : Nat) (s : State) : (announceClose id s).hnd = s.hnd := by unfold announceClose; split <;> simp
@[simp] theorem announceClose_lid (id : Nat) (s : State) : (announceClose id s).lid = s.lid := by unfold announceClose; split <;> simp
@[simp] theorem announceClose_tray (id : Nat) (s : State) : (announceClose id s).tray = s.tray := by unfold announceClose; split <;> simp
@[simp] theorem announceClose_exp (id : Nat) (s : State) : (announceClose id s).exp = s.exp := by unfold announceClose; split <;> simp
@[simp] theorem announceClose_dsp (id : Nat) (s : State) : (announceClose id s).dsp = s.dsp := by unfold announceClose; split <;> simp
@[simp] theorem announceClose_trc (id : Nat) (s : State) : (announceClose id s).trc = s.trc := by unfold announceClose; split <;> simp
@[simp] theorem announceClose_adm (id : Nat) (s : State) : (announceClose id s).adm = s.adm := by unfold announceClose; split <;> simp
@[simp] theorem announceClose_nowMs (id : Nat) (s : State) : (announceClose id s).nowMs = s.nowMs := by unfold announceClose; split <;> simp
@[simp] theorem announceClose_freeCount (id : Nat) (s : State) : (announceClose id s).freeCount = s.freeCount := by unfold announceClose; split <;> simp
@[simp] theorem announceClose_pending (id : Nat) (s : State) : (announceClose id s).pending = s.pending := by unfold announceClose; split <;> simp

@[simp] theorem announceOpen_stc (s : State) : (announceOpen s).stc = s.stc := by unfold announceOpen; split <;> (try split) <;> simp
@[simp] theorem announceOpen_out (s : State) : (announceOpen s).out = s.out := by unfold announceOpen; split <;> (try split) <;> simp
@[simp] theorem announceOpen_port (s : State) : (announceOpen s).port = s.port := by unfold announceOpen; split <;> (try split) <;> simp
@[simp] theorem announceOpen_idx (s : State) : (announceOpen s).idx = s.idx := by unfold announceOpen; split <;> (try split) <;> simp
@[simp] theorem announceOpen_hnd (s : State) : (announceOpen s).hnd = s.hnd := by unfold announceOpen; split <;> (try split) <;> simp
@[simp] theorem announceOpen_lid (s : State) : (announceOpen s).lid = s.lid := by unfold announceOpen; split <;> (try split) <;> simp
@[simp] theorem announceOpen_tray (s : State) : (announceOpen s).tray = s.tray := by unfold announceOpen; split <;> (try split) <;> simp
@[simp] theorem announceOpen_exp (s : State) : (announceOpen s).exp = s.exp := by unfold announceOpen; split <;> (try split) <;> simp
@[simp] theorem announceOpen_dsp (s : State) : (announceOpen s).dsp = s.dsp := by unfold announceOpen; split <;> (try split) <;> simp
@[simp] theorem announceOpen_trc (s : State) : (announceOpen s).trc = s.trc := by unfold announceOpen; split <;> (try split) <;> simp
@[simp] theorem announceOpen_adm (s : State) : (announceOpen s).adm = s.adm := by unfold announceOpen; split <;> (try split) <;> simp
@[simp] theorem announceOpen_nowMs (s : State) : (announceOpen s).nowMs = s.nowMs := by unfold announceOpen; split <;> (try split) <;> simp
@[simp] theorem announceOpen_freeCount (s : State) : (announceOpen s).freeCount = s.freeCount := by unfold announceOpen; split <;> (try split) <;> simp
@[simp] theorem announceOpen_pending (s : State) : (announceOpen s).pending = s.pending := by unfold announceOpen; split <;> (try split) <;> simp

@[simp] theorem closeOpenLot_stc (s : State) : (closeOpenLot s).stc = s.stc := by unfold closeOpenLot; split <;> simp
@[simp] theorem closeOpenLot_out (s : State) : (closeOpenLot s).out = s.out := by unfold closeOpenLot; split <;> simp
@[simp] theorem closeOpenLot_port (s : State) : (closeOpenLot s).port = s.port := by unfold closeOpenLot; split <;> simp
@[simp] theorem closeOpenLot_idx (s : State) : (closeOpenLot s).idx = s.idx := by unfold closeOpenLot; split <;> simp
@[simp] theorem closeOpenLot_hnd (s : State) : (closeOpenLot s).hnd = s.hnd := by unfold closeOpenLot; split <;> simp
@[simp] theorem closeOpenLot_lid (s : State) : (closeOpenLot s).lid = s.lid := by unfold closeOpenLot; split <;> simp
@[simp] theorem closeOpenLot_tray (s : State) : (closeOpenLot s).tray = s.tray := by unfold closeOpenLot; split <;> simp
@[simp] theorem closeOpenLot_exp (s : State) : (closeOpenLot s).exp = s.exp := by unfold closeOpenLot; split <;> simp
@[simp] theorem closeOpenLot_dsp (s : State) : (closeOpenLot s).dsp = s.dsp := by unfold closeOpenLot; split <;> simp
@[simp] theorem closeOpenLot_trc (s : State) : (closeOpenLot s).trc = s.trc := by unfold closeOpenLot; split <;> simp
@[simp] theorem closeOpenLot_adm (s : State) : (closeOpenLot s).adm = s.adm := by unfold closeOpenLot; split <;> simp
@[simp] theorem closeOpenLot_nowMs (s : State) : (closeOpenLot s).nowMs = s.nowMs := by unfold closeOpenLot; split <;> simp
@[simp] theorem closeOpenLot_freeCount (s : State) : (closeOpenLot s).freeCount = s.freeCount := by unfold closeOpenLot; split <;> simp
@[simp] theorem closeOpenLot_pending (s : State) : (closeOpenLot s).pending = s.pending := by unfold closeOpenLot; split <;> simp

@[simp] theorem updateRow_stc (p : Nat) (f : RowBody → RowBody) (s : State) : (updateRow p f s).stc = s.stc := rfl
@[simp] theorem updateRow_out (p : Nat) (f : RowBody → RowBody) (s : State) : (updateRow p f s).out = s.out := rfl
@[simp] theorem updateRow_port (p : Nat) (f : RowBody → RowBody) (s : State) : (updateRow p f s).port = s.port := rfl
@[simp] theorem updateRow_hnd (p : Nat) (f : RowBody → RowBody) (s : State) : (updateRow p f s).hnd = s.hnd := rfl
@[simp] theorem updateRow_lot (p : Nat) (f : RowBody → RowBody) (s : State) : (updateRow p f s).lot = s.lot := rfl
@[simp] theorem updateRow_lid (p : Nat) (f : RowBody → RowBody) (s : State) : (updateRow p f s).lid = s.lid := rfl
@[simp] theorem updateRow_tray (p : Nat) (f : RowBody → RowBody) (s : State) : (updateRow p f s).tray = s.tray := rfl
@[simp] theorem updateRow_exp (p : Nat) (f : RowBody → RowBody) (s : State) : (updateRow p f s).exp = s.exp := rfl
@[simp] theorem updateRow_dsp (p : Nat) (f : RowBody → RowBody) (s : State) : (updateRow p f s).dsp = s.dsp := rfl
@[simp] theorem updateRow_trc (p : Nat) (f : RowBody → RowBody) (s : State) : (updateRow p f s).trc = s.trc := rfl
@[simp] theorem updateRow_adm (p : Nat) (f : RowBody → RowBody) (s : State) : (updateRow p f s).adm = s.adm := rfl
@[simp] theorem updateRow_lnk (p : Nat) (f : RowBody → RowBody) (s : State) : (updateRow p f s).lnk = s.lnk := rfl
@[simp] theorem updateRow_nowMs (p : Nat) (f : RowBody → RowBody) (s : State) : (updateRow p f s).nowMs = s.nowMs := rfl
@[simp] theorem updateRow_freeCount (p : Nat) (f : RowBody → RowBody) (s : State) : (updateRow p f s).freeCount = s.freeCount := rfl
@[simp] theorem updateRow_pending (p : Nat) (f : RowBody → RowBody) (s : State) : (updateRow p f s).pending = s.pending := rfl

@[simp] theorem enterRow_stc (b : RowBody) (s : State) : (enterRow b s).stc = s.stc := rfl
@[simp] theorem enterRow_out (b : RowBody) (s : State) : (enterRow b s).out = s.out := rfl
@[simp] theorem enterRow_port (b : RowBody) (s : State) : (enterRow b s).port = s.port := rfl
@[simp] theorem enterRow_hnd (b : RowBody) (s : State) : (enterRow b s).hnd = s.hnd := rfl
@[simp] theorem enterRow_lot (b : RowBody) (s : State) : (enterRow b s).lot = s.lot := rfl
@[simp] theorem enterRow_lid (b : RowBody) (s : State) : (enterRow b s).lid = s.lid := rfl
@[simp] theorem enterRow_tray (b : RowBody) (s : State) : (enterRow b s).tray = s.tray := rfl
@[simp] theorem enterRow_exp (b : RowBody) (s : State) : (enterRow b s).exp = s.exp := rfl
@[simp] theorem enterRow_dsp (b : RowBody) (s : State) : (enterRow b s).dsp = s.dsp := rfl
@[simp] theorem enterRow_trc (b : RowBody) (s : State) : (enterRow b s).trc = s.trc := rfl
@[simp] theorem enterRow_adm (b : RowBody) (s : State) : (enterRow b s).adm = s.adm := rfl
@[simp] theorem enterRow_lnk (b : RowBody) (s : State) : (enterRow b s).lnk = s.lnk := rfl
@[simp] theorem enterRow_nowMs (b : RowBody) (s : State) : (enterRow b s).nowMs = s.nowMs := rfl
@[simp] theorem enterRow_freeCount (b : RowBody) (s : State) : (enterRow b s).freeCount = s.freeCount := rfl
@[simp] theorem enterRow_pending (b : RowBody) (s : State) : (enterRow b s).pending = s.pending := rfl

@[simp] theorem setActive_stc (b : List (Option OrderEntry)) (s : State) : (setActive b s).stc = s.stc := by unfold setActive; split <;> rfl
@[simp] theorem setActive_out (b : List (Option OrderEntry)) (s : State) : (setActive b s).out = s.out := by unfold setActive; split <;> rfl
@[simp] theorem setActive_port (b : List (Option OrderEntry)) (s : State) : (setActive b s).port = s.port := by unfold setActive; split <;> rfl
@[simp] theorem setActive_idx (b : List (Option OrderEntry)) (s : State) : (setActive b s).idx = s.idx := by unfold setActive; split <;> rfl
@[simp] theorem setActive_hnd (b : List (Option OrderEntry)) (s : State) : (setActive b s).hnd = s.hnd := by unfold setActive; split <;> rfl
@[simp] theorem setActive_lot (b : List (Option OrderEntry)) (s : State) : (setActive b s).lot = s.lot := by unfold setActive; split <;> rfl
@[simp] theorem setActive_lid (b : List (Option OrderEntry)) (s : State) : (setActive b s).lid = s.lid := by unfold setActive; split <;> rfl
@[simp] theorem setActive_tray (b : List (Option OrderEntry)) (s : State) : (setActive b s).tray = s.tray := by unfold setActive; split <;> rfl
@[simp] theorem setActive_exp (b : List (Option OrderEntry)) (s : State) : (setActive b s).exp = s.exp := by unfold setActive; split <;> rfl
@[simp] theorem setActive_trc (b : List (Option OrderEntry)) (s : State) : (setActive b s).trc = s.trc := by unfold setActive; split <;> rfl
@[simp] theorem setActive_adm (b : List (Option OrderEntry)) (s : State) : (setActive b s).adm = s.adm := by unfold setActive; split <;> rfl
@[simp] theorem setActive_lnk (b : List (Option OrderEntry)) (s : State) : (setActive b s).lnk = s.lnk := by unfold setActive; split <;> rfl
@[simp] theorem setActive_nowMs (b : List (Option OrderEntry)) (s : State) : (setActive b s).nowMs = s.nowMs := by unfold setActive; split <;> rfl
@[simp] theorem setActive_freeCount (b : List (Option OrderEntry)) (s : State) : (setActive b s).freeCount = s.freeCount := by unfold setActive; split <;> rfl
@[simp] theorem setActive_pending (b : List (Option OrderEntry)) (s : State) : (setActive b s).pending = s.pending := by unfold setActive; split <;> rfl

@[simp] theorem setStandby_stc (b : List (Option OrderEntry)) (s : State) : (setStandby b s).stc = s.stc := by unfold setStandby; split <;> rfl
@[simp] theorem setStandby_out (b : List (Option OrderEntry)) (s : State) : (setStandby b s).out = s.out := by unfold setStandby; split <;> rfl
@[simp] theorem setStandby_port (b : List (Option OrderEntry)) (s : State) : (setStandby b s).port = s.port := by unfold setStandby; split <;> rfl
@[simp] theorem setStandby_idx (b : List (Option OrderEntry)) (s : State) : (setStandby b s).idx = s.idx := by unfold setStandby; split <;> rfl
@[simp] theorem setStandby_hnd (b : List (Option OrderEntry)) (s : State) : (setStandby b s).hnd = s.hnd := by unfold setStandby; split <;> rfl
@[simp] theorem setStandby_lot (b : List (Option OrderEntry)) (s : State) : (setStandby b s).lot = s.lot := by unfold setStandby; split <;> rfl
@[simp] theorem setStandby_lid (b : List (Option OrderEntry)) (s : State) : (setStandby b s).lid = s.lid := by unfold setStandby; split <;> rfl
@[simp] theorem setStandby_tray (b : List (Option OrderEntry)) (s : State) : (setStandby b s).tray = s.tray := by unfold setStandby; split <;> rfl
@[simp] theorem setStandby_exp (b : List (Option OrderEntry)) (s : State) : (setStandby b s).exp = s.exp := by unfold setStandby; split <;> rfl
@[simp] theorem setStandby_trc (b : List (Option OrderEntry)) (s : State) : (setStandby b s).trc = s.trc := by unfold setStandby; split <;> rfl
@[simp] theorem setStandby_adm (b : List (Option OrderEntry)) (s : State) : (setStandby b s).adm = s.adm := by unfold setStandby; split <;> rfl
@[simp] theorem setStandby_lnk (b : List (Option OrderEntry)) (s : State) : (setStandby b s).lnk = s.lnk := by unfold setStandby; split <;> rfl
@[simp] theorem setStandby_nowMs (b : List (Option OrderEntry)) (s : State) : (setStandby b s).nowMs = s.nowMs := by unfold setStandby; split <;> rfl
@[simp] theorem setStandby_freeCount (b : List (Option OrderEntry)) (s : State) : (setStandby b s).freeCount = s.freeCount := by unfold setStandby; split <;> rfl
@[simp] theorem setStandby_pending (b : List (Option OrderEntry)) (s : State) : (setStandby b s).pending = s.pending := by unfold setStandby; split <;> rfl

@[simp] theorem updateEntry_stc (i : Nat) (f : OrderEntry → OrderEntry) (s : State) : (updateEntry i f s).stc = s.stc := by simp [updateEntry]
@[simp] theorem updateEntry_out (i : Nat) (f : OrderEntry → OrderEntry) (s : State) : (updateEntry i f s).out = s.out := by simp [updateEntry]
@[simp] theorem updateEntry_port (i : Nat) (f : OrderEntry → OrderEntry) (s : State) : (updateEntry i f s).port = s.port := by simp [updateEntry]
@[simp] theorem updateEntry_idx (i : Nat) (f : OrderEntry → OrderEntry) (s : State) : (updateEntry i f s).idx = s.idx := by simp [updateEntry]
@[simp] theorem updateEntry_hnd (i : Nat) (f : OrderEntry → OrderEntry) (s : State) : (updateEntry i f s).hnd = s.hnd := by simp [updateEntry]
@[simp] theorem updateEntry_lot (i : Nat) (f : OrderEntry → OrderEntry) (s : State) : (updateEntry i f s).lot = s.lot := by simp [updateEntry]
@[simp] theorem updateEntry_lid (i : Nat) (f : OrderEntry → OrderEntry) (s : State) : (updateEntry i f s).lid = s.lid := by simp [updateEntry]
@[simp] theorem updateEntry_tray (i : Nat) (f : OrderEntry → OrderEntry) (s : State) : (updateEntry i f s).tray = s.tray := by simp [updateEntry]
@[simp] theorem updateEntry_exp (i : Nat) (f : OrderEntry → OrderEntry) (s : State) : (updateEntry i f s).exp = s.exp := by simp [updateEntry]
@[simp] theorem updateEntry_trc (i : Nat) (f : OrderEntry → OrderEntry) (s : State) : (updateEntry i f s).trc = s.trc := by simp [updateEntry]
@[simp] theorem updateEntry_adm (i : Nat) (f : OrderEntry → OrderEntry) (s : State) : (updateEntry i f s).adm = s.adm := by simp [updateEntry]
@[simp] theorem updateEntry_lnk (i : Nat) (f : OrderEntry → OrderEntry) (s : State) : (updateEntry i f s).lnk = s.lnk := by simp [updateEntry]
@[simp] theorem updateEntry_nowMs (i : Nat) (f : OrderEntry → OrderEntry) (s : State) : (updateEntry i f s).nowMs = s.nowMs := by simp [updateEntry]
@[simp] theorem updateEntry_freeCount (i : Nat) (f : OrderEntry → OrderEntry) (s : State) : (updateEntry i f s).freeCount = s.freeCount := by simp [updateEntry]
@[simp] theorem updateEntry_pending (i : Nat) (f : OrderEntry → OrderEntry) (s : State) : (updateEntry i f s).pending = s.pending := by simp [updateEntry]

@[simp] theorem unassign_stc (o : Option Nat) (s : State) : (unassign o s).stc = s.stc := by unfold unassign; split <;> simp
@[simp] theorem unassign_out (o : Option Nat) (s : State) : (unassign o s).out = s.out := by unfold unassign; split <;> simp
@[simp] theorem unassign_port (o : Option Nat) (s : State) : (unassign o s).port = s.port := by unfold unassign; split <;> simp
@[simp] theorem unassign_idx (o : Option Nat) (s : State) : (unassign o s).idx = s.idx := by unfold unassign; split <;> simp
@[simp] theorem unassign_hnd (o : Option Nat) (s : State) : (unassign o s).hnd = s.hnd := by unfold unassign; split <;> simp
@[simp] theorem unassign_lot (o : Option Nat) (s : State) : (unassign o s).lot = s.lot := by unfold unassign; split <;> simp
@[simp] theorem unassign_lid (o : Option Nat) (s : State) : (unassign o s).lid = s.lid := by unfold unassign; split <;> simp
@[simp] theorem unassign_tray (o : Option Nat) (s : State) : (unassign o s).tray = s.tray := by unfold unassign; split <;> simp
@[simp] theorem unassign_exp (o : Option Nat) (s : State) : (unassign o s).exp = s.exp := by unfold unassign; split <;> simp
@[simp] theorem unassign_trc (o : Option Nat) (s : State) : (unassign o s).trc = s.trc := by unfold unassign; split <;> simp
@[simp] theorem unassign_adm (o : Option Nat) (s : State) : (unassign o s).adm = s.adm := by unfold unassign; split <;> simp
@[simp] theorem unassign_lnk (o : Option Nat) (s : State) : (unassign o s).lnk = s.lnk := by unfold unassign; split <;> simp
@[simp] theorem unassign_nowMs (o : Option Nat) (s : State) : (unassign o s).nowMs = s.nowMs := by unfold unassign; split <;> simp
@[simp] theorem unassign_freeCount (o : Option Nat) (s : State) : (unassign o s).freeCount = s.freeCount := by unfold unassign; split <;> simp
@[simp] theorem unassign_pending (o : Option Nat) (s : State) : (unassign o s).pending = s.pending := by unfold unassign; split <;> simp

@[simp] theorem setSlot_stc (j : Nat) (o : Option Slot) (s : State) : (setSlot j o s).stc = s.stc := rfl
@[simp] theorem setSlot_out (j : Nat) (o : Option Slot) (s : State) : (setSlot j o s).out = s.out := rfl
@[simp] theorem setSlot_port (j : Nat) (o : Option Slot) (s : State) : (setSlot j o s).port = s.port := rfl
@[simp] theorem setSlot_idx (j : Nat) (o : Option Slot) (s : State) : (setSlot j o s).idx = s.idx := rfl
@[simp] theorem setSlot_hnd (j : Nat) (o : Option Slot) (s : State) : (setSlot j o s).hnd = s.hnd := rfl
@[simp] theorem setSlot_lot (j : Nat) (o : Option Slot) (s : State) : (setSlot j o s).lot = s.lot := rfl
@[simp] theorem setSlot_lid (j : Nat) (o : Option Slot) (s : State) : (setSlot j o s).lid = s.lid := rfl
@[simp] theorem setSlot_tray (j : Nat) (o : Option Slot) (s : State) : (setSlot j o s).tray = s.tray := rfl
@[simp] theorem setSlot_exp (j : Nat) (o : Option Slot) (s : State) : (setSlot j o s).exp = s.exp := rfl
@[simp] theorem setSlot_trc (j : Nat) (o : Option Slot) (s : State) : (setSlot j o s).trc = s.trc := rfl
@[simp] theorem setSlot_adm (j : Nat) (o : Option Slot) (s : State) : (setSlot j o s).adm = s.adm := rfl
@[simp] theorem setSlot_lnk (j : Nat) (o : Option Slot) (s : State) : (setSlot j o s).lnk = s.lnk := rfl
@[simp] theorem setSlot_nowMs (j : Nat) (o : Option Slot) (s : State) : (setSlot j o s).nowMs = s.nowMs := rfl
@[simp] theorem setSlot_freeCount (j : Nat) (o : Option Slot) (s : State) : (setSlot j o s).freeCount = s.freeCount := rfl
@[simp] theorem setSlot_pending (j : Nat) (o : Option Slot) (s : State) : (setSlot j o s).pending = s.pending := rfl

@[simp] theorem updateCell_stc (i : Nat) (f : Cell → Cell) (s : State) : (updateCell i f s).stc = s.stc := rfl
@[simp] theorem updateCell_out (i : Nat) (f : Cell → Cell) (s : State) : (updateCell i f s).out = s.out := rfl
@[simp] theorem updateCell_port (i : Nat) (f : Cell → Cell) (s : State) : (updateCell i f s).port = s.port := rfl
@[simp] theorem updateCell_idx (i : Nat) (f : Cell → Cell) (s : State) : (updateCell i f s).idx = s.idx := rfl
@[simp] theorem updateCell_hnd (i : Nat) (f : Cell → Cell) (s : State) : (updateCell i f s).hnd = s.hnd := rfl
@[simp] theorem updateCell_lot (i : Nat) (f : Cell → Cell) (s : State) : (updateCell i f s).lot = s.lot := rfl
@[simp] theorem updateCell_lid (i : Nat) (f : Cell → Cell) (s : State) : (updateCell i f s).lid = s.lid := rfl
@[simp] theorem updateCell_exp (i : Nat) (f : Cell → Cell) (s : State) : (updateCell i f s).exp = s.exp := rfl
@[simp] theorem updateCell_dsp (i : Nat) (f : Cell → Cell) (s : State) : (updateCell i f s).dsp = s.dsp := rfl
@[simp] theorem updateCell_trc (i : Nat) (f : Cell → Cell) (s : State) : (updateCell i f s).trc = s.trc := rfl
@[simp] theorem updateCell_adm (i : Nat) (f : Cell → Cell) (s : State) : (updateCell i f s).adm = s.adm := rfl
@[simp] theorem updateCell_lnk (i : Nat) (f : Cell → Cell) (s : State) : (updateCell i f s).lnk = s.lnk := rfl
@[simp] theorem updateCell_nowMs (i : Nat) (f : Cell → Cell) (s : State) : (updateCell i f s).nowMs = s.nowMs := rfl
@[simp] theorem updateCell_freeCount (i : Nat) (f : Cell → Cell) (s : State) : (updateCell i f s).freeCount = s.freeCount := rfl
@[simp] theorem updateCell_pending (i : Nat) (f : Cell → Cell) (s : State) : (updateCell i f s).pending = s.pending := rfl

@[simp] theorem updateCellTray_stc (i : Nat) (f : Tray → Tray) (s : State) : (updateCellTray i f s).stc = s.stc := rfl
@[simp] theorem updateCellTray_out (i : Nat) (f : Tray → Tray) (s : State) : (updateCellTray i f s).out = s.out := rfl
@[simp] theorem updateCellTray_port (i : Nat) (f : Tray → Tray) (s : State) : (updateCellTray i f s).port = s.port := rfl
@[simp] theorem updateCellTray_idx (i : Nat) (f : Tray → Tray) (s : State) : (updateCellTray i f s).idx = s.idx := rfl
@[simp] theorem updateCellTray_hnd (i : Nat) (f : Tray → Tray) (s : State) : (updateCellTray i f s).hnd = s.hnd := rfl
@[simp] theorem updateCellTray_lot (i : Nat) (f : Tray → Tray) (s : State) : (updateCellTray i f s).lot = s.lot := rfl
@[simp] theorem updateCellTray_lid (i : Nat) (f : Tray → Tray) (s : State) : (updateCellTray i f s).lid = s.lid := rfl
@[simp] theorem updateCellTray_exp (i : Nat) (f : Tray → Tray) (s : State) : (updateCellTray i f s).exp = s.exp := rfl
@[simp] theorem updateCellTray_dsp (i : Nat) (f : Tray → Tray) (s : State) : (updateCellTray i f s).dsp = s.dsp := rfl
@[simp] theorem updateCellTray_trc (i : Nat) (f : Tray → Tray) (s : State) : (updateCellTray i f s).trc = s.trc := rfl
@[simp] theorem updateCellTray_adm (i : Nat) (f : Tray → Tray) (s : State) : (updateCellTray i f s).adm = s.adm := rfl
@[simp] theorem updateCellTray_lnk (i : Nat) (f : Tray → Tray) (s : State) : (updateCellTray i f s).lnk = s.lnk := rfl
@[simp] theorem updateCellTray_nowMs (i : Nat) (f : Tray → Tray) (s : State) : (updateCellTray i f s).nowMs = s.nowMs := rfl
@[simp] theorem updateCellTray_freeCount (i : Nat) (f : Tray → Tray) (s : State) : (updateCellTray i f s).freeCount = s.freeCount := rfl
@[simp] theorem updateCellTray_pending (i : Nat) (f : Tray → Tray) (s : State) : (updateCellTray i f s).pending = s.pending := rfl

@[simp] theorem updateLane_stc (n : Nat) (f : Lane → Lane) (s : State) : (updateLane n f s).stc = s.stc := by unfold updateLane; split <;> rfl
@[simp] theorem updateLane_out (n : Nat) (f : Lane → Lane) (s : State) : (updateLane n f s).out = s.out := by unfold updateLane; split <;> rfl
@[simp] theorem updateLane_port (n : Nat) (f : Lane → Lane) (s : State) : (updateLane n f s).port = s.port := by unfold updateLane; split <;> rfl
@[simp] theorem updateLane_idx (n : Nat) (f : Lane → Lane) (s : State) : (updateLane n f s).idx = s.idx := by unfold updateLane; split <;> rfl
@[simp] theorem updateLane_hnd (n : Nat) (f : Lane → Lane) (s : State) : (updateLane n f s).hnd = s.hnd := by unfold updateLane; split <;> rfl
@[simp] theorem updateLane_lot (n : Nat) (f : Lane → Lane) (s : State) : (updateLane n f s).lot = s.lot := by unfold updateLane; split <;> rfl
@[simp] theorem updateLane_lid (n : Nat) (f : Lane → Lane) (s : State) : (updateLane n f s).lid = s.lid := by unfold updateLane; split <;> rfl
@[simp] theorem updateLane_tray (n : Nat) (f : Lane → Lane) (s : State) : (updateLane n f s).tray = s.tray := by unfold updateLane; split <;> rfl
@[simp] theorem updateLane_exp (n : Nat) (f : Lane → Lane) (s : State) : (updateLane n f s).exp = s.exp := by unfold updateLane; split <;> rfl
@[simp] theorem updateLane_dsp (n : Nat) (f : Lane → Lane) (s : State) : (updateLane n f s).dsp = s.dsp := by unfold updateLane; split <;> rfl
@[simp] theorem updateLane_trc (n : Nat) (f : Lane → Lane) (s : State) : (updateLane n f s).trc = s.trc := by unfold updateLane; split <;> rfl
@[simp] theorem updateLane_lnk (n : Nat) (f : Lane → Lane) (s : State) : (updateLane n f s).lnk = s.lnk := by unfold updateLane; split <;> rfl
@[simp] theorem updateLane_nowMs (n : Nat) (f : Lane → Lane) (s : State) : (updateLane n f s).nowMs = s.nowMs := by unfold updateLane; split <;> rfl
@[simp] theorem updateLane_freeCount (n : Nat) (f : Lane → Lane) (s : State) : (updateLane n f s).freeCount = s.freeCount := by unfold updateLane; split <;> rfl
@[simp] theorem updateLane_pending (n : Nat) (f : Lane → Lane) (s : State) : (updateLane n f s).pending = s.pending := by unfold updateLane; split <;> rfl

@[simp] theorem setAdmission_stc (i : Nat) (e : Option Admission) (s : State) : (setAdmission i e s).stc = s.stc := rfl
@[simp] theorem setAdmission_out (i : Nat) (e : Option Admission) (s : State) : (setAdmission i e s).out = s.out := rfl
@[simp] theorem setAdmission_port (i : Nat) (e : Option Admission) (s : State) : (setAdmission i e s).port = s.port := rfl
@[simp] theorem setAdmission_idx (i : Nat) (e : Option Admission) (s : State) : (setAdmission i e s).idx = s.idx := rfl
@[simp] theorem setAdmission_hnd (i : Nat) (e : Option Admission) (s : State) : (setAdmission i e s).hnd = s.hnd := rfl
@[simp] theorem setAdmission_lot (i : Nat) (e : Option Admission) (s : State) : (setAdmission i e s).lot = s.lot := rfl
@[simp] theorem setAdmission_lid (i : Nat) (e : Option Admission) (s : State) : (setAdmission i e s).lid = s.lid := rfl
@[simp] theorem setAdmission_tray (i : Nat) (e : Option Admission) (s : State) : (setAdmission i e s).tray = s.tray := rfl
@[simp] theorem setAdmission_exp (i : Nat) (e : Option Admission) (s : State) : (setAdmission i e s).exp = s.exp := rfl
@[simp] theorem setAdmission_dsp (i : Nat) (e : Option Admission) (s : State) : (setAdmission i e s).dsp = s.dsp := rfl
@[simp] theorem setAdmission_trc (i : Nat) (e : Option Admission) (s : State) : (setAdmission i e s).trc = s.trc := rfl
@[simp] theorem setAdmission_lnk (i : Nat) (e : Option Admission) (s : State) : (setAdmission i e s).lnk = s.lnk := rfl
@[simp] theorem setAdmission_nowMs (i : Nat) (e : Option Admission) (s : State) : (setAdmission i e s).nowMs = s.nowMs := rfl
@[simp] theorem setAdmission_freeCount (i : Nat) (e : Option Admission) (s : State) : (setAdmission i e s).freeCount = s.freeCount := rfl
@[simp] theorem setAdmission_pending (i : Nat) (e : Option Admission) (s : State) : (setAdmission i e s).pending = s.pending := rfl

@[simp] theorem dropManifest_stc (t : TrayId) (s : State) : (dropManifest t s).stc = s.stc := by unfold dropManifest; split <;> rfl
@[simp] theorem dropManifest_out (t : TrayId) (s : State) : (dropManifest t s).out = s.out := by unfold dropManifest; split <;> rfl
@[simp] theorem dropManifest_port (t : TrayId) (s : State) : (dropManifest t s).port = s.port := by unfold dropManifest; split <;> rfl
@[simp] theorem dropManifest_idx (t : TrayId) (s : State) : (dropManifest t s).idx = s.idx := by unfold dropManifest; split <;> rfl
@[simp] theorem dropManifest_hnd (t : TrayId) (s : State) : (dropManifest t s).hnd = s.hnd := by unfold dropManifest; split <;> rfl
@[simp] theorem dropManifest_lot (t : TrayId) (s : State) : (dropManifest t s).lot = s.lot := by unfold dropManifest; split <;> rfl
@[simp] theorem dropManifest_lid (t : TrayId) (s : State) : (dropManifest t s).lid = s.lid := by unfold dropManifest; split <;> rfl
@[simp] theorem dropManifest_tray (t : TrayId) (s : State) : (dropManifest t s).tray = s.tray := by unfold dropManifest; split <;> rfl
@[simp] theorem dropManifest_exp (t : TrayId) (s : State) : (dropManifest t s).exp = s.exp := by unfold dropManifest; split <;> rfl
@[simp] theorem dropManifest_dsp (t : TrayId) (s : State) : (dropManifest t s).dsp = s.dsp := by unfold dropManifest; split <;> rfl
@[simp] theorem dropManifest_trc (t : TrayId) (s : State) : (dropManifest t s).trc = s.trc := by unfold dropManifest; split <;> rfl
@[simp] theorem dropManifest_lnk (t : TrayId) (s : State) : (dropManifest t s).lnk = s.lnk := by unfold dropManifest; split <;> rfl
@[simp] theorem dropManifest_nowMs (t : TrayId) (s : State) : (dropManifest t s).nowMs = s.nowMs := by unfold dropManifest; split <;> rfl
@[simp] theorem dropManifest_freeCount (t : TrayId) (s : State) : (dropManifest t s).freeCount = s.freeCount := by unfold dropManifest; split <;> rfl
@[simp] theorem dropManifest_pending (t : TrayId) (s : State) : (dropManifest t s).pending = s.pending := by unfold dropManifest; split <;> rfl

@[simp] theorem removeEntry_stc (i : Nat) (e : Admission) (s : State) : (removeEntry i e s).stc = s.stc := by simp [removeEntry]
@[simp] theorem removeEntry_out (i : Nat) (e : Admission) (s : State) : (removeEntry i e s).out = s.out := by simp [removeEntry]
@[simp] theorem removeEntry_port (i : Nat) (e : Admission) (s : State) : (removeEntry i e s).port = s.port := by simp [removeEntry]
@[simp] theorem removeEntry_idx (i : Nat) (e : Admission) (s : State) : (removeEntry i e s).idx = s.idx := by simp [removeEntry]
@[simp] theorem removeEntry_hnd (i : Nat) (e : Admission) (s : State) : (removeEntry i e s).hnd = s.hnd := by simp [removeEntry]
@[simp] theorem removeEntry_lot (i : Nat) (e : Admission) (s : State) : (removeEntry i e s).lot = s.lot := by simp [removeEntry]
@[simp] theorem removeEntry_lid (i : Nat) (e : Admission) (s : State) : (removeEntry i e s).lid = s.lid := by simp [removeEntry]
@[simp] theorem removeEntry_tray (i : Nat) (e : Admission) (s : State) : (removeEntry i e s).tray = s.tray := by simp [removeEntry]
@[simp] theorem removeEntry_exp (i : Nat) (e : Admission) (s : State) : (removeEntry i e s).exp = s.exp := by simp [removeEntry]
@[simp] theorem removeEntry_dsp (i : Nat) (e : Admission) (s : State) : (removeEntry i e s).dsp = s.dsp := by simp [removeEntry]
@[simp] theorem removeEntry_trc (i : Nat) (e : Admission) (s : State) : (removeEntry i e s).trc = s.trc := by simp [removeEntry]
@[simp] theorem removeEntry_lnk (i : Nat) (e : Admission) (s : State) : (removeEntry i e s).lnk = s.lnk := by simp [removeEntry]
@[simp] theorem removeEntry_nowMs (i : Nat) (e : Admission) (s : State) : (removeEntry i e s).nowMs = s.nowMs := by simp [removeEntry]
@[simp] theorem removeEntry_freeCount (i : Nat) (e : Admission) (s : State) : (removeEntry i e s).freeCount = s.freeCount := by simp [removeEntry]
@[simp] theorem removeEntry_pending (i : Nat) (e : Admission) (s : State) : (removeEntry i e s).pending = s.pending := by simp [removeEntry]

@[simp] theorem endReservation_stc (i : Nat) (e : Admission) (s : State) : (endReservation i e s).stc = s.stc := by simp [endReservation]
@[simp] theorem endReservation_out (i : Nat) (e : Admission) (s : State) : (endReservation i e s).out = s.out := by simp [endReservation]
@[simp] theorem endReservation_port (i : Nat) (e : Admission) (s : State) : (endReservation i e s).port = s.port := by simp [endReservation]
@[simp] theorem endReservation_idx (i : Nat) (e : Admission) (s : State) : (endReservation i e s).idx = s.idx := by simp [endReservation]
@[simp] theorem endReservation_hnd (i : Nat) (e : Admission) (s : State) : (endReservation i e s).hnd = s.hnd := by simp [endReservation]
@[simp] theorem endReservation_lot (i : Nat) (e : Admission) (s : State) : (endReservation i e s).lot = s.lot := by simp [endReservation]
@[simp] theorem endReservation_lid (i : Nat) (e : Admission) (s : State) : (endReservation i e s).lid = s.lid := by simp [endReservation]
@[simp] theorem endReservation_tray (i : Nat) (e : Admission) (s : State) : (endReservation i e s).tray = s.tray := by simp [endReservation]
@[simp] theorem endReservation_exp (i : Nat) (e : Admission) (s : State) : (endReservation i e s).exp = s.exp := by simp [endReservation]
@[simp] theorem endReservation_dsp (i : Nat) (e : Admission) (s : State) : (endReservation i e s).dsp = s.dsp := by simp [endReservation]
@[simp] theorem endReservation_trc (i : Nat) (e : Admission) (s : State) : (endReservation i e s).trc = s.trc := by simp [endReservation]
@[simp] theorem endReservation_lnk (i : Nat) (e : Admission) (s : State) : (endReservation i e s).lnk = s.lnk := by simp [endReservation]
@[simp] theorem endReservation_nowMs (i : Nat) (e : Admission) (s : State) : (endReservation i e s).nowMs = s.nowMs := by simp [endReservation]
@[simp] theorem endReservation_freeCount (i : Nat) (e : Admission) (s : State) : (endReservation i e s).freeCount = s.freeCount := by simp [endReservation]
@[simp] theorem endReservation_pending (i : Nat) (e : Admission) (s : State) : (endReservation i e s).pending = s.pending := by simp [endReservation]

@[simp] theorem serveEntry_stc (i : Nat) (s : State) : (serveEntry i s).stc = s.stc := by unfold serveEntry; split <;> (try split) <;> simp
@[simp] theorem serveEntry_out (i : Nat) (s : State) : (serveEntry i s).out = s.out := by unfold serveEntry; split <;> (try split) <;> simp
@[simp] theorem serveEntry_port (i : Nat) (s : State) : (serveEntry i s).port = s.port := by unfold serveEntry; split <;> (try split) <;> simp
@[simp] theorem serveEntry_idx (i : Nat) (s : State) : (serveEntry i s).idx = s.idx := by unfold serveEntry; split <;> (try split) <;> simp
@[simp] theorem serveEntry_hnd (i : Nat) (s : State) : (serveEntry i s).hnd = s.hnd := by unfold serveEntry; split <;> (try split) <;> simp
@[simp] theorem serveEntry_lot (i : Nat) (s : State) : (serveEntry i s).lot = s.lot := by unfold serveEntry; split <;> (try split) <;> simp
@[simp] theorem serveEntry_lid (i : Nat) (s : State) : (serveEntry i s).lid = s.lid := by unfold serveEntry; split <;> (try split) <;> simp
@[simp] theorem serveEntry_tray (i : Nat) (s : State) : (serveEntry i s).tray = s.tray := by unfold serveEntry; split <;> (try split) <;> simp
@[simp] theorem serveEntry_exp (i : Nat) (s : State) : (serveEntry i s).exp = s.exp := by unfold serveEntry; split <;> (try split) <;> simp
@[simp] theorem serveEntry_dsp (i : Nat) (s : State) : (serveEntry i s).dsp = s.dsp := by unfold serveEntry; split <;> (try split) <;> simp
@[simp] theorem serveEntry_trc (i : Nat) (s : State) : (serveEntry i s).trc = s.trc := by unfold serveEntry; split <;> (try split) <;> simp
@[simp] theorem serveEntry_lnk (i : Nat) (s : State) : (serveEntry i s).lnk = s.lnk := by unfold serveEntry; split <;> (try split) <;> simp
@[simp] theorem serveEntry_nowMs (i : Nat) (s : State) : (serveEntry i s).nowMs = s.nowMs := by unfold serveEntry; split <;> (try split) <;> simp
@[simp] theorem serveEntry_freeCount (i : Nat) (s : State) : (serveEntry i s).freeCount = s.freeCount := by unfold serveEntry; split <;> (try split) <;> simp
@[simp] theorem serveEntry_pending (i : Nat) (s : State) : (serveEntry i s).pending = s.pending := by unfold serveEntry; split <;> (try split) <;> simp

@[simp] theorem enterMode_out (m : Mode) (s : State) : (enterMode m s).out = s.out := by simp [enterMode]
@[simp] theorem enterMode_port (m : Mode) (s : State) : (enterMode m s).port = s.port := by simp [enterMode]
@[simp] theorem enterMode_idx (m : Mode) (s : State) : (enterMode m s).idx = s.idx := by simp [enterMode]
@[simp] theorem enterMode_hnd (m : Mode) (s : State) : (enterMode m s).hnd = s.hnd := by simp [enterMode]
@[simp] theorem enterMode_lot (m : Mode) (s : State) : (enterMode m s).lot = s.lot := by simp [enterMode]
@[simp] theorem enterMode_lid (m : Mode) (s : State) : (enterMode m s).lid = s.lid := by simp [enterMode]
@[simp] theorem enterMode_tray (m : Mode) (s : State) : (enterMode m s).tray = s.tray := by simp [enterMode]
@[simp] theorem enterMode_exp (m : Mode) (s : State) : (enterMode m s).exp = s.exp := by simp [enterMode]
@[simp] theorem enterMode_dsp (m : Mode) (s : State) : (enterMode m s).dsp = s.dsp := by simp [enterMode]
@[simp] theorem enterMode_trc (m : Mode) (s : State) : (enterMode m s).trc = s.trc := by simp [enterMode]
@[simp] theorem enterMode_adm (m : Mode) (s : State) : (enterMode m s).adm = s.adm := by simp [enterMode]
@[simp] theorem enterMode_nowMs (m : Mode) (s : State) : (enterMode m s).nowMs = s.nowMs := by simp [enterMode]
@[simp] theorem enterMode_freeCount (m : Mode) (s : State) : (enterMode m s).freeCount = s.freeCount := by simp [enterMode]
@[simp] theorem enterMode_pending (m : Mode) (s : State) : (enterMode m s).pending = s.pending := by simp [enterMode]

@[simp] theorem addCause_out (c : Cause) (s : State) : (addCause c s).out = s.out := by unfold addCause; simp only; split <;> simp
@[simp] theorem addCause_port (c : Cause) (s : State) : (addCause c s).port = s.port := by unfold addCause; simp only; split <;> simp
@[simp] theorem addCause_idx (c : Cause) (s : State) : (addCause c s).idx = s.idx := by unfold addCause; simp only; split <;> simp
@[simp] theorem addCause_hnd (c : Cause) (s : State) : (addCause c s).hnd = s.hnd := by unfold addCause; simp only; split <;> simp
@[simp] theorem addCause_lot (c : Cause) (s : State) : (addCause c s).lot = s.lot := by unfold addCause; simp only; split <;> simp
@[simp] theorem addCause_lid (c : Cause) (s : State) : (addCause c s).lid = s.lid := by unfold addCause; simp only; split <;> simp
@[simp] theorem addCause_tray (c : Cause) (s : State) : (addCause c s).tray = s.tray := by unfold addCause; simp only; split <;> simp
@[simp] theorem addCause_exp (c : Cause) (s : State) : (addCause c s).exp = s.exp := by unfold addCause; simp only; split <;> simp
@[simp] theorem addCause_dsp (c : Cause) (s : State) : (addCause c s).dsp = s.dsp := by unfold addCause; simp only; split <;> simp
@[simp] theorem addCause_trc (c : Cause) (s : State) : (addCause c s).trc = s.trc := by unfold addCause; simp only; split <;> simp
@[simp] theorem addCause_adm (c : Cause) (s : State) : (addCause c s).adm = s.adm := by unfold addCause; simp only; split <;> simp
@[simp] theorem addCause_nowMs (c : Cause) (s : State) : (addCause c s).nowMs = s.nowMs := by unfold addCause; simp only; split <;> simp
@[simp] theorem addCause_freeCount (c : Cause) (s : State) : (addCause c s).freeCount = s.freeCount := by unfold addCause; simp only; split <;> simp
@[simp] theorem addCause_pending (c : Cause) (s : State) : (addCause c s).pending = s.pending := by unfold addCause; simp only; split <;> simp

@[simp] theorem placeCredit_stc (s : State) : (placeCredit s).stc = s.stc := by unfold placeCredit; split <;> simp
@[simp] theorem placeCredit_out (s : State) : (placeCredit s).out = s.out := by unfold placeCredit; split <;> simp
@[simp] theorem placeCredit_port (s : State) : (placeCredit s).port = s.port := by unfold placeCredit; split <;> simp
@[simp] theorem placeCredit_idx (s : State) : (placeCredit s).idx = s.idx := by unfold placeCredit; split <;> simp
@[simp] theorem placeCredit_lot (s : State) : (placeCredit s).lot = s.lot := by unfold placeCredit; split <;> simp
@[simp] theorem placeCredit_lid (s : State) : (placeCredit s).lid = s.lid := by unfold placeCredit; split <;> simp
@[simp] theorem placeCredit_tray (s : State) : (placeCredit s).tray = s.tray := by unfold placeCredit; split <;> simp
@[simp] theorem placeCredit_exp (s : State) : (placeCredit s).exp = s.exp := by unfold placeCredit; split <;> simp
@[simp] theorem placeCredit_dsp (s : State) : (placeCredit s).dsp = s.dsp := by unfold placeCredit; split <;> simp
@[simp] theorem placeCredit_trc (s : State) : (placeCredit s).trc = s.trc := by unfold placeCredit; split <;> simp
@[simp] theorem placeCredit_adm (s : State) : (placeCredit s).adm = s.adm := by unfold placeCredit; split <;> simp
@[simp] theorem placeCredit_nowMs (s : State) : (placeCredit s).nowMs = s.nowMs := by unfold placeCredit; split <;> simp
@[simp] theorem placeCredit_freeCount (s : State) : (placeCredit s).freeCount = s.freeCount := by unfold placeCredit; split <;> simp
@[simp] theorem placeCredit_pending (s : State) : (placeCredit s).pending = s.pending := by unfold placeCredit; split <;> simp

@[simp] theorem updatePermit_stc (s : State) : (updatePermit s).stc = s.stc := rfl
@[simp] theorem updatePermit_port (s : State) : (updatePermit s).port = s.port := rfl
@[simp] theorem updatePermit_idx (s : State) : (updatePermit s).idx = s.idx := rfl
@[simp] theorem updatePermit_hnd (s : State) : (updatePermit s).hnd = s.hnd := rfl
@[simp] theorem updatePermit_lot (s : State) : (updatePermit s).lot = s.lot := rfl
@[simp] theorem updatePermit_lid (s : State) : (updatePermit s).lid = s.lid := rfl
@[simp] theorem updatePermit_tray (s : State) : (updatePermit s).tray = s.tray := rfl
@[simp] theorem updatePermit_exp (s : State) : (updatePermit s).exp = s.exp := rfl
@[simp] theorem updatePermit_dsp (s : State) : (updatePermit s).dsp = s.dsp := rfl
@[simp] theorem updatePermit_trc (s : State) : (updatePermit s).trc = s.trc := rfl
@[simp] theorem updatePermit_adm (s : State) : (updatePermit s).adm = s.adm := rfl
@[simp] theorem updatePermit_lnk (s : State) : (updatePermit s).lnk = s.lnk := rfl
@[simp] theorem updatePermit_nowMs (s : State) : (updatePermit s).nowMs = s.nowMs := rfl
@[simp] theorem updatePermit_freeCount (s : State) : (updatePermit s).freeCount = s.freeCount := rfl
@[simp] theorem updatePermit_pending (s : State) : (updatePermit s).pending = s.pending := rfl

@[simp] theorem updateRoom_stc (s : State) : (updateRoom s).stc = s.stc := by unfold updateRoom; simp only; split <;> simp
@[simp] theorem updateRoom_out (s : State) : (updateRoom s).out = s.out := by unfold updateRoom; simp only; split <;> simp
@[simp] theorem updateRoom_port (s : State) : (updateRoom s).port = s.port := by unfold updateRoom; simp only; split <;> simp
@[simp] theorem updateRoom_idx (s : State) : (updateRoom s).idx = s.idx := by unfold updateRoom; simp only; split <;> simp
@[simp] theorem updateRoom_lot (s : State) : (updateRoom s).lot = s.lot := by unfold updateRoom; simp only; split <;> simp
@[simp] theorem updateRoom_lid (s : State) : (updateRoom s).lid = s.lid := by unfold updateRoom; simp only; split <;> simp
@[simp] theorem updateRoom_tray (s : State) : (updateRoom s).tray = s.tray := by unfold updateRoom; simp only; split <;> simp
@[simp] theorem updateRoom_exp (s : State) : (updateRoom s).exp = s.exp := by unfold updateRoom; simp only; split <;> simp
@[simp] theorem updateRoom_dsp (s : State) : (updateRoom s).dsp = s.dsp := by unfold updateRoom; simp only; split <;> simp
@[simp] theorem updateRoom_trc (s : State) : (updateRoom s).trc = s.trc := by unfold updateRoom; simp only; split <;> simp
@[simp] theorem updateRoom_adm (s : State) : (updateRoom s).adm = s.adm := by unfold updateRoom; simp only; split <;> simp
@[simp] theorem updateRoom_nowMs (s : State) : (updateRoom s).nowMs = s.nowMs := by unfold updateRoom; simp only; split <;> simp
@[simp] theorem updateRoom_freeCount (s : State) : (updateRoom s).freeCount = s.freeCount := by unfold updateRoom; simp only; split <;> simp
@[simp] theorem updateRoom_pending (s : State) : (updateRoom s).pending = s.pending := by unfold updateRoom; simp only; split <;> simp

@[simp] theorem settleFlow_stc (s : State) : (settleFlow s).stc = s.stc := by simp [settleFlow]
@[simp] theorem settleFlow_port (s : State) : (settleFlow s).port = s.port := by simp [settleFlow]
@[simp] theorem settleFlow_idx (s : State) : (settleFlow s).idx = s.idx := by simp [settleFlow]
@[simp] theorem settleFlow_lot (s : State) : (settleFlow s).lot = s.lot := by simp [settleFlow]
@[simp] theorem settleFlow_lid (s : State) : (settleFlow s).lid = s.lid := by simp [settleFlow]
@[simp] theorem settleFlow_tray (s : State) : (settleFlow s).tray = s.tray := by simp [settleFlow]
@[simp] theorem settleFlow_exp (s : State) : (settleFlow s).exp = s.exp := by simp [settleFlow]
@[simp] theorem settleFlow_dsp (s : State) : (settleFlow s).dsp = s.dsp := by simp [settleFlow]
@[simp] theorem settleFlow_trc (s : State) : (settleFlow s).trc = s.trc := by simp [settleFlow]
@[simp] theorem settleFlow_adm (s : State) : (settleFlow s).adm = s.adm := by simp [settleFlow]
@[simp] theorem settleFlow_nowMs (s : State) : (settleFlow s).nowMs = s.nowMs := by simp [settleFlow]
@[simp] theorem settleFlow_freeCount (s : State) : (settleFlow s).freeCount = s.freeCount := by simp [settleFlow]
@[simp] theorem settleFlow_pending (s : State) : (settleFlow s).pending = s.pending := by simp [settleFlow]

@[simp] theorem settleAdvance_stc (s : State) : (settleAdvance s).stc = s.stc := by simp [settleAdvance]
@[simp] theorem settleAdvance_port (s : State) : (settleAdvance s).port = s.port := by simp [settleAdvance]
@[simp] theorem settleAdvance_idx (s : State) : (settleAdvance s).idx = s.idx := by simp [settleAdvance]
@[simp] theorem settleAdvance_lot (s : State) : (settleAdvance s).lot = s.lot := by simp [settleAdvance]
@[simp] theorem settleAdvance_lid (s : State) : (settleAdvance s).lid = s.lid := by simp [settleAdvance]
@[simp] theorem settleAdvance_tray (s : State) : (settleAdvance s).tray = s.tray := by simp [settleAdvance]
@[simp] theorem settleAdvance_exp (s : State) : (settleAdvance s).exp = s.exp := by simp [settleAdvance]
@[simp] theorem settleAdvance_dsp (s : State) : (settleAdvance s).dsp = s.dsp := by simp [settleAdvance]
@[simp] theorem settleAdvance_trc (s : State) : (settleAdvance s).trc = s.trc := by simp [settleAdvance]
@[simp] theorem settleAdvance_adm (s : State) : (settleAdvance s).adm = s.adm := by simp [settleAdvance]
@[simp] theorem settleAdvance_nowMs (s : State) : (settleAdvance s).nowMs = s.nowMs := by simp [settleAdvance]
@[simp] theorem settleAdvance_freeCount (s : State) : (settleAdvance s).freeCount = s.freeCount := by simp [settleAdvance]
@[simp] theorem settleAdvance_pending (s : State) : (settleAdvance s).pending = s.pending := by simp [settleAdvance]

@[simp] theorem settleSince_stc (s t : State) : (settleSince s t).stc = t.stc := by unfold settleSince; split <;> simp
@[simp] theorem settleSince_port (s t : State) : (settleSince s t).port = t.port := by unfold settleSince; split <;> simp
@[simp] theorem settleSince_idx (s t : State) : (settleSince s t).idx = t.idx := by unfold settleSince; split <;> simp
@[simp] theorem settleSince_lot (s t : State) : (settleSince s t).lot = t.lot := by unfold settleSince; split <;> simp
@[simp] theorem settleSince_lid (s t : State) : (settleSince s t).lid = t.lid := by unfold settleSince; split <;> simp
@[simp] theorem settleSince_tray (s t : State) : (settleSince s t).tray = t.tray := by unfold settleSince; split <;> simp
@[simp] theorem settleSince_exp (s t : State) : (settleSince s t).exp = t.exp := by unfold settleSince; split <;> simp
@[simp] theorem settleSince_dsp (s t : State) : (settleSince s t).dsp = t.dsp := by unfold settleSince; split <;> simp
@[simp] theorem settleSince_trc (s t : State) : (settleSince s t).trc = t.trc := by unfold settleSince; split <;> simp
@[simp] theorem settleSince_adm (s t : State) : (settleSince s t).adm = t.adm := by unfold settleSince; split <;> simp
@[simp] theorem settleSince_nowMs (s t : State) : (settleSince s t).nowMs = t.nowMs := by unfold settleSince; split <;> simp
@[simp] theorem settleSince_freeCount (s t : State) : (settleSince s t).freeCount = t.freeCount := by unfold settleSince; split <;> simp
@[simp] theorem settleSince_pending (s t : State) : (settleSince s t).pending = t.pending := by unfold settleSince; split <;> simp

@[simp] theorem strayAdvance_stc (s : State) : (strayAdvance s).stc = s.stc := rfl
@[simp] theorem strayAdvance_out (s : State) : (strayAdvance s).out = s.out := rfl
@[simp] theorem strayAdvance_port (s : State) : (strayAdvance s).port = s.port := rfl
@[simp] theorem strayAdvance_idx (s : State) : (strayAdvance s).idx = s.idx := rfl
@[simp] theorem strayAdvance_lot (s : State) : (strayAdvance s).lot = s.lot := rfl
@[simp] theorem strayAdvance_lid (s : State) : (strayAdvance s).lid = s.lid := rfl
@[simp] theorem strayAdvance_tray (s : State) : (strayAdvance s).tray = s.tray := rfl
@[simp] theorem strayAdvance_exp (s : State) : (strayAdvance s).exp = s.exp := rfl
@[simp] theorem strayAdvance_dsp (s : State) : (strayAdvance s).dsp = s.dsp := rfl
@[simp] theorem strayAdvance_trc (s : State) : (strayAdvance s).trc = s.trc := rfl
@[simp] theorem strayAdvance_adm (s : State) : (strayAdvance s).adm = s.adm := rfl
@[simp] theorem strayAdvance_lnk (s : State) : (strayAdvance s).lnk = s.lnk := rfl
@[simp] theorem strayAdvance_nowMs (s : State) : (strayAdvance s).nowMs = s.nowMs := rfl
@[simp] theorem strayAdvance_freeCount (s : State) : (strayAdvance s).freeCount = s.freeCount := rfl
@[simp] theorem strayAdvance_pending (s : State) : (strayAdvance s).pending = s.pending := rfl

@[simp] theorem putResponse_stc (tag code : BitVec 8) (st : Status) (data : List Byte) (s : State) : (putResponse tag code st data s).stc = s.stc := rfl
@[simp] theorem putResponse_out (tag code : BitVec 8) (st : Status) (data : List Byte) (s : State) : (putResponse tag code st data s).out = s.out := rfl
@[simp] theorem putResponse_idx (tag code : BitVec 8) (st : Status) (data : List Byte) (s : State) : (putResponse tag code st data s).idx = s.idx := rfl
@[simp] theorem putResponse_hnd (tag code : BitVec 8) (st : Status) (data : List Byte) (s : State) : (putResponse tag code st data s).hnd = s.hnd := rfl
@[simp] theorem putResponse_lot (tag code : BitVec 8) (st : Status) (data : List Byte) (s : State) : (putResponse tag code st data s).lot = s.lot := rfl
@[simp] theorem putResponse_lid (tag code : BitVec 8) (st : Status) (data : List Byte) (s : State) : (putResponse tag code st data s).lid = s.lid := rfl
@[simp] theorem putResponse_tray (tag code : BitVec 8) (st : Status) (data : List Byte) (s : State) : (putResponse tag code st data s).tray = s.tray := rfl
@[simp] theorem putResponse_exp (tag code : BitVec 8) (st : Status) (data : List Byte) (s : State) : (putResponse tag code st data s).exp = s.exp := rfl
@[simp] theorem putResponse_dsp (tag code : BitVec 8) (st : Status) (data : List Byte) (s : State) : (putResponse tag code st data s).dsp = s.dsp := rfl
@[simp] theorem putResponse_trc (tag code : BitVec 8) (st : Status) (data : List Byte) (s : State) : (putResponse tag code st data s).trc = s.trc := rfl
@[simp] theorem putResponse_adm (tag code : BitVec 8) (st : Status) (data : List Byte) (s : State) : (putResponse tag code st data s).adm = s.adm := rfl
@[simp] theorem putResponse_lnk (tag code : BitVec 8) (st : Status) (data : List Byte) (s : State) : (putResponse tag code st data s).lnk = s.lnk := rfl
@[simp] theorem putResponse_nowMs (tag code : BitVec 8) (st : Status) (data : List Byte) (s : State) : (putResponse tag code st data s).nowMs = s.nowMs := rfl
@[simp] theorem putResponse_freeCount (tag code : BitVec 8) (st : Status) (data : List Byte) (s : State) : (putResponse tag code st data s).freeCount = s.freeCount := rfl
@[simp] theorem putResponse_pending (tag code : BitVec 8) (st : Status) (data : List Byte) (s : State) : (putResponse tag code st data s).pending = s.pending := rfl

@[simp] theorem closeTray_stc (short : Bool) (s : State) : (closeTray short s).stc = s.stc := by unfold closeTray; split <;> (try split) <;> rfl
@[simp] theorem closeTray_out (short : Bool) (s : State) : (closeTray short s).out = s.out := by unfold closeTray; split <;> (try split) <;> rfl
@[simp] theorem closeTray_port (short : Bool) (s : State) : (closeTray short s).port = s.port := by unfold closeTray; split <;> (try split) <;> rfl
@[simp] theorem closeTray_idx (short : Bool) (s : State) : (closeTray short s).idx = s.idx := by unfold closeTray; split <;> (try split) <;> rfl
@[simp] theorem closeTray_hnd (short : Bool) (s : State) : (closeTray short s).hnd = s.hnd := by unfold closeTray; split <;> (try split) <;> rfl
@[simp] theorem closeTray_lot (short : Bool) (s : State) : (closeTray short s).lot = s.lot := by unfold closeTray; split <;> (try split) <;> rfl
@[simp] theorem closeTray_lid (short : Bool) (s : State) : (closeTray short s).lid = s.lid := by unfold closeTray; split <;> (try split) <;> rfl
@[simp] theorem closeTray_exp (short : Bool) (s : State) : (closeTray short s).exp = s.exp := by unfold closeTray; split <;> (try split) <;> rfl
@[simp] theorem closeTray_dsp (short : Bool) (s : State) : (closeTray short s).dsp = s.dsp := by unfold closeTray; split <;> (try split) <;> rfl
@[simp] theorem closeTray_trc (short : Bool) (s : State) : (closeTray short s).trc = s.trc := by unfold closeTray; split <;> (try split) <;> rfl
@[simp] theorem closeTray_adm (short : Bool) (s : State) : (closeTray short s).adm = s.adm := by unfold closeTray; split <;> (try split) <;> rfl
@[simp] theorem closeTray_lnk (short : Bool) (s : State) : (closeTray short s).lnk = s.lnk := by unfold closeTray; split <;> (try split) <;> rfl
@[simp] theorem closeTray_nowMs (short : Bool) (s : State) : (closeTray short s).nowMs = s.nowMs := by unfold closeTray; split <;> (try split) <;> rfl
@[simp] theorem closeTray_freeCount (short : Bool) (s : State) : (closeTray short s).freeCount = s.freeCount := by unfold closeTray; split <;> (try split) <;> rfl
@[simp] theorem closeTray_pending (short : Bool) (s : State) : (closeTray short s).pending = s.pending := by unfold closeTray; split <;> (try split) <;> rfl

/-! ### What the changes of Station Control keep -/

@[simp] theorem latch_stc_mode (n : Notice) (s : State) : (latch n s).stc.mode = s.stc.mode := rfl
@[simp] theorem latch_stc_causes (n : Notice) (s : State) : (latch n s).stc.causes = s.stc.causes := rfl
@[simp] theorem latch_stc_fault (n : Notice) (s : State) : (latch n s).stc.fault = s.stc.fault := rfl
@[simp] theorem latch_stc_settings (n : Notice) (s : State) : (latch n s).stc.settings = s.stc.settings := rfl
@[simp] theorem latch_stc_products (n : Notice) (s : State) : (latch n s).stc.products = s.stc.products := rfl
@[simp] theorem latch_stc_transitions (n : Notice) (s : State) : (latch n s).stc.transitions = s.stc.transitions := rfl
@[simp] theorem latch_stc_workingSum (n : Notice) (s : State) : (latch n s).stc.workingSum = s.stc.workingSum := rfl
@[simp] theorem latch_stc_clock (n : Notice) (s : State) : (latch n s).stc.clock = s.stc.clock := rfl
@[simp] theorem latch_stc_day (n : Notice) (s : State) : (latch n s).stc.day = s.stc.day := rfl
@[simp] theorem latch_stc_drainAt (n : Notice) (s : State) : (latch n s).stc.drainAt = s.stc.drainAt := rfl
@[simp] theorem latch_stc_secondAt (n : Notice) (s : State) : (latch n s).stc.secondAt = s.stc.secondAt := rfl

@[simp] theorem putCause_stc_mode (c : Cause) (s : State) : (putCause c s).stc.mode = s.stc.mode := rfl
@[simp] theorem putCause_stc_fault (c : Cause) (s : State) : (putCause c s).stc.fault = s.stc.fault := rfl
@[simp] theorem putCause_stc_settings (c : Cause) (s : State) : (putCause c s).stc.settings = s.stc.settings := rfl
@[simp] theorem putCause_stc_products (c : Cause) (s : State) : (putCause c s).stc.products = s.stc.products := rfl
@[simp] theorem putCause_stc_transitions (c : Cause) (s : State) : (putCause c s).stc.transitions = s.stc.transitions := rfl
@[simp] theorem putCause_stc_workingSum (c : Cause) (s : State) : (putCause c s).stc.workingSum = s.stc.workingSum := rfl
@[simp] theorem putCause_stc_clock (c : Cause) (s : State) : (putCause c s).stc.clock = s.stc.clock := rfl
@[simp] theorem putCause_stc_day (c : Cause) (s : State) : (putCause c s).stc.day = s.stc.day := rfl
@[simp] theorem putCause_stc_drainAt (c : Cause) (s : State) : (putCause c s).stc.drainAt = s.stc.drainAt := rfl
@[simp] theorem putCause_stc_secondAt (c : Cause) (s : State) : (putCause c s).stc.secondAt = s.stc.secondAt := rfl
@[simp] theorem putCause_stc_latched (c : Cause) (s : State) : (putCause c s).stc.latched = s.stc.latched := rfl

@[simp] theorem dropCause_stc_mode (c : Cause) (s : State) : (dropCause c s).stc.mode = s.stc.mode := rfl
@[simp] theorem dropCause_stc_fault (c : Cause) (s : State) : (dropCause c s).stc.fault = s.stc.fault := rfl
@[simp] theorem dropCause_stc_settings (c : Cause) (s : State) : (dropCause c s).stc.settings = s.stc.settings := rfl
@[simp] theorem dropCause_stc_products (c : Cause) (s : State) : (dropCause c s).stc.products = s.stc.products := rfl
@[simp] theorem dropCause_stc_transitions (c : Cause) (s : State) : (dropCause c s).stc.transitions = s.stc.transitions := rfl
@[simp] theorem dropCause_stc_workingSum (c : Cause) (s : State) : (dropCause c s).stc.workingSum = s.stc.workingSum := rfl
@[simp] theorem dropCause_stc_clock (c : Cause) (s : State) : (dropCause c s).stc.clock = s.stc.clock := rfl
@[simp] theorem dropCause_stc_day (c : Cause) (s : State) : (dropCause c s).stc.day = s.stc.day := rfl
@[simp] theorem dropCause_stc_drainAt (c : Cause) (s : State) : (dropCause c s).stc.drainAt = s.stc.drainAt := rfl
@[simp] theorem dropCause_stc_secondAt (c : Cause) (s : State) : (dropCause c s).stc.secondAt = s.stc.secondAt := rfl
@[simp] theorem dropCause_stc_latched (c : Cause) (s : State) : (dropCause c s).stc.latched = s.stc.latched := rfl

@[simp] theorem latchRing_stc_mode (s : State) : (latchRing s).stc.mode = s.stc.mode := by unfold latchRing; split <;> (try split) <;> rfl
@[simp] theorem latchRing_stc_causes (s : State) : (latchRing s).stc.causes = s.stc.causes := by unfold latchRing; split <;> (try split) <;> rfl
@[simp] theorem latchRing_stc_fault (s : State) : (latchRing s).stc.fault = s.stc.fault := by unfold latchRing; split <;> (try split) <;> rfl
@[simp] theorem latchRing_stc_settings (s : State) : (latchRing s).stc.settings = s.stc.settings := by unfold latchRing; split <;> (try split) <;> rfl
@[simp] theorem latchRing_stc_products (s : State) : (latchRing s).stc.products = s.stc.products := by unfold latchRing; split <;> (try split) <;> rfl
@[simp] theorem latchRing_stc_transitions (s : State) : (latchRing s).stc.transitions = s.stc.transitions := by unfold latchRing; split <;> (try split) <;> rfl
@[simp] theorem latchRing_stc_workingSum (s : State) : (latchRing s).stc.workingSum = s.stc.workingSum := by unfold latchRing; split <;> (try split) <;> rfl
@[simp] theorem latchRing_stc_clock (s : State) : (latchRing s).stc.clock = s.stc.clock := by unfold latchRing; split <;> (try split) <;> rfl
@[simp] theorem latchRing_stc_day (s : State) : (latchRing s).stc.day = s.stc.day := by unfold latchRing; split <;> (try split) <;> rfl
@[simp] theorem latchRing_stc_drainAt (s : State) : (latchRing s).stc.drainAt = s.stc.drainAt := by unfold latchRing; split <;> (try split) <;> rfl
@[simp] theorem latchRing_stc_secondAt (s : State) : (latchRing s).stc.secondAt = s.stc.secondAt := by unfold latchRing; split <;> (try split) <;> rfl

@[simp] theorem writeTrace_stc_mode (e : TraceEntry) (s : State) : (writeTrace e s).stc.mode = s.stc.mode := by unfold writeTrace; split <;> simp
@[simp] theorem writeTrace_stc_causes (e : TraceEntry) (s : State) : (writeTrace e s).stc.causes = s.stc.causes := by unfold writeTrace; split <;> simp
@[simp] theorem writeTrace_stc_fault (e : TraceEntry) (s : State) : (writeTrace e s).stc.fault = s.stc.fault := by unfold writeTrace; split <;> simp
@[simp] theorem writeTrace_stc_settings (e : TraceEntry) (s : State) : (writeTrace e s).stc.settings = s.stc.settings := by unfold writeTrace; split <;> simp
@[simp] theorem writeTrace_stc_products (e : TraceEntry) (s : State) : (writeTrace e s).stc.products = s.stc.products := by unfold writeTrace; split <;> simp
@[simp] theorem writeTrace_stc_transitions (e : TraceEntry) (s : State) : (writeTrace e s).stc.transitions = s.stc.transitions := by unfold writeTrace; split <;> simp
@[simp] theorem writeTrace_stc_workingSum (e : TraceEntry) (s : State) : (writeTrace e s).stc.workingSum = s.stc.workingSum := by unfold writeTrace; split <;> simp
@[simp] theorem writeTrace_stc_clock (e : TraceEntry) (s : State) : (writeTrace e s).stc.clock = s.stc.clock := by unfold writeTrace; split <;> simp
@[simp] theorem writeTrace_stc_day (e : TraceEntry) (s : State) : (writeTrace e s).stc.day = s.stc.day := by unfold writeTrace; split <;> simp
@[simp] theorem writeTrace_stc_drainAt (e : TraceEntry) (s : State) : (writeTrace e s).stc.drainAt = s.stc.drainAt := by unfold writeTrace; split <;> simp
@[simp] theorem writeTrace_stc_secondAt (e : TraceEntry) (s : State) : (writeTrace e s).stc.secondAt = s.stc.secondAt := by unfold writeTrace; split <;> simp

@[simp] theorem enterMode_stc_causes (m : Mode) (s : State) : (enterMode m s).stc.causes = s.stc.causes := by simp [enterMode]
@[simp] theorem enterMode_stc_fault (m : Mode) (s : State) : (enterMode m s).stc.fault = s.stc.fault := by simp [enterMode]
@[simp] theorem enterMode_stc_settings (m : Mode) (s : State) : (enterMode m s).stc.settings = s.stc.settings := by simp [enterMode]
@[simp] theorem enterMode_stc_products (m : Mode) (s : State) : (enterMode m s).stc.products = s.stc.products := by simp [enterMode]
@[simp] theorem enterMode_stc_transitions (m : Mode) (s : State) : (enterMode m s).stc.transitions = s.stc.transitions := by simp [enterMode]
@[simp] theorem enterMode_stc_workingSum (m : Mode) (s : State) : (enterMode m s).stc.workingSum = s.stc.workingSum := by simp [enterMode]
@[simp] theorem enterMode_stc_clock (m : Mode) (s : State) : (enterMode m s).stc.clock = s.stc.clock := by simp [enterMode]
@[simp] theorem enterMode_stc_day (m : Mode) (s : State) : (enterMode m s).stc.day = s.stc.day := by simp [enterMode]
@[simp] theorem enterMode_stc_drainAt (m : Mode) (s : State) : (enterMode m s).stc.drainAt = s.stc.drainAt := by simp [enterMode]
@[simp] theorem enterMode_stc_secondAt (m : Mode) (s : State) : (enterMode m s).stc.secondAt = s.stc.secondAt := by simp [enterMode]
@[simp] theorem enterMode_stc_latched (m : Mode) (s : State) : (enterMode m s).stc.latched = s.stc.latched := by simp [enterMode]

@[simp] theorem addCause_stc_fault (c : Cause) (s : State) : (addCause c s).stc.fault = s.stc.fault := by unfold addCause; simp only; split <;> simp
@[simp] theorem addCause_stc_settings (c : Cause) (s : State) : (addCause c s).stc.settings = s.stc.settings := by unfold addCause; simp only; split <;> simp
@[simp] theorem addCause_stc_products (c : Cause) (s : State) : (addCause c s).stc.products = s.stc.products := by unfold addCause; simp only; split <;> simp
@[simp] theorem addCause_stc_transitions (c : Cause) (s : State) : (addCause c s).stc.transitions = s.stc.transitions := by unfold addCause; simp only; split <;> simp
@[simp] theorem addCause_stc_workingSum (c : Cause) (s : State) : (addCause c s).stc.workingSum = s.stc.workingSum := by unfold addCause; simp only; split <;> simp
@[simp] theorem addCause_stc_clock (c : Cause) (s : State) : (addCause c s).stc.clock = s.stc.clock := by unfold addCause; simp only; split <;> simp
@[simp] theorem addCause_stc_day (c : Cause) (s : State) : (addCause c s).stc.day = s.stc.day := by unfold addCause; simp only; split <;> simp
@[simp] theorem addCause_stc_drainAt (c : Cause) (s : State) : (addCause c s).stc.drainAt = s.stc.drainAt := by unfold addCause; simp only; split <;> simp
@[simp] theorem addCause_stc_secondAt (c : Cause) (s : State) : (addCause c s).stc.secondAt = s.stc.secondAt := by unfold addCause; simp only; split <;> simp
@[simp] theorem addCause_stc_latched (c : Cause) (s : State) : (addCause c s).stc.latched = s.stc.latched := by unfold addCause; simp only; split <;> simp

end Sys2Proof.Machine
end

