-- ==== Sys2Proof/Laws/Ops.lean ====
section
/-! SUPPORT. Laws/Ops.lean: for each shared operation, once, everything it can do. -/

namespace Sys2Proof.Machine

/-! ### The settings by name see only Station Control -/

theorem setting_of_stc {s t : State} (h : t.stc = s.stc) (n : Nat) : t.setting n = s.setting n := by
  simp [State.setting, h]

theorem num_of_stc {s t : State} (h : t.stc = s.stc) (n : Nat) : t.num n = s.num n := by
  simp [State.num, setting_of_stc h]

theorem role_of_stc {s t : State} (h : t.stc = s.stc) : t.role = s.role := by simp [State.role, num_of_stc h]

theorem role_of_settings {s t : State} (h : t.stc.settings = s.stc.settings) : t.role = s.role := by
  simp [State.role, State.num, State.setting, h]

/-! ### Notices and the attention line -/

@[simp] theorem updateAttention_attention (s : State) :
    (updateAttention s).out.attention = attentionOf s.stc.latched s.noticeMask := rfl

@[simp] theorem latch_latched (n : Notice) (s : State) : (latch n s).stc.latched = s.stc.latched ||| n.mask := rfl

@[simp] theorem latch_permit (n : Notice) (s : State) : (latch n s).out.runPermit = s.out.runPermit := rfl

/-- A latch leaves the attention line right, whatever it was (R178). -/
theorem latch_attentionFits (n : Notice) (s : State) : AttentionFits (latch n s) := rfl

/-- A latched notice is in the set. -/
theorem latch_latchedNotice (n : Notice) (s : State) : (latch n s).latchedNotice n = true := by
  cases n <;> simp [State.latchedNotice, Notice.mask, Notice.bit]

/-! ### Modes and causes -/

@[simp] theorem enterMode_mode (m : Mode) (s : State) : (enterMode m s).stc.mode = m := by simp [enterMode]

@[simp] theorem addCause_causes (c : Cause) (s : State) : (addCause c s).stc.causes = s.stc.causes ||| c.mask := by
  unfold addCause; simp only; split <;> simp [putCause]

/-- A cause makes RUNNING HELD and leaves every other mode (R167). -/
theorem addCause_mode (c : Cause) (s : State) :
    (addCause c s).stc.mode = if s.stc.mode = .running then .held else s.stc.mode := by
  unfold addCause State.mode; simp only; split <;> simp

/-- A cause's mask is never empty. -/
theorem or_mask_ne_zero (c : Cause) (x : BitVec 8) : x ||| c.mask ≠ 0#8 := by
  cases c <;> revert x <;> decide

/-- A cause fits the mode it leaves (R167). -/
theorem addCause_causesFit (c : Cause) (s : State) : CausesFit (addCause c s) := by
  unfold CausesFit
  simp only [State.mode, addCause_mode, addCause_causes]
  refine ⟨fun h => ?_, fun _ => or_mask_ne_zero c _⟩
  split at h <;> simp_all

/-! ### Credit (R25) -/

/-- A station with no downstream neighbour has no credit afterwards. -/
theorem dropCredit_held_eq_none (s : State) (h : s.downstream = 0) : (dropCredit s).hnd.held = none := by
  simp [dropCredit, h]

/-- Whatever the neighbour, only the held limit can differ. -/
theorem dropCredit_eq (s : State) :
    dropCredit s = { s with hnd.held := if s.downstream = 0 then none else s.hnd.held } := by
  unfold dropCredit; split <;> rfl

@[simp] theorem dropCredit_stc (s : State) : (dropCredit s).stc = s.stc := by rw [dropCredit_eq]
@[simp] theorem dropCredit_nextSeq (s : State) : (dropCredit s).hnd.nextSeq = s.hnd.nextSeq := by rw [dropCredit_eq]

/-- What a change of the upstream neighbour leaves waiting in the credit slot (R25). -/
theorem aimCredit_creditSlot (s : State) :
    (aimCredit s).lnk.creditSlot =
      if s.upstream = 0 then none else s.lnk.creditSlot.map (fun f => { f with target := s.upstream }) := by
  unfold aimCredit
  split
  · next h => simp [h]
  · next f h =>
    split
    · simp
    · split
      · next hf => rw [h, ← hf]; rfl
      · simp [h, placeInCreditSlot]

/-- `aimCredit` moves the credit slot and its mark on the bus alone. -/
theorem aimCredit_frame (s : State) :
    { aimCredit s with lnk.creditSlot := s.lnk.creditSlot, lnk.onBus := s.lnk.onBus } = s := by
  unfold aimCredit; (repeat' split) <;> rfl

theorem aimCredit_eq_of_none {s : State} (h : s.lnk.creditSlot = none) : aimCredit s = s := by simp [aimCredit, h]

@[simp] theorem aimCredit_stc (s : State) : (aimCredit s).stc = s.stc := by unfold aimCredit; (repeat' split) <;> rfl
@[simp] theorem aimCredit_hnd (s : State) : (aimCredit s).hnd = s.hnd := by unfold aimCredit; (repeat' split) <;> rfl
@[simp] theorem aimCredit_mainQ (s : State) : (aimCredit s).lnk.mainQ = s.lnk.mainQ := by
  unfold aimCredit; (repeat' split) <;> rfl
@[simp] theorem aimCredit_answerQ (s : State) : (aimCredit s).lnk.answerQ = s.lnk.answerQ := by
  unfold aimCredit; (repeat' split) <;> rfl
@[simp] theorem aimCredit_peers (s : State) : (aimCredit s).lnk.peers = s.lnk.peers := by
  unfold aimCredit; (repeat' split) <;> rfl

/-! ### The settings image (R181) -/

@[simp] theorem imageWords_cons_cons (high low : Byte) (rest : List Byte) :
    imageWords (high :: low :: rest) = (high ++ low) :: imageWords rest := rfl

/-- Two bytes make a word; a last byte alone makes none. -/
theorem imageWords_length : ∀ bytes : List Byte, (imageWords bytes).length = bytes.length / 2
  | [] => rfl
  | [_] => by simp [imageWords]
  | _ :: _ :: rest => by simp only [imageWords_cons_cons, List.length_cons, imageWords_length rest]; omega

/-! ### The transmit side -/

/-- A push joins the main queue as its newest frame, or leaves a full queue. -/
theorem pushMain_mainQ (f : Frame) (s : State) :
    (pushMain f s).lnk.mainQ = if s.lnk.mainQ.length < 16 then s.lnk.mainQ ++ [f] else s.lnk.mainQ := by
  unfold pushMain
  by_cases h : s.lnk.mainQ.length < 16
  · simp [mainHasRoom, mainCapacity, h, Nat.succ_le_of_lt h]
  · simp [mainHasRoom, mainCapacity, h]

theorem pushMain_room (f : Frame) (s : State) (h : mainHasRoom s 1 = true) :
    pushMain f s = { s with lnk.mainQ := s.lnk.mainQ ++ [f] } := by simp [pushMain, h]

theorem pushMain_bound (f : Frame) (s : State) (h : s.lnk.mainQ.length ≤ 16) : (pushMain f s).lnk.mainQ.length ≤ 16 := by
  rw [pushMain_mainQ]; split
  · simp; omega
  · exact h

theorem pushAnswer_bound (f : Frame) (s : State) (h : s.lnk.answerQ.length ≤ 8) :
    (pushAnswer f s).lnk.answerQ.length ≤ 8 := by
  unfold pushAnswer answerCapacity; split
  · simp; omega
  · exact h

theorem placeState_bound (f : Frame) (s : State) (h : s.lnk.mainQ.length ≤ 16) :
    (placeState f s).lnk.mainQ.length ≤ 16 := by
  unfold placeState mainHasRoom mainCapacity
  split
  · simpa using h
  · split
    · simp_all
    · exact h

@[simp] theorem placeState_answerQ (f : Frame) (s : State) : (placeState f s).lnk.answerQ = s.lnk.answerQ := by
  unfold placeState; split <;> (try split) <;> rfl

@[simp] theorem placeState_peers (f : Frame) (s : State) : (placeState f s).lnk.peers = s.lnk.peers := by
  unfold placeState; split <;> (try split) <;> rfl

/-! ### Credit, room and the permit -/

@[simp] theorem placeCredit_mainQ (s : State) : (placeCredit s).lnk.mainQ = s.lnk.mainQ := by
  unfold placeCredit; split <;> rfl

@[simp] theorem placeCredit_answerQ (s : State) : (placeCredit s).lnk.answerQ = s.lnk.answerQ := by
  unfold placeCredit; split <;> rfl

@[simp] theorem placeCredit_peers (s : State) : (placeCredit s).lnk.peers = s.lnk.peers := by
  unfold placeCredit; split <;> rfl

/-- Placing a CREDIT changes the advertised limit and the refresh period alone (R38). -/
theorem placeCredit_hnd (s : State) :
    (placeCredit s).hnd =
      { s.hnd with advertised := (placeCredit s).hnd.advertised, refreshAt := (placeCredit s).hnd.refreshAt } := by
  unfold placeCredit; split <;> rfl

/-- Settling the flow sets room, advertised limit and refresh period, and nothing else of HND (R37, R38). -/
theorem settleFlow_hnd (s : State) :
    (settleFlow s).hnd =
      { s.hnd with
        room := roomOf s, advertised := (settleFlow s).hnd.advertised, refreshAt := (settleFlow s).hnd.refreshAt } := by
  have h := placeCredit_hnd { s with hnd.room := roomOf s }
  unfold settleFlow updatePermit updateRoom
  by_cases hr : s.hnd.room < roomOf s
  · simp only [hr, if_true]; exact h
  · simp [hr]

@[simp] theorem settleFlow_mainQ (s : State) : (settleFlow s).lnk.mainQ = s.lnk.mainQ := by
  unfold settleFlow updatePermit updateRoom; simp only; split <;> simp

@[simp] theorem settleFlow_answerQ (s : State) : (settleFlow s).lnk.answerQ = s.lnk.answerQ := by
  unfold settleFlow updatePermit updateRoom; simp only; split <;> simp

@[simp] theorem settleFlow_peers (s : State) : (settleFlow s).lnk.peers = s.lnk.peers := by
  unfold settleFlow updatePermit updateRoom; simp only; split <;> simp

@[simp] theorem settleFlow_attention (s : State) : (settleFlow s).out.attention = s.out.attention := by
  unfold settleFlow updatePermit updateRoom; simp only; split <;> simp

/-- The permit and the room depend on none of what settling the flow sets. -/
theorem permitOf_congr {s t : State} (hs : t.stc = s.stc) (hi : t.idx = s.idx) (ht : t.tray = s.tray)
    (hh : t.hnd.held = s.hnd.held) (hn : t.hnd.nextSeq = s.hnd.nextSeq) (hq : t.lnk.mainQ = s.lnk.mainQ) :
    permitOf t = permitOf s := by
  simp [permitOf, State.mode, exitFree, maySend, admitsNext, mainHasRoom, State.rowAt, formedFull, freeCells,
    State.windowLength, role_of_stc hs, num_of_stc hs, hs, hi, ht, hh, hn, hq]

theorem roomOf_congr {s t : State} (hs : t.stc = s.stc) (ht : t.tray = s.tray)
    (hr : t.hnd.rowArrivals = s.hnd.rowArrivals) (hx : t.hnd.trayArrivals = s.hnd.trayArrivals) : roomOf t = roomOf s := by
  simp [roomOf, State.mode, arrivalsCount, formedFull, freeCells, role_of_stc hs, hs, ht, hr, hx]

/-- After a step settles the flow, the permit is the one its rules give (R19, R84, R86). -/
theorem settleFlow_permit (s : State) : (settleFlow s).out.runPermit = permitOf (settleFlow s) := by
  have h : (settleFlow s).out.runPermit = permitOf (updateRoom s) := rfl
  rw [h]
  exact (permitOf_congr rfl rfl rfl rfl rfl rfl).symm

/-- After a step settles the flow, room is the one its rule gives (R37). -/
theorem settleFlow_room (s : State) : (settleFlow s).hnd.room = roomOf (settleFlow s) := by
  have h : (settleFlow s).hnd.room = roomOf s := by rw [settleFlow_hnd]
  rw [h]
  exact (roomOf_congr (by simp) (by simp) (by rw [settleFlow_hnd]) (by rw [settleFlow_hnd])).symm

theorem roomOf_le (s : State) : roomOf s ≤ 8 := by
  unfold roomOf arrivalsCapacity
  split
  · simp only; split <;> (try split) <;> omega
  · omega

/-- Settling the flow leaves the permit and the room fitting the mode (R19, R37, R84, R86). -/
theorem settleFlow_flowFits (s : State) : FlowFits (settleFlow s) where
  permit := by
    rw [settleFlow_permit]
    intro h
    have := (Bool.and_eq_true _ _).mp h
    simpa [permitMode] using this.1
  room := by
    rw [settleFlow_room]
    intro h
    simp [roomOf, h]

/-- After an index event room and the run permit fit the state it leaves, whatever stages 3 and 4 did in between. -/
theorem indexEvent_room (presence bond : BitVec 8) (s : State) :
    (indexEvent presence bond s).hnd.room = roomOf (indexEvent presence bond s) := settleFlow_room _

theorem indexEvent_permit (presence bond : BitVec 8) (s : State) :
    (indexEvent presence bond s).out.runPermit = permitOf (indexEvent presence bond s) := settleFlow_permit _

/-! ### The trace ring -/

/-- A write joins the ring as its newest entry, or leaves a full ring (R126). -/
theorem writeTrace_entries (e : TraceEntry) (s : State) :
    (writeTrace e s).trc.entries = if s.trc.entries.length < ringSize then s.trc.entries ++ [e] else s.trc.entries := by
  unfold writeTrace; split <;> simp

theorem writeTrace_bound (e : TraceEntry) (s : State) (h : s.trc.entries.length ≤ ringSize) :
    (writeTrace e s).trc.entries.length ≤ ringSize := by
  rw [writeTrace_entries]; split
  · simp; omega
  · exact h

/-! ### Receiving a frame -/

@[simp] theorem ofCode_code (k : FrameKind) : FrameKind.ofCode k.code = some k := by cases k <;> rfl

/-- The head of a kind's own form, between stations of the line, is good (R153). -/
theorem headVerdict_kindHead {kind : FrameKind} {src tgt : BitVec 5} {own : Nat} (hs : 1 ≤ src.toNat ∧ src.toNat ≤ 30)
    (ht : tgt.toNat ≤ 30) (hf : kind.broadcast = true ↔ tgt.toNat = 0) (ho : tgt.toNat = 0 ∨ tgt.toNat = own) :
    headVerdict own (kindHead kind src tgt) = .good kind := by
  have h1 : stationsInRange src.toNat tgt.toNat = true := by simp [stationsInRange, hs, ht]
  have h3 : formOk kind tgt.toNat = true := by
    by_cases h0 : tgt.toNat = 0 <;> cases hb : kind.broadcast <;> simp_all [formOk]
  unfold headVerdict
  rcases ho with ho | ho <;> simp_all [kindHead]

/-- A directed frame a station takes goes to the block of its kind (R153 to R155). -/
theorem receive_taken {kind : FrameKind} {src tgt : BitVec 5} {s : State} (h : TakenFrom kind src tgt s)
    (block : State → State) : receive kind src tgt block s = block s := by
  have ht : tgt.toNat ≠ 0 := by have := h.own; have := h.target; omega
  have hv : headVerdict s.own (kindHead kind src tgt) = .good kind :=
    headVerdict_kindHead h.source (by have := h.own; have := h.target; omega)
      (by simp [h.directed, ht]) (Or.inr h.target)
  simp [receive, hv, h.mode, h.use, accepts, ht]

/-- A broadcast frame that passes a filter goes to the block of its kind (R153 to R155). -/
theorem receive_heard {kind : FrameKind} {src tgt : BitVec 5} {s : State} (h : HeardFrom kind src s)
    (ht : tgt.toNat = 0) (block : State → State) : receive kind src tgt block s = block s := by
  have hv : headVerdict s.own (kindHead kind src tgt) = .good kind :=
    headVerdict_kindHead h.source (by omega) (by simp [h.broadcast, ht]) (Or.inl ht)
  simp [receive, hv, h.mode, h.use, ht, h.filter]

/-- Everything the reception of a frame can do: nothing, a count, or what the block of its kind does. -/
theorem receive_cases (kind : FrameKind) (src tgt : BitVec 5) (block : State → State) (s : State) :
    receive kind src tgt block s = s ∨ receive kind src tgt block s = countMalformed s ∨
      receive kind src tgt block s = countNoUse s ∨
      (s.mode ≠ .starting ∧ s.role.uses kind = true ∧ receive kind src tgt block s = block s) := by
  unfold receive
  split
  · exact .inr (.inl rfl)
  · exact .inl rfl
  · exact .inl rfl
  · by_cases h1 : s.mode = .starting
    · simp [h1]
    · by_cases h2 : accepts s kind src.toNat tgt.toNat = true
      · by_cases h3 : s.role.uses kind = true <;> simp [h1, h2, h3]
      · simp [h1, h2]

/-! ### The station port -/

/-- A command whose checks all pass is answered as its own rule says (R175). -/
theorem portCommand_own {code n : Nat} {always : Bool} {roles : Role → Bool} {enums : Bool} {own : State → Reply}
    {h : CmdHead} {s : State} (hr : PortReady h n s) (hq : roles s.role = true) (he : enums = true) :
    portCommand code n always roles enums own h s =
      putResponse h.tag (BitVec.ofNat 8 code) (own s).status (own s).data (own s).state := by
  have h3 := hr.decoding
  simp [portCommand, portCheck, hr.noRestart, hr.length, h3, hq, he]

/-- Everything a port command can do: the reset of a RESTART that waits, a refusal that changes nothing but the response place,
or its own rule's answer (R174, R175). -/
theorem portCommand_cases (code n : Nat) (always : Bool) (roles : Role → Bool) (enums : Bool) (own : State → Reply)
    (h : CmdHead) (s : State) :
    portCommand code n always roles enums own h s = restartReset s ∨
      (∃ st, portCommand code n always roles enums own h s = putResponse h.tag (BitVec.ofNat 8 code) st [] s) ∨
      ((always = true ∨ s.mode ≠ .starting) ∧ roles s.role = true ∧
        portCommand code n always roles enums own h s =
          putResponse h.tag (BitVec.ofNat 8 code) (own s).status (own s).data (own s).state) := by
  unfold portCommand
  by_cases hr : s.port.restartPending = true
  · exact .inl (by simp [hr])
  · simp only [hr]
    cases hc : portCheck n always roles enums h s with
    | some st => exact .inr (.inl ⟨st, by simp⟩)
    | none =>
      unfold portCheck at hc
      refine .inr (.inr ⟨?_, ?_, by simp⟩)
      · by_contra hn
        simp_all
        split at hc <;> simp at hc
      · by_contra hn
        simp_all
        split at hc <;> (try split at hc) <;> simp at hc

/-- The reset RESTART orders is the one the manual describes (R129, R173). -/
theorem restartReset_eq (s : State) : restartReset s = AfterRestart s s.port.delivered := by
  simp [restartReset, AfterRestart, Stc.fresh, Trc.unread, State.reset]

end Sys2Proof.Machine
end

