-- ==== Sys2Proof/Tests/Slice0.lean ====
section
/-! SUPPORT. Tests/Slice0.lean: the smoke test of WellFormed, records and frames written out from chapter 12, one-step tests
on the figures of the manual's worked sequences, and a witness for each statement that has hypotheses. -/

namespace Sys2Proof.Tests

open Sys2Proof.Machine

/-! ### Small states -/

/-- A station of a role in a mode, otherwise as a hard reset leaves it. -/
def station (r : Role) (m : Mode) : State :=
  setSetting 1 r.code { State.reset with stc := { State.reset.stc with mode := m } }

/-- With upstream neighbour 2, downstream neighbour 3 and own number 1. -/
def onLine (s : State) : State := setSetting 13 3 (setSetting 12 2 s)

/-- The head of a command with tag 7. -/
def hd (n : BitVec 8) : CmdHead := { tag := 7#8, paramLen := n }

/-- The state a command answers next. -/
def after (c : Instr) (s : State) : State :=
  match exec c s with
  | .next t => t
  | .fault _ => s
  | .refused _ => s

/-- The status the response place holds. -/
def answered (s : State) : Option Status := s.port.place.map Response.status

/-- A pot to lid. -/
def pot : Pot := { lidded := false, reasons := 0#9 }

/-- A row body of a lot with pots in lanes 1 to 4. -/
def rowOf (lot : Option Nat) : RowBody :=
  { lot, exposure := 0, purge := false, uncertain := false
    pots := [some pot, some pot, some pot, some pot, none, none, none, none], urgency := none }

/-- A row at a position of the window. -/
def withRow (p : Nat) (r : RowBody) (s : State) : State :=
  { s with idx.window := List.replicate p none ++ [some { number := 9, body := r }] }

/-- Lot 4411 of the worked sequences (chapters 3, 4 and 6). -/
def lot4411 : LotRec :=
  { id := 4411, origin := 2, product := 3175, flavour := 22, cls := 3, tank := 7, useBy := 18430, allowance := 216000
    tref := 60, tk := 150, state := .opened, refs := 1, closeOrder := 0#32, closeTime := none, purgeLeft := 0
    rowsFilled := 0, potsFilled := 0, potsReceived := 0, potsRejected := 0 }

/-- Lot 4411 in entry 0 of the table. -/
def withLot (s : State) : State := { s with lot.table := s.lot.table.set 0 (some lot4411) }

/-- The next forward count is an index event. -/
def countDue (s : State) : State := { s with idx.posCount := s.countsPerIndex - 1 }

/-- A tray of lot 4411. -/
def trayOf (id : TrayId) (d : DispatchState) (g : Option Grant) : Tray :=
  { id, lot := some 4411, product := some 3175, useBy := some 18430, rows := 2, pots := 8, short := false
    exposure := 194400, urgency := .red, quarantine := false, order := some 5120, route := some 21, grant := g
    retry := 0, dstate := d, chambers := some (21, 23) }

/-- A grant of chamber 21. -/
def grant21 : Grant := { chamber := 21, lane := 2, time := 5#32, marked := false, deadline := 20000 }

/-- A tray in cell 1. -/
def inCell (t : Tray) (s : State) : State :=
  { s with tray.cells := s.tray.cells.set 0 (some { tray := t, arrivalTime := 1#32, arrivalOrder := 1#32 }) }

/-- An admission entry of tray (3, 8820) in lane 2. -/
def entry8820 (st : AdmState) : Admission :=
  { tray := { origin := 3, seq := 8820 }, requester := 5, order := some 5120, quarantine := false, urgency := .green
    state := st, lane := if st = .pending then none else some 2, stateTime := 0#32, claimTime := none, lastAsk := 0#32
    creation := 1#32, inbound := if st = .inbound then some 1#32 else none, stateSince := 0, claimSince := 0, askSince := 0 }

/-- Its manifest. -/
def manifest8820 : Manifest :=
  { tray := { origin := 3, seq := 8820 }, requester := 5, lot := some 4411, product := some 3175, useBy := some 18430
    order := some 5120, exposure := 0, urgency := .green, quarantine := false, received := 0#32, since := 0 }

/-- The lanes of the worked sequence of chapter 8. -/
def lanes8 : List Lane :=
  [{ use := .orders, capacity := 40, occupancy := 12, reserved := 0, order := some 5117 },
    { use := .orders, capacity := 40, occupancy := 0, reserved := 0, order := none },
    { use := .stock, capacity := 200, occupancy := 150, reserved := 0, order := none },
    { use := .quarantine, capacity := 20, occupancy := 3, reserved := 0, order := none }] ++
    List.replicate 4 (Lane.fresh .off 1)

/-- A chamber in a mode with those lanes, its own number 1. -/
def chamber (m : Mode) : State := { station .chamber m with adm.lanes := lanes8 }

/-- A chamber with an entry at index 0 that holds room in lane 2 where it must. -/
def chamberWith (m : Mode) (st : AdmState) : State :=
  { chamber m with
    adm.table := (some (entry8820 st)) :: List.replicate 15 none
    adm.lanes := if st = .pending then lanes8 else lanes8.set 1 { use := .orders, capacity := 40, occupancy := 0, reserved := 1, order := some 5120 }
    adm.manifests := (some manifest8820) :: List.replicate 31 none }

/-! ### WellFormed refuses -/

theorem test_wf_tag_without_code : (Instr.frameError none (some 3#8)).wellFormed = false := by decide
theorem test_wf_pulse_lane : (Instr.rejectPulseEnd 9).wellFormed = false := by decide
theorem test_wf_row_pass_pots :
    (Instr.rowPass 2#5 1#5 { seq := 0#16, lot := 0#24, exposure := 0#24, flags := 0#8, pots := [0#16] }).wellFormed = false := by
  decide
theorem test_wf_answer_slot : (Instr.answerTimeout 5).wellFormed = false := by decide
theorem test_wf_repeat_slot : (Instr.repeatTimer 0).wellFormed = false := by decide
theorem test_wf_grant_cell : (Instr.grantExpiry 13).wellFormed = false := by decide
theorem test_wf_claim_index : (Instr.claimWindow 16).wellFormed = false := by decide
theorem test_wf_arrival_index : (Instr.arrivalWindow 16).wellFormed = false := by decide
theorem test_wf_lapse_index : (Instr.pendingLapse 16).wellFormed = false := by decide
theorem test_wf_manifest_index : (Instr.manifestLifetime 32).wellFormed = false := by decide
theorem test_wf_peer : (Instr.peerTimeout 31).wellFormed = false := by decide
theorem test_wf_good : (Instr.peerTimeout 30).wellFormed = true ∧ (Instr.rejectPulseEnd 8).wellFormed = true := by decide

/-! ### Records and frames written out from chapter 12 -/

/-- FORCE-REJECT of position 3, lane 3 (12.2): code 10H, tag 1, two parameters, check. -/
theorem test_decode_force_reject :
    Decode.portTransfer true [0x10#8, 0x01#8, 0x02#8, 0x03#8, 0x03#8, 0xE7#8] =
      .forceReject { tag := 1#8, paramLen := 2#8 } 3#8 3#8 := by decide

/-- DRAWDOWN of 258 from lane 4: a 2-byte count, high byte first. -/
theorem test_decode_drawdown :
    Decode.portTransfer true [0x3B#8, 0x01#8, 0x03#8, 0x04#8, 0x01#8, 0x02#8, 0xBA#8] =
      .drawdown { tag := 1#8, paramLen := 3#8 } 4#8 258#16 := by decide

/-- A wrong check byte is a frame error with the code and the tag as received. -/
theorem test_decode_bad_check :
    Decode.portTransfer true [0x21#8, 0x07#8, 0x00#8, 0xD9#8] = .frameError (some 0x21#8) (some 0x07#8) := by decide

/-- An unassigned code is an unknown command. -/
theorem test_decode_unknown : Decode.portTransfer true [0x0E#8, 0x07#8, 0x00#8, 0xEB#8] = .unknownCommand 0x0E#8 0x07#8 := by
  decide

/-- The table gives no row any bits. -/
theorem test_table_word : decodeTableWord 16 5 = none ∧ State.reset.withFetchWord 16 5 = State.reset := by
  simp [State.withFetchWord, decodeTableWord]

/-- The CRC of 12.1 is CRC-16 with polynomial 1021H from FFFFH: its check value over "123456789" is 29B1H. -/
theorem test_crc_check_value :
    crc16 [0x31#8, 0x32#8, 0x33#8, 0x34#8, 0x35#8, 0x36#8, 0x37#8, 0x38#8, 0x39#8] = 0x29B1#16 := by decide +kernel

/-- The CREDIT of the worked sequence of chapter 9: class 0, kind 1, source 4, target 3, length 3. -/
theorem test_head_credit :
    headBytes { cls := 0, kind := 1, source := 4, target := 3, length := 3 } = [0x04#8, 0x83#8, 0x03#8] := by decide

/-- Tray (3, 8820) is origin 3 in the high bits and sequence 8820 (12.1). -/
theorem test_tray_id_reads_back : readTrayId (writeTrayId { origin := 3, seq := 8820 }) = { origin := 3, seq := 8820 } := by decide

/-- The memory delivers each image word's high byte first (12.3). -/
theorem test_image_bytes : imageWords [0x12#8, 0x34#8, 0x56#8, 0x78#8] = [0x1234#16, 0x5678#16] := by decide

/-! ### Figures of the manual -/

/-- The table of R93. -/
theorem test_conversion_figures :
    convertReading 1247 1000 256 = 247 ∧ convertReading 1247 1000 250 = 241 ∧ convertReading 955 1000 250 = -44 ∧
      convertReading 1001 1000 128 = 1 ∧ convertReading 999 1000 128 = -1 ∧ convertReading 2100 1000 256 = 1100 ∧
      validT10 1100 = false ∧ validT10 (-400) = false ∧ validT10 241 = true := by decide

/-- The table of R96, with reference 60 and knee 150. -/
theorem test_increment_figures :
    increment 60 150 247 = 284 ∧ increment 60 150 241 = 272 ∧ increment 60 150 250 = 290 ∧ increment 60 150 213 = 216 ∧
      increment 60 150 190 = 170 ∧ increment 60 150 80 = 20 ∧ increment 60 150 20 = 0 ∧ increment 0 0 900 = 1800 := by decide

/-- Chapter 6: the classes of the worked sequence, with allowance 216,000. -/
theorem test_class_figures :
    classOf 216000 107784 = .green ∧ classOf 216000 108000 = .amber ∧ classOf 216000 194400 = .red ∧
      classOf 216000 216116 = .spent := by decide

/-- Chapter 6: a record at 16,777,100 in a 24.7 °C zone stays at 16,777,215. -/
theorem test_accrual_saturates : accrue 16777100 284 = 16777215 := by decide

/-- Chapter 2: with expected sequence 65534 and room 5 the advertised limit is 3. -/
theorem test_limit_wraps : (65534#16 + 5#16 = 3#16) ∧ (3#16 - 65534#16).toNat = 5 := by decide

/-- Chapter 2, a restarted receiver: CREDIT (0, 0) puts next sequence 12 at 0 and counts a resync. -/
theorem test_credit_resync :
    let s := onLine (station .filler .held)
    let t := after (.credit 3#5 1#5 0#16 0#8) { s with hnd.nextSeq := 12#16, hnd.everHeld := true, hnd.inLoss := true }
    t.hnd.nextSeq = 0#16 ∧ t.hnd.resync = 1 ∧ t.hnd.inLoss = false := by decide

/-- Chapter 2: a CREDIT whose receiver expects 65534 leaves next sequence 65534. -/
theorem test_credit_keeps_sequence :
    let s := onLine (station .filler .held)
    (after (.credit 3#5 1#5 3#16 5#8) { s with hnd.nextSeq := 65534#16, hnd.everHeld := true }).hnd.nextSeq = 65534#16 := by
  decide

/-- Chapter 1, reverse counts: the 17th at a debt of C = 16 is a TRACK-FAULT, which makes the debt 0 and holds the station. -/
theorem test_track_fault :
    let s := setSetting 7 16 (station .filler .running)
    let t := after .reverseCount { s with idx.debt := 16 }
    t.idx.debt = 0 ∧ t.stc.mode = .held ∧ t.stc.causes = 0x02#8 ∧ t.latchedNotice .trackFault = true := by decide

/-- Chapter 1: the row that reaches the gate has its HOST pot removed, and its lane is driven. Chapter 1: lanes 1, 2 and
4 sensed create row 17 with pots in those lanes. -/
theorem test_index_event_gate_and_filling :
    (
      let r := { rowOf none with pots := [some pot, some pot, some (pot.mark .host), some pot, none, none, none, none] }
      let t := after (.forwardCount 0#8 0#8) (countDue (withRow 15 r (station .filler .running)))
      (t.rowAt 16).map (fun q => q.body.pots.map Option.isSome) =
          some [true, true, false, true, false, false, false, false] ∧
        slotAt t.idx.pulses 2 = some 50 ∧ slotAt t.idx.pulses 1 = none) ∧
    (
      let t := after (.forwardCount 0x0B#8 0#8) (countDue { station .filler .running with idx.nextRow := 17 })
      (t.rowAt 0).map (fun q => (q.number, q.body.pots.map Option.isSome)) =
        some (17, [true, true, false, true, false, false, false, false])) := by
  decide

/-- Chapter 4: one lid on the ACTIVE reel and three in STANDBY: lane 1 uses the last one, the splice brings 7302, and
three pots use it up. Chapter 4: a spliced reel with use-by day 18,429 does not match: the rest of the row gains NO-LID
and LID-MISMATCH holds the station. Chapter 4: a third failure in a row on lane 2 trips it and adds BOND. -/
theorem test_index_event_lids_and_bond :
    (
      let s := countDue (withRow 5 (rowOf (some 4411)) (withLot (station .lidder .running)))
      let t := after (.forwardCount 0#8 0#8)
        { s with lid.active := some ⟨7301, 22, 18430, 2⟩, lid.standby := some ⟨7302, 22, 18430, 3⟩ }
      t.lid.active = some ⟨7302, 22, 18430, 1⟩ ∧ t.lid.standby = none ∧ t.lid.splices = 1 ∧ t.lid.applied = 4 ∧
        t.latchedNotice .reelSpliced = true) ∧
    (
      let s := countDue (withRow 5 (rowOf (some 4411)) (withLot (station .lidder .running)))
      let t := after (.forwardCount 0#8 0#8)
        { s with lid.active := some ⟨7302, 22, 18430, 2⟩, lid.standby := some ⟨7303, 22, 18429, 6000⟩ }
      t.stc.causes = 0x04#8 ∧ t.stc.mode = .held ∧ t.lid.mismatches = 1 ∧
        (t.rowAt 6).map (fun q => q.body.pots.map (Option.map (fun x => (x.lidded, x.has .noLid)))) =
          some [some (true, false), some (true, false), some (false, true), some (false, true), none, none, none, none]) ∧
    (
      let r := { rowOf none with pots := List.replicate 2 (some { pot with lidded := true }) ++ List.replicate 6 none }
      let s := countDue (withRow 9 r (station .lidder .running))
      let t := after (.forwardCount 0#8 0x01#8) { s with lid.fails := [0, 2, 0, 0, 0, 0, 0, 0] }
      t.lid.tripped = 0x02#8 ∧ t.stc.causes = 0x10#8 ∧ t.lid.fails = List.replicate 8 0 ∧ t.lid.bondFailures = 1) := by
  decide

/-- Chapter 6: the fifth miss in a row makes the probe FAILED with PROBE-FAILED. -/
theorem test_fifth_miss :
    let s := station .dispatch .running
    let t := after .miss { s with exp.probe := .degraded, exp.bad := 4, exp.missAt := some 250 }
    t.exp.probe = .failed ∧ t.exp.bad = 5 ∧ t.latchedNotice .probeFailed = true := by decide

/-- Chapter 6: at the fallback a tray of lot 4411 gains 290 in a second, and the fallback seconds are counted. -/
theorem test_fallback_second :
    let t := after .stationSecond (inCell (trayOf ⟨3, 8801⟩ .unasked none) (withLot (station .dispatch .running)))
    (t.cellAt 0).map (fun c => c.tray.exposure) = some 194690 ∧ t.exp.fallbackSeconds = 1 := by decide

/-- Chapter 6: the projection of tray (3, 8796) at the fallback is 216,100, and it is projected spent; at 201,020 it is not. -/
theorem test_projection :
    let s := withLot (station .dispatch .running)
    projectedSpent s { trayOf ⟨3, 8796⟩ .granted (some grant21) with exposure := 207400 } = true ∧
      projectedSpent s { trayOf ⟨3, 8801⟩ .granted (some grant21) with exposure := 201020 } = false := by decide

/-- Chapter 8, 0.000: the first ask is answered WAIT and its entry is READY in lane 2 with reserved 1 and order 5120. -/
theorem test_ask_reserves_lane :
    let s := chamber .running
    let t := after (.admitAsk 5#5 1#5 (writeTrayId ⟨3, 8820⟩))
      { s with adm.manifests := some manifest8820 :: List.replicate 31 none }
    (t.admission 0).map (fun e => (e.state, e.lane)) = some (.ready, some 2) ∧
      (t.lane 2).map (fun l => (l.reserved, l.order)) = some (1, some 5120) ∧ reservedTotal t = 1 ∧
      t.lnk.answerQ.map (fun f => (f.target, f.payload)) = [(5, .admitReply (writeTrayId ⟨3, 8820⟩) 1#8 0#8)] := by decide

/-- Chapter 8, 39.000: the infeed presents lane 2, whose occupancy becomes 1 and reserved 0, and writes ADMITTED. -/
theorem test_infeed_admits :
    let t := after .chamberInfeedEvent (chamberWith .running .inbound)
    t.adm.laneSelect = 2 ∧ (t.lane 2).map (fun l => (l.occupancy, l.reserved)) = some (1, 0) ∧
      t.trc.entries.length = 1 ∧ t.admission 0 = none := by decide

/-- Chapter 11: a response transfer with no response shifts out EMPTY with tag 0 and code 0. -/
theorem test_empty_response :
    (after .responseTransfer State.reset).port.delivered = [0x00#8, 0x00#8, 0x02#8, 0x00#8, 0x00#8, 0xFE#8] := by decide

/-- Chapter 10: an image that ends early is bad: the factory defaults, SETTINGS-BAD, CONFIGURING. -/
theorem test_bad_image :
    let t := after (.loadComplete []) State.reset
    t.stc.mode = .configuring ∧ t.latchedNotice .settingsBad = true ∧ t.setting 6 = 24 ∧ t.setting 21 = 1000 := by decide

/-- The idle step takes the part's own event that is due, and lets a millisecond pass where none is (log entry 2). -/
theorem test_idle :
    (idle State.reset).nowMs = 1 ∧ (idle { State.reset with nowMs := 1000 }).pending = [.stationSecond] := by decide

/-! ### Witnesses: for each statement with hypotheses, states and operands that meet them, clause by clause -/

/-- A station that another command finds with RESTART ordered. -/
def restarting (s : State) : State := { s with port.restartPending := true }

/-- A numeric product in range, and one out of range. -/
def product (code : BitVec 16) : ProductFields :=
  { code, flavour := 22#8, cls := 3#8, allowance := 216000#24, tref := 60#16, tk := 150#16, shelf := 14#8 }

/-- A station with a product at index 0. -/
def withProduct (s : State) : State :=
  { s with stc.products := s.stc.products.set 0 (some ⟨3175, 22, 3, 216000, 60, 150, 14⟩) }

/-- The bytes of the settings image of the factory defaults: each word's high byte first (12.3). -/
def defaultImage : List Byte :=
  let ws := storeWords defaultSettings defaultProducts defaultTransitions defaultLanes
  (ws ++ [wordSum ws]).flatMap (fun w => beBytes 2 w.toNat)

/-- A station at which CREDIT limit 16 is held. -/
def withCredit (s : State) : State := { s with hnd.held := some ⟨16#16, 0⟩, hnd.everHeld := true }

theorem witness_StepTakesFrontCommand :
    ({ State.reset with pending := [.hardReset, .reverseCount] } : State).pending = .hardReset :: [.reverseCount] := rfl

theorem witness_ResetsLeaveValuesAfterReset :
    (station .lidder .held).port.restartPending = false ∧ (hd 0#8).paramLen = 0#8 ∧
      (restarting (station .lidder .held)).port.restartPending = true := by decide

theorem witness_TransfersAreAnswered :
    State.reset.port.restartPending = false ∧ State.reset.port.place = none ∧
      (putResponse 7#8 0x21#8 .ok [] State.reset).port.place =
        some { tag := 7#8, code := 0x21#8, status := .ok, data := [], fetched := false } ∧
      commandParams (0x0E#8).toNat = none ∧ 0x0E#8 ≠ 0xFF#8 := by decide

theorem witness_PortCommandsRefusedInOrder :
    Decode.portParams (.splice (hd 1#8)) = some (0x21, hd 1#8, []) ∧ (hd 1#8).paramLen.toNat ≠ ([] : List Byte).length ∧
      Decode.portParams (.splice (hd 0#8)) = some (0x21, hd 0#8, []) ∧ (hd 0#8).paramLen.toNat = ([] : List Byte).length ∧
      State.reset.port.restartPending = false ∧ State.reset.mode = .starting ∧
      (station .filler .running).port.restartPending = false ∧ (station .filler .running).mode ≠ .starting ∧
      commandRoles 0x21 (station .filler .running).role = false := by decide

theorem witness_LoadFillsStoreAndEntersConfiguring :
    (station .filler .running).mode ≠ .starting ∧ State.reset.mode = .starting ∧ imageGood (imageWords []) = false := by decide

theorem witness_LoadFillsStoreAndEntersConfiguring_good :
    defaultImage.length = 784 ∧ imageGood (imageWords defaultImage) = true := by decide +kernel

theorem witness_StoreWritesClampToRange_tables :
    PortReady (hd 14#8) 14 (station .filler .running) ∧ PortReady (hd 14#8) 14 (station .filler .configuring) ∧
      PortReady (hd 4#8) 4 (station .filler .running) ∧ PortReady (hd 4#8) 4 (station .filler .configuring) ∧
      (station .filler .running).role = .filler ∧ (station .filler .configuring).role = .filler ∧
      (station .filler .running).mode ≠ .configuring ∧ (station .filler .configuring).mode = .configuring ∧
      31 < (32#8).toNat ∧ (31#8).toNat ≤ 31 ∧ (station .filler .configuring).stc.products.length = 32 ∧
      (2#8 : BitVec 8) ≠ 1#8 ∧ (0#8 : BitVec 8) ≠ 1#8 ∧ 2 < (3#8).toNat ∧ (2#8).toNat ≤ 2 ∧ 7 < (8#8).toNat ∧ (7#8).toNat ≤ 7 :=
  ⟨⟨rfl, rfl, by decide⟩, ⟨rfl, rfl, by decide⟩, ⟨rfl, rfl, by decide⟩, ⟨rfl, rfl, by decide⟩, by decide⟩

theorem witness_StoreWritesClampToRange_settings :
    PortReady (hd 6#8) 6 (station .filler .running) ∧ PortReady (hd 6#8) 6 (station .filler .configuring) ∧
      (station .filler .running).mode ≠ .configuring ∧ (station .filler .configuring).mode = .configuring ∧
      settingRange ((station .filler .configuring).setting 6) (55#16).toNat = none ∧
      settingRange ((station .filler .configuring).setting 6) (1#16).toNat = some (.oneOf [1, 2, 3, 4, 5, 6]) ∧
      (station .filler .configuring).stc.settings.length = settingCount ∧
      ¬((7#32).toNat : Int) ∈ [1, 2, 3, 4, 5, 6] ∧ ((6#32).toNat : Int) ∈ [1, 2, 3, 4, 5, 6] ∧
      ((6#32).toNat : Int) ≠ (station .filler .configuring).setting 1 ∧
      settingRange ((station .filler .configuring).setting 6) (11#16).toNat = some (.span 1 23) ∧ (1 : Int) ≤ 23 ∧
      settingRange ((station .filler .configuring).setting 6) (13#16).toNat = some (.span 0 30) ∧ (0 : Int) ≤ 30 :=
  ⟨⟨rfl, rfl, by decide⟩, ⟨rfl, rfl, by decide⟩, by decide⟩

theorem witness_StartChecksStoreAndRuns :
    PortReady (hd 0#8) 0 (station .lidder .configuring) ∧ (station .lidder .configuring).mode = .configuring ∧
      (station .lidder .configuring).role = .lidder ∧ (station .lidder .configuring).stc.settings.length = settingCount ∧
      storeChanged (station .lidder .configuring) = true ∧
      PortReady (hd 0#8) 0 (resum (station .lidder .configuring)) ∧
      (resum (station .lidder .configuring)).mode = .configuring ∧
      storeChanged (resum (station .lidder .configuring)) = false ∧
      (resum (station .filler .configuring)).role ≠ .lidder ∧ storeChanged (resum (station .filler .configuring)) = false :=
  ⟨⟨rfl, rfl, by decide⟩, by decide, by decide, by decide, by decide +kernel, ⟨rfl, rfl, by decide⟩, by decide,
    by decide +kernel, by decide, by decide +kernel⟩

/-- A LIDDER held by some causes. -/
def heldBy (c : BitVec 8) (s : State) : State := { s with stc.causes := c }

theorem witness_ModeCommandsMoveStation_hold :
    PortReady (hd 0#8) 0 (station .lidder .running) ∧ (station .lidder .running).mode = .running ∧
      PortReady (hd 0#8) 0 (heldBy 0x11#8 (station .lidder .held)) ∧
      (heldBy 0x11#8 (station .lidder .held)).mode = .held ∧
      (heldBy 0x11#8 (station .lidder .held)).stc.causes &&& 0xE0#8 = 0#8 ∧
      (heldBy 0x11#8 (station .lidder .held)).stc.causes &&& 0x0C#8 = 0#8 ∧
      (heldBy 0x11#8 (station .lidder .held)).hasCause .bond = true ∧
      PortReady (hd 0#8) 0 (heldBy 0x08#8 (station .lidder .held)) ∧
      (heldBy 0x08#8 (station .lidder .held)).stc.causes &&& 0x0C#8 ≠ 0#8 ∧
      reelsMended (heldBy 0x08#8 (station .lidder .held)) = false ∧
      PortReady (hd 0#8) 0 (heldBy 0x21#8 (station .lidder .held)) ∧
      (heldBy 0x21#8 (station .lidder .held)).stc.causes &&& 0x20#8 = 0x20#8 :=
  ⟨⟨rfl, rfl, by decide⟩, by decide, ⟨rfl, rfl, by decide⟩, by decide, by decide, by decide, by decide,
    ⟨rfl, rfl, by decide⟩, by decide, by decide, ⟨rfl, rfl, by decide⟩, by decide⟩

theorem witness_ModeCommandsMoveStation_mended :
    reelsMended { heldBy 0x08#8 (station .lidder .held) with lid.active := some ⟨7301, 22, 18430, 1⟩ } = true := by decide

theorem witness_ModeCommandsMoveStation_refused :
    PortReady (hd 0#8) 0 (station .filler .fault) ∧ (station .filler .fault).mode = .fault ∧
      (station .filler .fault).mode ≠ .configuring ∧ (station .filler .fault).mode ≠ .running ∧
      (station .filler .fault).mode ≠ .held ∧ (station .filler .fault).mode ≠ .sanitising ∧
      PortReady (hd 0#8) 0 (station .lidder .running) ∧ (station .lidder .running).mode = .running ∧
      PortReady (hd 0#8) 0 (station .trayer .draining) ∧ (station .trayer .draining).mode = .draining :=
  ⟨⟨rfl, rfl, by decide⟩, by decide, by decide, by decide, by decide, by decide, ⟨rfl, rfl, by decide⟩, by decide,
    ⟨rfl, rfl, by decide⟩, by decide⟩

theorem witness_ModeCommandsMoveStation_sanitise :
    (station .filler .running).role = .filler ∧
      (∀ m ∈ [Mode.draining], ∀ r ∈ [Role.filler, .lidder, .trayer, .chill, .dispatch, .chamber],
        (station r m).mode = .draining ∧ (station r m).role = r ∧ stationEmpty (station r m) = true) ∧
      PortReady (hd 0#8) 0 (station .trayer .sanitising) ∧ (station .trayer .sanitising).mode = .sanitising ∧
      (station .trayer .sanitising).sanitiseClears = true ∧ (station .trayer .sanitising).role ≠ .chamber :=
  ⟨by decide, by decide, ⟨rfl, rfl, by decide⟩, by decide⟩

theorem witness_DrainTimeoutWritesOff :
    ∀ r ∈ [Role.filler, .lidder, .trayer, .chill, .dispatch, .chamber],
      ({ station r .draining with stc.drainAt := some 120000 } : State).stc.drainAt = some 120000 ∧
        ({ station r .draining with stc.drainAt := some 120000 } : State).mode = .draining := by decide

theorem witness_ReadNoticesReturnsAndClears :
    (latch .missing (station .filler .held)).latchedNotice .missing = true ∧
      PortReady (hd 0#8) 0 (latch .missing (station .filler .held)) ∧
      (∃ t, exec .hardReset (station .filler .held) = .next t) ∧
      (restarting (station .filler .held)).port.restartPending = true ∧
      (∃ t, exec .responseTransfer (restarting (station .filler .held)) = .next t) ∧ State.reset.mode = .starting ∧
      imageGood (imageWords []) = false ∧ ∃ t, exec (.loadComplete []) State.reset = .next t :=
  ⟨by decide, ⟨rfl, rfl, by decide⟩, ⟨_, rfl⟩, rfl, ⟨_, rfl⟩, rfl, by decide, ⟨_, rfl⟩⟩

theorem witness_ClockAndDayMoveOnlyAsCommanded :
    PortReady (hd 4#8) 4 (station .filler .held) ∧ PortReady (hd 2#8) 2 (station .filler .held) ∧
      (Instr.setDay (hd 2#8) 18416#16 ≠ .hardReset ∧
        ∃ t, exec (.setDay (hd 2#8) 18416#16) (station .filler .held) = .next t) :=
  ⟨⟨rfl, rfl, by decide⟩, ⟨rfl, rfl, by decide⟩, by decide, ⟨_, rfl⟩⟩

/-- A tray record of TRAYER and CHILL. -/
def plainTray : Tray := { trayOf ⟨3, 8801⟩ .unasked none with order := none, route := none, chambers := none }

/-- An order of chambers 21 and 22. -/
def order5120 : OrderEntry :=
  { state := .opened, order := 5120, product := 3175, minUseBy := 18420, quantity := 40, assigned := 1, cutOff := 90000#32
    primary := 21, alternate := 22, onAlternate := false }

/-- A row and a tray entry of the arrivals lists. -/
def rowEntry : RowEntry := { body := rowOf none, seq := 0#16, since := 0 }
def trayEntry0 : TrayEntry := { tray := plainTray, seq := 0#16, since := 0 }

theorem witness_ReadsAnswerTheirRecords_refused :
    (∀ r ∈ [Role.filler, .lidder, .trayer, .chill, .dispatch, .chamber],
      (station r .held).port.restartPending = false ∧ (station r .held).mode ≠ .starting ∧ (station r .held).role = r) ∧
      PortReady (hd 1#8) 1 (station .filler .held) ∧ PortReady (hd 2#8) 2 (station .dispatch .held) ∧
      (station .filler .held).windowLength ≤ (24#8).toNat ∧ (23#8).toNat < (station .filler .held).windowLength ∧
      (station .filler .held).rowAt 23 = none ∧ (station .lidder .held).hnd.rowArrivals.length ≤ (7#8).toNat ∧
      (station .chill .held).hnd.trayArrivals.length ≤ (7#8).toNat ∧ 7 < (8#8).toNat ∧ 15 < (16#8).toNat ∧
      (16#8 : BitVec 8) ≠ 0xFF#8 ∧ slotAt (station .filler .held).lot.table 15 = none ∧
      (station .trayer .held).tray.forming = none ∧ (station .trayer .held).tray.formed.length < (16#8).toNat ∧
      (station .chill .held).tray.queue.length < (48#8).toNat ∧ (station .dispatch .held).cellAt 11 = none ∧
      (station .chamber .held).adm.lanes.length = 8 ∧ (station .chamber .held).admission 15 = none ∧
      slotAt (standbyBank (station .dispatch .held)) 31 = none ∧ slotAt (activeBank (station .dispatch .held)) 31 = none ∧
      ((0#16).toNat < 1 ∧ 54 < (55#16).toNat) ∧ 1 < (2#8).toNat ∧ 31 < (32#8).toNat :=
  ⟨by decide, ⟨rfl, rfl, by decide⟩, ⟨rfl, rfl, by decide⟩, by decide⟩

theorem witness_ReadsAnswerTheirRecords_held :
    PortReady (hd 0#8) 0 (station .lidder .held) ∧ PortReady (hd 1#8) 1 (station .chamber .held) ∧
      (withRow 23 (rowOf none) (station .filler .held)).rowAt 23 = some { number := 9, body := rowOf none } ∧
      ({ station .lidder .held with hnd.rowArrivals := [rowEntry] } : State).hnd.rowArrivals[(0#8).toNat]? = some rowEntry ∧
      ({ station .chill .held with hnd.trayArrivals := [trayEntry0] } : State).hnd.trayArrivals[(0#8).toNat]? =
        some trayEntry0 ∧
      slotAt (withLot (station .filler .held)).lot.table 0 = some lot4411 ∧
      ({ station .trayer .held with tray.forming := some ⟨plainTray, some 20000, false⟩ } : State).tray.forming =
        some ⟨plainTray, some 20000, false⟩ ∧
      ({ station .trayer .held with tray.formed := List.replicate 16 plainTray } : State).tray.formed[(16#8).toNat - 1]? =
        some plainTray ∧
      ({ station .chill .held with tray.queue := List.replicate 48 plainTray } : State).tray.queue[(48#8).toNat - 1]? =
        some plainTray ∧
      (inCell (trayOf ⟨3, 8801⟩ .unasked none) (station .dispatch .held)).cellAt ((1#8).toNat - 1) =
        some ⟨trayOf ⟨3, 8801⟩ .unasked none, 1#32, 1#32⟩ ∧
      slotAt (standbyBank { station .dispatch .held with dsp.bank1 := List.replicate 32 (some order5120) }) 31 =
        some order5120 ∧
      slotAt (activeBank { station .dispatch .held with dsp.bank0 := List.replicate 32 (some order5120) }) 31 =
        some order5120 ∧
      (chamber .held).adm.lanes[(8#8).toNat - 1]? = some (Lane.fresh .off 1) ∧
      (chamberWith .held .ready).admission 0 = some (entry8820 .ready) :=
  ⟨⟨rfl, rfl, by decide⟩, ⟨rfl, rfl, by decide⟩, by decide +kernel⟩

/-! Witnesses: the row window and handoff. -/

/-- A reverse debt that stands at C. -/
def inDebt (s : State) : State := { s with idx.debt := s.countsPerIndex }

/-- A row whose lane 2 pot is marked. -/
def markedRow : RowBody := { rowOf none with pots := [some pot, some (pot.mark .host), none, none, none, none, none, none] }

theorem witness_EncoderCountsAndTrackFault :
    takesCounts (station .lidder .held) = true ∧ (station .lidder .held).idx.debt = 0 ∧
      (station .lidder .held).idx.posCount + 1 < (station .lidder .held).countsPerIndex ∧
      (station .lidder .held).idx.debt < (station .lidder .held).countsPerIndex ∧
      0 < (inDebt (station .lidder .held)).idx.debt ∧ takesCounts (inDebt (station .lidder .held)) = true ∧
      (inDebt (station .lidder .held)).countsPerIndex ≤ (inDebt (station .lidder .held)).idx.debt ∧
      (station .chill .running).role.isRow = false ∧ (station .lidder .configuring).mode = .configuring ∧
      (inDebt (withRow 3 (rowOf none) (station .lidder .running))).rowAt 3 = some { number := 9, body := rowOf none } ∧
      (inDebt (withRow 3 (rowOf none) (station .lidder .running))).rowAt 2 = none := by decide

/-- The same with TRACK a cause already. -/
theorem witness_EncoderCountsAndTrackFault_repeated :
    let s := heldBy 0x02#8 (inDebt (station .lidder .held))
    takesCounts s = true ∧ s.countsPerIndex ≤ s.idx.debt ∧ s.hasCause .track = true ∧
      (after .reverseCount s).stc.latched = 0#32 ∧ (after .reverseCount s).stc.causes = 0x02#8 ∧
      (after .reverseCount s).idx.debt = 0 := by decide

theorem witness_IndexEventMovesRowsOnePosition :
    takesCounts (countDue (station .filler .running)) = true ∧ (countDue (station .filler .running)).idx.debt = 0 ∧
      (countDue (station .filler .running)).countsPerIndex ≤ (countDue (station .filler .running)).idx.posCount + 1 ∧
      22 + 1 < (countDue (station .filler .running)).windowLength ∧
      sensedCount 0xF0#8 (countDue (station .filler .running)).laneCount = 0 := by decide

theorem witness_FillerCreatesRowFromSensedLanes :
    ∀ m ∈ [Mode.running, .held, .fault],
      (countDue (station .filler m)).role = .filler ∧ (countDue (station .filler m)).mode = m ∧
        (countDue (station .filler m)).idx.debt = 0 ∧
        (countDue (station .filler m)).countsPerIndex ≤ (countDue (station .filler m)).idx.posCount + 1 ∧
        1 ≤ (countDue (station .filler m)).gatePos ∧ 1 ≤ (countDue (station .filler m)).windowLength ∧
        sensedCount 0x08#8 (countDue (station .filler m)).laneCount ≠ 0 := by decide

theorem witness_GateRemovesMarkedPotsByPulse :
    takesCounts (countDue (withRow 15 markedRow (station .trayer .running))) = true ∧
      (countDue (withRow 15 markedRow (station .trayer .running))).idx.debt = 0 ∧
      1 ≤ (station .trayer .running).gatePos ∧ (station .trayer .running).gatePos < (station .trayer .running).windowLength ∧
      (countDue (withRow 15 markedRow (station .trayer .running))).idx.pulses.length = 8 ∧
      (station .trayer .running).gatePos - 1 = 15 ∧
      (countDue (withRow 15 markedRow (station .trayer .running))).rowAt 15 = some { number := 9, body := markedRow } ∧
      slotAt markedRow.pots 1 = some (pot.mark .host) ∧ (pot.mark .host).marked = true ∧
      (station .trayer .running).role ≠ .lidder ∧
      slotAt ({ station .trayer .running with idx.pulses := (List.replicate 7 none) ++ [some 50] } : State).idx.pulses (8 - 1) =
        some 50 := by decide

theorem witness_ExitRowLeavesByCreditOrIsWrittenOff :
    ∀ r ∈ [Role.filler, .lidder],
      (countDue (withRow 23 (rowOf none) (station r .running))).role = r ∧
        takesCounts (countDue (withRow 23 (rowOf none) (station r .running))) = true ∧
        (station r .running).windowLength - 1 = 23 ∧
        (countDue (withRow 23 (rowOf none) (station r .running))).rowAt 23 = some { number := 9, body := rowOf none } ∧
        (rowOf none).hasPots = true ∧ maySend (countDue (withRow 23 (rowOf none) (station r .running))) = false ∧
        maySend (withCredit (countDue (withRow 23 (rowOf none) (station r .running)))) = true := by decide

/-- Position 15 is the last below the gate, 16 the gate, 23 the last of the window; lanes 0, 1, 4 and 5 are the ends of the
lane range. -/
theorem witness_ForceRejectAddsHostBelowGate :
    (station .filler .held).port.restartPending = false ∧ (hd 2#8).paramLen.toNat = 2 ∧ State.reset.mode = .starting ∧
      (station .chill .held).role.isRow = false ∧ (station .filler .sanitising).mode = .sanitising ∧
      (station .filler .held).role.isRow = true ∧ (station .filler .held).windowLength = 24 ∧
      (station .filler .held).gatePos = 16 ∧ (station .filler .held).laneCount = 4 ∧
      (station .filler .held).rowAt 15 = none ∧
      (withRow 15 markedRow (station .filler .held)).rowAt 15 = some { number := 9, body := markedRow } ∧
      slotAt markedRow.pots (4 - 1) = none ∧ (slotAt markedRow.pots (1 - 1)).isSome = true ∧ markedRow.hasPots = true ∧
      ({ markedRow with pots := List.replicate 8 none } : RowBody).hasPots = false := by decide

theorem witness_CreditTakenLapsedAndRefreshed :
    TakenFrom .credit 3#5 1#5 (onLine (station .filler .held)) ∧ (3#5).toNat = (onLine (station .filler .held)).downstream ∧
      TakenFrom .credit 2#5 1#5 (onLine (station .filler .held)) ∧ (2#5).toNat ≠ (onLine (station .filler .held)).downstream ∧
      (withCredit (station .filler .held)).hnd.held = some ⟨16#16, 0⟩ ∧
      ({ onLine (station .lidder .running) with hnd.refreshAt := some 200 } : State).hnd.refreshAt = some 200 ∧
      (onLine (station .lidder .running)).role.hasIncoming = true ∧ (onLine (station .lidder .running)).upstream ≠ 0 ∧
      (onLine (station .lidder .running)).mode ≠ .starting :=
  ⟨⟨by decide, by decide, by decide, by decide, by decide, by decide⟩, by decide,
    ⟨by decide, by decide, by decide, by decide, by decide, by decide⟩, by decide⟩

/-- A LIDDER and a CHILL whose arrivals list holds some entries. -/
def lidderList (n : Nat) : State := { onLine (station .lidder .running) with hnd.rowArrivals := List.replicate n rowEntry }
def chillList (n : Nat) : State := { onLine (station .chill .running) with hnd.trayArrivals := List.replicate n trayEntry0 }

theorem witness_PassesAcceptedOrDropped :
    TakenFrom .rowPass 2#5 1#5 (lidderList 8) ∧ TakenFrom .rowPass 2#5 1#5 (lidderList 7) ∧
      TakenFrom .trayPass 2#5 1#5 (chillList 8) ∧ TakenFrom .trayPass 2#5 1#5 (chillList 7) ∧
      (chillList 8).role ≠ .chamber ∧
      (lidderList 8).hnd.rowArrivals.any (fun e => e.seq = 0#16) = true ∧
      (decide ((2#5).toNat ≠ (lidderList 8).upstream) || !passMode (lidderList 8).mode ||
        (lidderList 8).hnd.rowArrivals.any (fun e => e.seq = 5#16)) = false ∧
      8 ≤ (lidderList 8).hnd.rowArrivals.length ∧
      (decide ((2#5).toNat ≠ (lidderList 7).upstream) || !passMode (lidderList 7).mode ||
        (lidderList 7).hnd.rowArrivals.any (fun e => e.seq = 5#16)) = false ∧
      (lidderList 7).hnd.rowArrivals.length < 8 ∧
      (decide ((2#5).toNat ≠ (chillList 8).upstream) || !passMode (chillList 8).mode ||
        (chillList 8).hnd.trayArrivals.any (fun e => e.seq = 5#16)) = false ∧
      8 ≤ (chillList 8).hnd.trayArrivals.length ∧
      (decide ((2#5).toNat ≠ (chillList 7).upstream) || !passMode (chillList 7).mode ||
        (chillList 7).hnd.trayArrivals.any (fun e => e.seq = 5#16)) = false ∧
      (chillList 7).hnd.trayArrivals.length < 8 :=
  ⟨⟨by decide, by decide, by decide, by decide, by decide, by decide⟩,
    ⟨by decide, by decide, by decide, by decide, by decide, by decide⟩,
    ⟨by decide, by decide, by decide, by decide, by decide, by decide⟩,
    ⟨by decide, by decide, by decide, by decide, by decide, by decide⟩, by decide⟩

theorem witness_TransitLimitRemovesOldestEntry :
    (lidderList 2).role = .lidder ∧ (lidderList 2).hnd.rowArrivals = rowEntry :: [rowEntry] ∧ (chillList 1).role = .chill ∧
      (chillList 1).hnd.trayArrivals = trayEntry0 :: [] := by decide

/-! Witnesses: lots. -/

/-- A FILLER in RUNNING whose open lot is 4411, and one whose table is full of CLOSED lots that rows name. -/
def filling : State :=
  { withProduct (station .filler .running) with
    lot.table := List.replicate 15 none ++ [some lot4411]
    lot.openIdx := some 15 }
def fullTable : State :=
  { withProduct (station .filler .running) with
    lot.table := List.replicate 16 (some { lot4411 with state := .closed }) }

theorem witness_OpenLotChecksAndOpens :
    PortReady (hd 5#8) 5 filling ∧ filling.role = .filler ∧ (station .filler .fault).mode ≠ .running ∧
      (station .filler .fault).mode ≠ .held ∧ filling.mode = .running ∧ slotAt filling.stc.products 31 = none ∧
      slotAt filling.stc.products 0 = some ⟨3175, 22, 3, 216000, 60, 150, 14⟩ ∧
      decide (1 ≤ (16#8).toNat ∧ (16#8).toNat ≤ 16 ∧ (1#24).toNat ≠ 0) = true ∧
      decide (1 ≤ (17#8).toNat ∧ (17#8).toNat ≤ 16 ∧ (1#24).toNat ≠ 0) = false ∧
      (findLot filling (4411#24).toNat).isSome = true ∧ (findLot filling (1#24).toNat).isSome = false ∧
      findPlace (tableAfterClose filling) ≠ none ∧
      (findLot fullTable 1).isSome = false ∧ findPlace (tableAfterClose fullTable) = none ∧
      transitionFor { filling with lot.prevClass := some 2 } 3 = .sanitise ∧
      ({ filling with lot.prevClass := some 2 } : State).lot.sanitised = false ∧
      transitionFor { filling with lot.prevClass := some 3 } 3 ≠ .sanitise ∧ filling.lot.pendingCloses = [] ∧
      ({ filling with lot.pendingCloses := [4410] } : State).lot.pendingCloses ≠ [] :=
  ⟨⟨rfl, rfl, by decide⟩, by decide⟩

/-- A main queue that holds some frames. -/
def withMain (n : Nat) (s : State) : State := { s with lnk.mainQ := List.replicate n (frameTo 0 (.lotClose 9#24)) }

theorem witness_CloseLotClosesOpenLot :
    filling.port.restartPending = false ∧ (hd 0#8).paramLen.toNat = 0 ∧ State.reset.mode = .starting ∧
      (station .lidder .held).role ≠ .filler ∧ (station .lidder .held).mode ≠ .starting ∧
      (station .filler .fault).role = .filler ∧ (station .filler .fault).mode ≠ .running ∧
      (station .filler .fault).mode ≠ .held ∧ (station .filler .held).lot.openIdx = none ∧ filling.mode = .running ∧
      ({ filling with lot.pendingCloses := [4410] } : State).lot.pendingCloses ≠ [] ∧ filling.lot.openIdx = some 15 ∧
      slotAt filling.lot.table 15 = some lot4411 ∧ lot4411.state = .opened ∧ filling.lot.pendingCloses = [] ∧
      (withMain 15 filling).lnk.mainQ.length < 16 ∧ 16 ≤ (withMain 16 filling).lnk.mainQ.length := by decide

theorem witness_LotAnnouncementsRepeatAndCatchUp :
    ({ filling with lot.repeatAt := some 5000 } : State).lot.repeatAt = some 5000 ∧ filling.lot.openIdx = some 15 ∧
      slotAt filling.lot.table 15 = some lot4411 ∧ filling.lot.pendingCloses = [] ∧
      (withMain 15 filling).lnk.mainQ.length < 16 ∧
      (withMain 14 { filling with lot.pendingCloses := [4410], lot.pendingOpen := true }).lnk.mainQ.length +
          ({ filling with lot.pendingCloses := [4410], lot.pendingOpen := true } : State).lot.pendingCloses.length < 16 := by
  decide

/-- The LOT-OPEN of lot 4411, and a TRAYER that takes frames of lots from station 1 or 2. -/
def open4411 : LotOpenFields :=
  { lot := 4411#24, product := 3175#16, flavour := 22#8, cls := 3#8, tank := 7#8, useBy := 18430#16, allowance := 216000#24,
    tref := 60#8, tk := 150#16 }
def listening : State := setSetting 18 2 (setSetting 17 0 (onLine (station .trayer .running)))

theorem witness_LotFramesOpenAndCloseCopies :
    HeardFrom .lotOpen 2#5 listening ∧ HeardFrom .lotClose 2#5 listening ∧ HeardFrom .lotOpen 3#5 listening ∧
      HeardFrom .lotClose 3#5 listening ∧ (0#5).toNat = 0 ∧
      (inUpstreamRange listening (2#5).toNat && lotOpenInRange open4411) = true ∧
      (inUpstreamRange listening (3#5).toNat && lotOpenInRange open4411) = false ∧
      (inUpstreamRange listening (2#5).toNat && lotOpenInRange { open4411 with tk := 401#16 }) = false ∧
      findLot (withLot listening) (4411#24).toNat = some lot4411 ∧ findLot listening (4411#24).toNat = none ∧
      inUpstreamRange listening (3#5).toNat = false ∧ inUpstreamRange listening (2#5).toNat = true ∧
      lot4411.state = .opened ∧ ({ lot4411 with state := .closed } : LotRec).state ≠ .opened :=
  ⟨⟨by decide, by decide, by decide, by decide, by decide⟩, ⟨by decide, by decide, by decide, by decide, by decide⟩,
    ⟨by decide, by decide, by decide, by decide, by decide⟩, ⟨by decide, by decide, by decide, by decide, by decide⟩,
    by decide⟩

/-! Witnesses: reels, lids and trays. -/

theorem witness_LoadReelFillsStandby :
    (station .lidder .held).port.restartPending = false ∧ (hd 7#8).paramLen.toNat = 7 ∧ State.reset.mode = .starting ∧
      (station .lidder .held).mode ≠ .starting ∧ (station .lidder .held).role = .lidder ∧
      (station .filler .held).role ≠ .lidder ∧ (station .filler .held).mode ≠ .starting ∧
      (1#16 : BitVec 16) ≠ 0#16 ∧ (1#8 : BitVec 8) ≠ 0#8 ∧ (60001#16 : BitVec 16) ≠ 0#16 := by decide

theorem witness_SpliceMovesStandbyToActive :
    (station .lidder .held).port.restartPending = false ∧ (hd 0#8).paramLen.toNat = 0 ∧ State.reset.mode = .starting ∧
      (station .filler .held).mode ≠ .starting ∧ (station .filler .held).role ≠ .lidder ∧
      (station .lidder .held).mode ≠ .starting ∧ (station .lidder .held).role = .lidder ∧
      (station .lidder .held).lid.standby = none ∧
      ({ station .lidder .held with lid.standby := some ⟨7302, 22, 18430, 6000⟩ } : State).lid.standby =
        some ⟨7302, 22, 18430, 6000⟩ := by decide

/-- A LIDDER whose next index event brings a row of lot 4411 to the lid position. -/
def toLid : State := countDue (withRow 5 (rowOf (some 4411)) (withLot (station .lidder .running)))

theorem witness_LidPositionTreatsRow :
    toLid.role = .lidder ∧ takesCounts toLid = true ∧ toLid.idx.debt = 0 ∧ toLid.countsPerIndex ≤ toLid.idx.posCount + 1 ∧
      1 ≤ toLid.lidPos ∧ toLid.lidPos < toLid.bondPos ∧ toLid.bondPos < toLid.gatePos ∧ toLid.gatePos < toLid.windowLength ∧
      toLid.rowAt (toLid.lidPos - 1) = some { number := 9, body := rowOf (some 4411) } ∧
      (rowOf (some 4411)).needsLid = true ∧ (rowOf (some 4411)).lot = some lot4411.id ∧
      findLot toLid lot4411.id = some lot4411 ∧ toLid.rowAt (toLid.windowLength - 1) = none ∧
      sensedCount 0#8 toLid.laneCount = 0 ∧ toLid.rowAt (toLid.bondPos - 1) = none ∧ toLid.lid.active = none ∧
      toLid.lid.standby = none ∧ (Reel.mk 7301 22 18429 6000).suits lot4411 = false ∧
      (Reel.mk 7301 22 18430 5).suits lot4411 = true ∧
      ((rowOf (some 4411)).pots.filter (fun o => o.any Pot.toLid)).length < 5 := by decide

/-- A TRAYER with a tray under construction, and with full formed-tray queue. -/
def forming : State := { station .trayer .running with tray.forming := some ⟨plainTray, some 20000, false⟩ }

theorem witness_TraysCloseAndLeave :
    forming.tray.forming = some ⟨plainTray, some 20000, false⟩ ∧ forming.tray.formed.length < 16 ∧
      16 ≤ ({ forming with tray.formed := List.replicate 16 plainTray } : State).tray.formed.length ∧
      (station .trayer .running).role = .trayer ∧ (station .trayer .running).mode ≠ .starting ∧
      (station .trayer .running).tray.formed = [] ∧ (station .chill .running).tray.queue = [] ∧
      ({ station .trayer .running with tray.formed := [plainTray] } : State).tray.formed = plainTray :: [] ∧
      maySend { station .trayer .running with tray.formed := [plainTray] } = false ∧
      maySend (withCredit { station .trayer .running with tray.formed := [plainTray] }) = true ∧
      (station .chill .running).role = .chill ∧ (station .chill .running).mode ≠ .starting ∧
      ({ station .chill .running with tray.queue := [plainTray] } : State).tray.queue = plainTray :: [] ∧
      maySend { station .chill .running with tray.queue := [plainTray] } = false ∧
      maySend (withCredit { station .chill .running with tray.queue := [plainTray] }) = true := by decide

theorem witness_InfeedPlacesTray :
    (chillList 1).role = .chill ∧ (chillList 1).mode = .running ∧ (chillList 1).hnd.trayArrivals = trayEntry0 :: [] ∧
      (chillList 1).tray.queue.length < 48 ∧
      ({ station .dispatch .fault with hnd.trayArrivals := [trayEntry0] } : State).hnd.trayArrivals = trayEntry0 :: [] ∧
      (station .dispatch .fault).mode = .fault ∧ (station .dispatch .fault).role = .dispatch ∧
      lowestFree (station .dispatch .fault).tray.cells = some 0 ∧ (chillList 0).hnd.trayArrivals = [] ∧
      ({ chillList 0 with tray.queue := List.replicate 47 plainTray } : State).tray.queue.length < 48 ∧
      (station .chill .configuring).mode = .configuring ∧ (station .dispatch .sanitising).mode = .sanitising := by decide

/-! Witnesses: exposure. -/

theorem witness_ProbeReadingsAndIncrements :
    takesReadings (station .dispatch .running) = true ∧
      validT10 (convertReading (min 65535 1247) (station .dispatch .running).probeZero (station .dispatch .running).probeGain)
        = true ∧
      validT10 (convertReading (min 65535 0) (station .dispatch .running).probeZero (station .dispatch .running).probeGain)
        = false ∧
      ({ station .dispatch .running with exp.missAt := some 250 } : State).exp.missAt = some 250 ∧
      (∀ p ∈ [ProbeState.ok, .degraded], ({ station .dispatch .running with exp.probe := p } : State).exp.probe = p) ∧
      (3 < 4 ∧ 4 ≤ 4) ∧ (60 ≤ 150) ∧ ((60 : Int) ≤ (60 : Nat)) ∧ ((150 : Nat) : Int) ≤ 150 := by decide

theorem witness_StationSecondAccruesExposure :
    (station .dispatch .running).role.holdsLots = true ∧ (station .filler .configuring).role.holdsLots = true := by decide

/-! Witnesses: dispatch. -/

/-- WRITE-ORDER's fields for order 5120. -/
def orderFields : OrderFields :=
  { order := 5120#16, product := 3175#16, minUseBy := 18420#16, quantity := 1000#16, assigned := 0#16, cutOff := 90000#32
    primary := 21#8, alternate := 22#8 }

theorem witness_WriteOrderFillsStandbyBank :
    PortReady (hd 19#8) 19 (station .dispatch .held) ∧ (station .dispatch .held).role = .dispatch ∧ 32 ≤ (32#8).toNat ∧
      (31#8).toNat < 32 ∧ (station .dispatch .held).dsp.bank0.length = 32 ∧
      (station .dispatch .held).dsp.bank1.length = 32 ∧ orderRefused orderFields = false ∧
      orderRefused { orderFields with primary := 31#8 } = true :=
  ⟨⟨rfl, rfl, by decide⟩, by decide⟩

theorem witness_SwapBookExchangesBanks :
    (station .dispatch .held).port.restartPending = false ∧ (hd 1#8).paramLen.toNat = 1 ∧ State.reset.mode = .starting ∧
      (station .filler .held).mode ≠ .starting ∧ (station .filler .held).role ≠ .dispatch ∧
      (station .dispatch .held).mode ≠ .starting ∧ (station .dispatch .held).role = .dispatch ∧ 1 < (2#8).toNat ∧
      (0#8).toNat = (if (station .dispatch .held).dsp.swap then 1 else 0) ∧
      (1#8).toNat = (if (station .dispatch .held).dsp.swap then 0 else 1) := by decide

theorem witness_RetryAndRemoveTray :
    (station .dispatch .held).port.restartPending = false ∧ (hd 1#8).paramLen.toNat = 1 ∧ State.reset.mode = .starting ∧
      (station .filler .held).role ≠ .dispatch ∧ (station .dispatch .held).role = .dispatch ∧
      (station .dispatch .held).mode ≠ .starting ∧ (0#8).toNat < 1 ∧ 12 < (13#8).toNat ∧ 1 ≤ (1#8).toNat ∧
      (12#8).toNat ≤ 12 ∧ (station .dispatch .held).cellAt ((12#8).toNat - 1) = none ∧
      (∀ d ∈ [DispatchState.unasked, .asking, .granted, .routeHeld, .releasing],
        (inCell (trayOf ⟨3, 8801⟩ d none) (station .dispatch .held)).cellAt ((1#8).toNat - 1) =
          some ⟨trayOf ⟨3, 8801⟩ d none, 1#32, 1#32⟩) ∧
      (inCell (trayOf ⟨0, 0⟩ .unasked none) (station .dispatch .held)).cellAt 0 =
        some ⟨trayOf ⟨0, 0⟩ .unasked none, 1#32, 1#32⟩ := by decide

/-- A DISPATCH whose cell 1 holds tray (3, 8801) in a dispatch state, with lot 4411 and its order in the table. -/
def dispatching (d : DispatchState) (g : Option Grant) : State :=
  { withLot (inCell (trayOf ⟨3, 8801⟩ d g) (station .dispatch .running)) with
    dsp.bank0 := some order5120 :: List.replicate 31 none }

theorem witness_SeriesStartQueuesManifestAndAsk :
    seriesAllowed (dispatching .unasked none) = true ∧ lowestFree (dispatching .unasked none).dsp.slots = some 0 ∧
      redFirst (dispatching .unasked none) (fun x => x.tray.dstate = .unasked) = some 0 ∧
      (dispatching .unasked none).cellAt 0 = some ⟨trayOf ⟨3, 8801⟩ .unasked none, 1#32, 1#32⟩ ∧
      projectedSpent (dispatching .unasked none) (trayOf ⟨3, 8801⟩ .unasked none) = false ∧
      trayEntry (dispatching .unasked none) (trayOf ⟨3, 8801⟩ .unasked none).order = some order5120 ∧
      order5120.current = 21 ∧ peerRefuses (dispatching .unasked none) 21 = false ∧
      peerRefuses
          { dispatching .unasked none with
            lnk.peers := (dispatching .unasked none).lnk.peers.set 20 { mode := some .fault, since := some 0 } } 21 = true ∧
      (trayOf ⟨3, 8801⟩ .unasked none).retry ≤ 1 := by decide

/-- A request slot of the tray in cell 1, in a phase. -/
def slotOf (p : Phase) : Slot :=
  { cell := 0, target := 21, attempts := 1, phase := p, answerAt := if p = .asking then some 250 else none
    repeatAt := if p = .between then some 100 else none, askDue := false, flagged := false, latestAsk := 0 }

/-- The DISPATCH while the tray in cell 1 is ASKING, its slot being the last. -/
def askingWith (x : Slot) : State := { dispatching .asking none with dsp.slots := List.replicate 3 none ++ [some x] }

theorem witness_AdmitReplySettlesAttempt :
    TakenFrom .admitReply 21#5 1#5 (askingWith (slotOf .asking)) ∧
      (∀ p ∈ [Phase.asking, .between],
        replySlot (askingWith (slotOf p)) (readTrayId (writeTrayId ⟨3, 8801⟩)) (21#5).toNat = some 3 ∧
          (askingWith (slotOf p)).slot 3 = some (slotOf p) ∧
          (askingWith (slotOf p)).cellAt (slotOf p).cell = some ⟨trayOf ⟨3, 8801⟩ .asking none, 1#32, 1#32⟩) ∧
      1 ≤ (1#8).toNat ∧ (8#8).toNat ≤ 8 ∧ (slotOf .asking).attempts < (askingWith (slotOf .asking)).attemptLimit ∧
      (trayOf ⟨3, 8801⟩ .asking none).retry ≤ 1 ∧ 2 ≤ ({ trayOf ⟨3, 8801⟩ .asking none with retry := 2 } : Tray).retry ∧
      replySlot (askingWith (slotOf .asking)) (readTrayId (writeTrayId ⟨3, 8802⟩)) (21#5).toNat = none ∧
      alreadyGranted (askingWith (slotOf .asking)) (readTrayId (writeTrayId ⟨3, 8802⟩)) (21#5).toNat = false ∧
      Answer.ofCode (5#8).toNat = none ∧ 8 < (9#8).toNat :=
  ⟨⟨by decide, by decide, by decide, by decide, by decide, by decide⟩, by decide⟩

theorem witness_SlotAndGrantTimersRunOut :
    (askingWith (slotOf .asking)).slot (4 - 1) = some (slotOf .asking) ∧ (slotOf .asking).answerAt = some 250 ∧
      (slotOf .asking).attempts < (askingWith (slotOf .asking)).attemptLimit ∧
      (askingWith (slotOf .between)).slot (4 - 1) = some (slotOf .between) ∧ (slotOf .between).repeatAt = some 100 ∧
      askRoom (withMain 15 (askingWith (slotOf .between))) = true ∧
      askRoom (withMain 16 (askingWith (slotOf .between))) = false ∧
      (askingWith { slotOf .between with askDue := true }).dsp.slots.findIdx? (fun o => o.any Slot.askDue) = some 3 ∧
      (withMain 15 (askingWith { slotOf .between with askDue := true })).lnk.mainQ.length < 16 ∧
      (askingWith (slotOf .between)).dsp.pendingPass = none ∧
      (dispatching .granted (some grant21)).cellAt (1 - 1) =
        some ⟨trayOf ⟨3, 8801⟩ .granted (some grant21), 1#32, 1#32⟩ := by decide

/-- The DISPATCH with the release of the tray in cell 1 in flight. -/
def releasing : State :=
  { dispatching .releasing (some grant21) with dsp.release := some 0, dsp.shuttleAt := some 10000 }

theorem witness_ReleasesBeginAndEnd :
    releaseAllowed (dispatching .granted (some grant21)) = true ∧
      chooseRelease (dispatching .granted (some grant21)) = some 0 ∧
      projectedSpent (dispatching .granted (some grant21)) (trayOf ⟨3, 8801⟩ .granted (some grant21)) = false ∧
      releasing.role = .dispatch ∧ releasing.dsp.release = some 0 ∧
      releasing.cellAt 0 = some ⟨trayOf ⟨3, 8801⟩ .releasing (some grant21), 1#32, 1#32⟩ ∧
      releasing.trc.entries.length < 128 ∧ (withMain 15 releasing).lnk.mainQ.length < 16 ∧
      16 ≤ (withMain 16 releasing).lnk.mainQ.length ∧ (dispatching .unasked none).dsp.release = none ∧
      releasing.dsp.shuttleAt = some 10000 ∧ releasing.mode = .running ∧
      ({ dispatching .unasked none with dsp.pendingPass := some (frameTo 21 (.lotClose 9#24)) } : State).dsp.pendingPass =
        some (frameTo 21 (.lotClose 9#24)) := by decide

/-! Witnesses: the trace ring and the chamber. -/

/-- A trace ring holding two entries, of which some are read. -/
def ring (read : Nat) (s : State) : State :=
  { s with
    trc.entries := List.replicate 2 (.chamber ⟨3, 8820⟩ .admitted (some 2) none 39#32)
    trc.readCount := read }

theorem witness_TraceRingKeepsReadsAndFrees :
    PortReady (hd 0#8) 0 (ring 1 (station .dispatch .held)) ∧ (station .dispatch .held).role = .dispatch ∧
      (station .chamber .held).role = .chamber ∧
      (ring 2 (station .dispatch .held)).trc.entries.length ≤ (ring 2 (station .dispatch .held)).trc.readCount ∧
      (ring 1 (station .dispatch .held)).trc.entries[(ring 1 (station .dispatch .held)).trc.readCount]? =
        some (.chamber ⟨3, 8820⟩ .admitted (some 2) none 39#32) ∧
      (station .dispatch .held).trc.entries = [] ∧ (ring 0 (station .dispatch .held)).trc.entries ≠ [] ∧
      (ring 0 (station .dispatch .held)).trc.readCount = 0 ∧ 1 ≤ (ring 1 (station .dispatch .held)).trc.readCount ∧
      (Instr.shuttleDone ≠ .hardReset ∧ ∃ t, exec .shuttleDone releasing = .next t) :=
  ⟨⟨rfl, rfl, by decide⟩, by decide, by decide, by decide, by decide, by decide, by decide, by decide, by decide,
    by decide, ⟨_, rfl⟩⟩

theorem witness_WriteLaneSetsLane :
    PortReady (hd 8#8) 8 (chamber .configuring) ∧ PortReady (hd 8#8) 8 (chamber .running) ∧
      (chamber .configuring).role = .chamber ∧ (chamber .running).role = .chamber ∧
      (chamber .configuring).mode = .configuring ∧ (chamber .running).mode ≠ .configuring ∧ 3 < (4#8).toNat ∧
      (3#8).toNat ≤ 3 ∧ (chamber .configuring).adm.lanes.length = 8 ∧ (0#8).toNat < 1 ∧ 8 < (9#8).toNat ∧
      (8#8).toNat ≤ 8 ∧ (5117#16 : BitVec 16) ≠ 0#16 ∧
      (∃ k l, k ≠ (8#8).toNat ∧ (chamber .configuring).lane k = some l ∧ l.use = .orders ∧
        l.order = some (5117#16).toNat) :=
  ⟨⟨rfl, rfl, by decide⟩, ⟨rfl, rfl, by decide⟩, by decide, by decide, by decide, by decide, by decide, by decide,
    by decide, by decide, by decide, by decide, by decide, 1, _, by decide, rfl, by decide, by decide⟩

theorem witness_DrawdownLowersOccupancyAndServes :
    (chamber .running).port.restartPending = false ∧ (hd 3#8).paramLen.toNat = 3 ∧ (chamber .running).adm.lanes.length = 8 ∧
      State.reset.mode = .starting ∧ State.reset.adm.lanes.length = 8 ∧ (station .filler .held).role ≠ .chamber ∧
      (chamber .running).mode ≠ .starting ∧ (chamber .running).role = .chamber ∧ 8 < (9#8).toNat ∧ (0#16).toNat = 0 ∧
      500 < (501#16).toNat ∧ (500#16).toNat ≤ 500 ∧ 1 ≤ (1#16).toNat ∧
      (chamber .running).lane 1 = some { use := .orders, capacity := 40, occupancy := 12, reserved := 0, order := some 5117 } ∧
      (chamber .running).lane 8 = some (Lane.fresh .off 1) := by decide

/-- The MANIFEST of tray (3, 8820). -/
def manifestFields : ManifestFields :=
  { trayId := writeTrayId ⟨3, 8820⟩, lot := 4411#24, product := 3175#16, useBy := 18430#16, order := 5120#16
    exposure := 0#24, flags := 0#8 }

theorem witness_ManifestIsStoredOrDropped :
    TakenFrom .manifest 5#5 1#5 (chamber .running) ∧ TakenFrom .manifest 5#5 1#5 (chamber .sanitising) ∧
      (chamber .sanitising).mode = .sanitising ∧ (chamber .running).mode ≠ .sanitising ∧
      manifestIndex (chamber .running) (readTrayId manifestFields.trayId) = none ∧
      lowestFree (chamber .running).adm.manifests = some 0 ∧
      lowestFree ({ chamber .running with
        adm.manifests := List.replicate 32 (some { manifest8820 with tray := ⟨3, 8821⟩ }) } : State).adm.manifests = none ∧
      manifestIndex { chamber .running with adm.manifests := List.replicate 32 (some { manifest8820 with tray := ⟨3, 8821⟩ }) }
        (readTrayId manifestFields.trayId) = none ∧
      manifestIndex { chamber .running with adm.manifests := some manifest8820 :: List.replicate 31 none }
        (readTrayId manifestFields.trayId) = some 0 ∧
      admissionIndex (chamber .running) (readTrayId manifestFields.trayId) = none :=
  ⟨⟨by decide, by decide, by decide, by decide, by decide, by decide⟩,
    ⟨by decide, by decide, by decide, by decide, by decide, by decide⟩, by decide⟩

/-- An answer queue that holds some frames. -/
def withAnswers (n : Nat) (s : State) : State := { s with lnk.answerQ := List.replicate n (frameTo 5 (.lotClose 9#24)) }

theorem witness_AdmitAskIsAnswered :
    TakenFrom .admitAsk 5#5 1#5 (chamber .running) ∧ 8 ≤ (withAnswers 8 (chamber .running)).lnk.answerQ.length ∧
      (withAnswers 7 (chamber .running)).lnk.answerQ.length < 8 ∧ (chamber .fault).mode = .fault ∧
      (chamber .draining).mode = .draining ∧
      (∀ st ∈ [AdmState.pending, .ready, .claimed, .inbound],
        admissionIndex (chamberWith .running st) (readTrayId (writeTrayId ⟨3, 8820⟩)) = some 0 ∧
          (chamberWith .running st).admission 0 = some (entry8820 st) ∧ (entry8820 st).state = st) ∧
      admissionIndex (chamber .running) (readTrayId (writeTrayId ⟨3, 8820⟩)) = none ∧
      lowestFree (chamber .running).adm.table = some 0 ∧
      lowestFree ({ chamber .running with adm.table := List.replicate 16 (some (entry8820 .pending)) } : State).adm.table =
        none ∧
      manifestOf (chamber .running) (readTrayId (writeTrayId ⟨3, 8820⟩)) = none ∧
      manifestOf { chamber .running with adm.manifests := some manifest8820 :: List.replicate 31 none }
        (readTrayId (writeTrayId ⟨3, 8820⟩)) = some manifest8820 ∧
      hasLaneFor (chamber .running) (neededUse manifest8820.quarantine manifest8820.order) = true ∧
      hasLaneFor (station .chamber .running) (neededUse manifest8820.quarantine manifest8820.order) = false :=
  ⟨⟨by decide, by decide, by decide, by decide, by decide, by decide⟩, by decide⟩

theorem witness_AdmissionWindowsEndEntries :
    (∀ st ∈ [AdmState.pending, .ready, .claimed, .inbound],
      (chamberWith .held st).admission 0 = some (entry8820 st) ∧ (entry8820 st).state = st) ∧
      (chamberWith .held .claimed).trc.entries.length < 128 ∧ (chamberWith .held .ready).mode ≠ .running ∧
      slotAt ({ chamber .running with adm.manifests := some manifest8820 :: List.replicate 31 none } : State).adm.manifests 0 =
        some manifest8820 ∧
      admissionIndex { chamber .running with adm.manifests := some manifest8820 :: List.replicate 31 none }
        manifest8820.tray = none := by decide

theorem witness_InboundTrayIsAdmitted :
    TakenFrom .trayPass 5#5 1#5 (chamberWith .draining .claimed) ∧ (chamberWith .draining .claimed).role = .chamber ∧
      (chamberWith .draining .claimed).mode = .draining ∧
      admissionIndex (chamberWith .draining .claimed) (readTrayId (writeTrayId ⟨3, 8820⟩)) = some 0 ∧
      (chamberWith .draining .claimed).admission 0 = some (entry8820 .claimed) ∧ (entry8820 .claimed).state = .claimed ∧
      (chamberWith .running .inbound).mode ≠ .starting ∧ oldestInbound (chamberWith .running .inbound) = some 0 ∧
      (chamberWith .running .inbound).admission 0 = some (entry8820 .inbound) ∧ (entry8820 .inbound).lane = some 2 ∧
      (chamberWith .running .inbound).lane 2 =
        some { use := .orders, capacity := 40, occupancy := 0, reserved := 1, order := some 5120 } ∧
      (chamberWith .running .inbound).trc.entries.length < 128 ∧ oldestInbound (chamberWith .running .claimed) = none ∧
      reservedTotal (chamberWith .running .claimed) < traceFree (chamberWith .running .claimed) ∧
      traceFree { chamberWith .running .claimed with
          trc.entries := List.replicate 127 (.chamber ⟨3, 8819⟩ .admitted (some 2) none 39#32) } ≤
        reservedTotal { chamberWith .running .claimed with
          trc.entries := List.replicate 127 (.chamber ⟨3, 8819⟩ .admitted (some 2) none 39#32) } :=
  ⟨⟨by decide, by decide, by decide, by decide, by decide, by decide⟩, by decide +kernel⟩

/-! Witnesses: the link and the encodings. -/

theorem witness_StationReportsAreSentAndKept :
    HeardFrom .stationState 5#5 (setSetting 45 1 (station .filler .held)) ∧ (0#5).toNat = 0 ∧
      (1#5).toNat = (station .filler .held).own ∧ (5#5).toNat ≠ (station .filler .held).own ∧
      Role.ofCode (7#8).toNat = none ∧ Role.ofCode (6#8).toNat ≠ none ∧ Mode.ofCode (8#8).toNat = none ∧
      Mode.ofCode (7#8).toNat = some .fault ∧
      ({ station .filler .held with
        lnk.peers := List.replicate 30 { mode := some .held, since := some 0 } } : State).lnk.peers[30 - 1]? =
          some { mode := some .held, since := some 0 } ∧
      ({ withMain 15 (station .filler .held) with lnk.stateAt := some 1000 } : State).lnk.stateAt = some 1000 ∧
      (withMain 15 (station .filler .held)).lnk.mainQ.length < 16 ∧
      (withMain 15 (station .filler .held)).lnk.mainQ.any Frame.isState = false ∧
      ({ station .filler .held with lnk.mainQ := [stateFrame (station .filler .held)] } : State).lnk.mainQ.any Frame.isState =
        true ∧
      16 ≤ (withMain 16 (station .filler .held)).lnk.mainQ.length ∧
      (withMain 16 (station .filler .held)).lnk.mainQ.any Frame.isState = false ∧
      ({ station .filler .held with lnk.pendingState := some (stateFrame State.reset) } : State).lnk.pendingState =
        some (stateFrame State.reset) :=
  ⟨⟨by decide, by decide, by decide, by decide, by decide⟩, by decide⟩

/-- A CREDIT of station 2 for station 1 whose length byte says one byte more, with a good CRC over what arrived. -/
def wrongLength : List Byte :=
  let head := headBytes { cls := 0, kind := 1, source := 2, target := 1, length := 4 } ++ [0x00#8, 0x03#8, 0x05#8, 0x00#8]
  head ++ beBytes 2 (crc16 head).toNat

theorem witness_BadFramesAreCountedAndDiscarded :
    frameSound true [] = false ∧ frameSound false wrongLength = false ∧ frameSound true wrongLength = true ∧
      ((readHead wrongLength).target = 0 ∨ (readHead wrongLength).target = (station .filler .held).own) ∧
      FrameKind.ofCode (readHead wrongLength).kind = some .credit ∧
      (readHead wrongLength).length ≠ FrameKind.credit.length := by decide +kernel

theorem witness_BadFramesAreCountedAndDiscarded_head :
    (∀ k, FrameKind.ofCode (readHead wrongLength).kind = some k →
      (readHead wrongLength).cls ≠ k.cls ∨ (readHead wrongLength).length ≠ k.length ∨
        (k.broadcast = true ↔ (readHead wrongLength).target ≠ 0)) := by
  intro k h
  have hk : some FrameKind.credit = some k := by rw [← h]; decide +kernel
  cases hk
  exact Or.inr (Or.inl (by decide +kernel))

/-- A frame of the main queue on the bus. -/
def onBusOf (f : Frame) (s : State) : State :=
  { s with
    lnk.mainQ := [f]
    lnk.onBus := some { place := .mainQueue, frame := f, bytes := frameBytes 1 f, replaced := false } }

theorem witness_OffersAndTheirOutcomes :
    (withMain 1 (station .filler .running)).mode ≠ .starting ∧ (withMain 1 (station .filler .running)).lnk.onBus = none ∧
      (withMain 1 (station .filler .running)).lnk.creditSlot = none ∧
      (withMain 1 (station .filler .running)).lnk.answerQ = [] ∧
      (withMain 1 (station .filler .running)).lnk.mainQ = frameTo 0 (.lotClose 9#24) :: [] ∧
      (withAnswers 1 (station .filler .running)).lnk.answerQ = frameTo 5 (.lotClose 9#24) :: [] ∧
      ({ station .filler .running with lnk.creditSlot := some (frameTo 2 (.credit 3#16 5#8)) } : State).lnk.creditSlot =
        some (frameTo 2 (.credit 3#16 5#8)) ∧
      (onBusOf (frameTo 0 (.lotClose 9#24)) (station .filler .running)).lnk.mainQ = frameTo 0 (.lotClose 9#24) :: [] ∧
      (station .filler .running).mode ≠ .held ∧ (station .filler .running).lnk.failures ≠ 63 ∧
      ({ station .filler .running with lnk.failures := 63 } : State).lnk.failures = 63 ∧
      ({ station .filler .running with lnk.waitSince := some 0 } : State).lnk.waitSince = some 0 ∧
      (askingWith (slotOf .asking)).slot 3 = some (slotOf .asking) ∧ (askingWith (slotOf .asking)).mode ≠ .held := by decide

theorem witness_OffersAndTheirOutcomes_payload : ∀ id, (frameTo 0 (.lotClose 9#24)).payload ≠ .admitAsk id := by
  intro id h; cases h

/-- A ROW-PASS payload with its eight pot entries. -/
def rowPass8 : RowPassFields :=
  { seq := 12#16, lot := 4411#24, exposure := 7#24, flags := 1#8, pots := List.replicate 8 0x8001#16 }

theorem witness_LinkFramesReadBack :
    (frameTo 3 (.rowPass rowPass8)).target < 32 ∧ rowPass8.pots.length = 8 ∧ 1 ≤ 2 ∧ 2 ≤ 30 ∧ 1 ≤ 3 ∧ 3 ≤ 30 ∧
      (frameTo 3 (.rowPass rowPass8)).target = (if (payloadKind (.rowPass rowPass8)).broadcast then 0 else 3) ∧
      (frameTo 0 (.lotOpen open4411)).target = (if (payloadKind (.lotOpen open4411)).broadcast then 0 else 3) := by decide

theorem witness_LinkFramesReadBack_pots : ∀ p, (frameTo 3 (.rowPass rowPass8)).payload = .rowPass p → p.pots.length = 8 := by
  intro p h; cases h; decide

theorem witness_PortRecordsReadBack :
    Decode.portRecord (.splice (hd 0#8)) = some [0x21#8, 0x07#8, 0x00#8, 0xD8#8] ∧
      Decode.lengthRight (.splice (hd 0#8)) = true := by decide

/-! Witnesses: the invariants, each in a state another than reset and with a command in front. -/

/-- The station with a command in front. -/
def taking (c : Instr) (s : State) : State := { s with pending := [c] }

theorem witness_StoresStayBounded :
    Bounded (taking .reverseCount (withRow 23 (rowOf none) (lidderList 8))) ∧
      ∃ t, step (taking .reverseCount (withRow 23 (rowOf none) (lidderList 8))) = .next t := by
  refine ⟨?_, _, rfl⟩
  constructor
  case rowPots =>
    intro r h
    simp [taking, withRow] at h
    subst h
    decide
  all_goals decide

/-- A LIDDER held by HOLD with the notice MISSING latched. -/
def holding : State :=
  { taking (.resume (hd 0#8)) (heldBy 0x01#8 (latch .missing (station .lidder .held))) with out.attention := true }

theorem witness_CausesPermitRoomAndAttentionFit :
    CausesFit holding ∧ FlowFits holding ∧ AttentionFits holding ∧ ∃ t, step holding = .next t :=
  ⟨by unfold CausesFit; decide, by constructor <;> decide, by unfold AttentionFits; decide, _, rfl⟩

/-- A LIDDER with a reel of one lid and a row at the top of the exposure range. -/
def reelAndRow : State :=
  { taking .stationSecond (station .lidder .running) with
    lid.active := some ⟨7301, 22, 18430, 1⟩
    idx.window := [some { number := 9, body := { rowOf (some 4411) with exposure := 16777215 } }] }

theorem witness_ReelsAndExposuresStayInRange :
    ReelsFit reelAndRow ∧ ExposureFits reelAndRow ∧ ∃ t, step reelAndRow = .next t := by
  refine ⟨⟨?_, ?_⟩, ?_, _, rfl⟩
  · intro r h; cases h; decide
  · intro r h; cases h
  · constructor
    · intro r h
      simp [reelAndRow] at h
      subst h
      decide
    all_goals
      intro x h
      simp [reelAndRow, taking, station, setSetting, State.reset, TrayUnit.fresh, Hnd.fresh] at h

/-- A LIDDER whose settings START has settled, one reverse count below a debt of C. -/
def counting : State := { taking .reverseCount (station .lidder .running) with idx.debt := 255, idx.posCount := 255 }

/-- A value lies in a range, as a Bool. -/
def inRange : Range → Int → Bool
  | .span lo hi, v => lo ≤ v && v ≤ hi
  | .oneOf codes, v => decide (v ∈ codes)
  | .marks, v => 0 ≤ v && v < 8388608

theorem holds_of_inRange (r : Range) (v : Int) (h : inRange r v = true) : r.holds v := by
  cases r <;> simpa [inRange, Range.holds] using h

theorem witness_SettingsAndCountsStayInRange_settings : SettingsFit counting where
  count := by decide
  ranges := by
    intro n r h
    by_cases hn : n < 55
    · interval_cases n <;> cases h <;> exact holds_of_inRange _ _ (by decide)
    · simp only [settingRange] at h
      split at h <;> first | omega | skip
      rw [if_neg (by simp [settingCount]; omega)] at h
      cases h
  positions := by intro _ n h; rcases h with rfl | rfl | rfl <;> decide
  order := by decide

theorem witness_SettingsAndCountsStayInRange :
    CountsFit counting ∧ ∃ t, step counting = .next t := ⟨by constructor <;> decide, _, rfl⟩

/-- The chamber of the worked sequence of chapter 8 with tray (3, 8820) CLAIMED, its infeed event in front. -/
def expecting : State := taking .chamberInfeedEvent (chamberWith .running .claimed)

theorem witness_ChamberReservationsBalance : ReservationsFit expecting where
  lanes := by decide
  ring := by decide
  elsewhere := by decide
  laneNumbers := by
    intro e he
    simp [expecting, taking, chamberWith] at he
    subst he
    decide
  reserved := by
    intro n l h
    by_cases hn : n < 9
    · interval_cases n <;> cases h <;> decide
    · exfalso
      have : expecting.adm.lanes.length ≤ n - 1 := by
        have : expecting.adm.lanes.length = 8 := by decide
        omega
      unfold State.lane at h
      rw [if_neg (by omega), List.getElem?_eq_none this] at h
      cases h
  capacity := by decide
  outcomes := by decide

theorem witness_ChamberReservationsBalance_step : ∃ t, step expecting = .next t := ⟨_, rfl⟩

/-! Witnesses: the whole-machine rules. -/

theorem witness_NextSequenceMovesOnlyUnderCredit :
    ∃ t, exec (.forwardCount 0#8 0#8) (withCredit (countDue (withRow 23 (rowOf none) (station .filler .running)))) = .next t ∧
      t.hnd.nextSeq ≠ (withCredit (countDue (withRow 23 (rowOf none) (station .filler .running)))).hnd.nextSeq :=
  ⟨_, rfl, by decide⟩

theorem witness_BlocksMoveOnlyByTheirCommands :
    Instr.hold (hd 0#8) ≠ .hardReset ∧ (station .lidder .running).port.restartPending = false ∧
      (∃ t, exec (.hold (hd 0#8)) (station .lidder .running) = .next t) ∧ movesTrace (.hold (hd 0#8)) = false ∧
      movesLids (.hold (hd 0#8)) = false ∧ movesProbe (.hold (hd 0#8)) = false ∧
      movesSettings (.hold (hd 0#8)) = false ∧ movesTables (.hold (hd 0#8)) = false ∧
      movesWindow (.hold (hd 0#8)) = false ∧ movesExpected (.hold (hd 0#8)) = false ∧
      movesPeers (.hold (hd 0#8)) = false :=
  ⟨by decide, by decide, ⟨_, rfl⟩, by decide⟩

/-! Witnesses of the statements' further clauses. -/

/-- What holds of every entry of a table holds of the entry at each index. -/
theorem all_slots {α : Type} (P : Nat → α → Bool) {l : List (Option α)}
    (h : (List.range l.length).all (fun k => (slotAt l k).all (P k)) = true) {k : Nat} {x : α} (hx : slotAt l k = some x) :
    P k x = true := by
  have hk : k < l.length := by
    by_contra hn
    simp [slotAt, List.getElem?_eq_none (Nat.le_of_not_lt hn)] at hx
  simpa [hx] using List.all_eq_true.1 h k (List.mem_range.2 hk)

theorem all_lanes (P : Nat → Lane → Bool) {l : List Lane} (h : (List.range l.length).all (fun k => (l[k]?).all (P k)) = true)
    {k : Nat} {x : Lane} (hx : l[k]? = some x) : P k x = true := by
  have hk : k < l.length := (List.getElem?_eq_some_iff.1 hx).1
  simpa [hx] using List.all_eq_true.1 h k (List.mem_range.2 hk)

/-- The station at its drain timeout. -/
def timedOut (s : State) : State := { s with stc.mode := .draining, stc.drainAt := some 120000 }

/-- At DISPATCH with tray (3, 8801) ASKING from the last slot for entry 0, and at CHAMBER with tray (3, 8820) CLAIMED. -/
theorem witness_DrainTimeoutWritesOff_held :
    (timedOut (askingWith (slotOf .asking))).stc.drainAt = some 120000 ∧
      (timedOut (askingWith (slotOf .asking))).role = .dispatch ∧
      slotAt (activeBank (timedOut (askingWith (slotOf .asking)))) 0 = some order5120 ∧
      (timedOut (askingWith (slotOf .asking))).slot 3 = some (slotOf .asking) ∧
      (timedOut (chamberWith .running .claimed)).lane 2 =
        some { use := .orders, capacity := 40, occupancy := 0, reserved := 1, order := some 5120 } ∧
      0 < reservedFor (timedOut (chamberWith .running .claimed)) 2 ∧
      (timedOut (chamberWith .running .claimed)).trc.entries.length +
        ((timedOut (chamberWith .running .claimed)).adm.table.filter (fun o =>
          o.any (fun e => e.state = .claimed || e.state = .inbound))).length ≤ 128 := by decide

theorem witness_DrainTimeoutWritesOff_slots : ∀ j x, (timedOut (askingWith (slotOf .asking))).slot j = some x →
    ∀ k y, (timedOut (askingWith (slotOf .asking))).slot k = some y → x.cell = y.cell → j = k := by
  intro j x hj k y hk _
  have hj := all_slots (fun i _ => i == 3) (by decide) hj
  have hk := all_slots (fun i _ => i == 3) (by decide) hk
  simp only [beq_iff_eq] at hj hk
  omega

theorem witness_DrainTimeoutWritesOff_trays : ∀ i a, (timedOut (chamberWith .running .claimed)).admission i = some a →
    ∀ j b, (timedOut (chamberWith .running .claimed)).admission j = some b → a.tray = b.tray → i = j := by
  intro i a hi j b hj _
  have hi := all_slots (fun k _ => k == 0) (by decide) hi
  have hj := all_slots (fun k _ => k == 0) (by decide) hj
  simp only [beq_iff_eq] at hi hj
  omega

/-- A LIDDER whose list holds one entry senses lanes 1 and 2 at its index event; with no entry they are STRAY. -/
theorem witness_FillerCreatesRowFromSensedLanes_paired :
    ∀ n ∈ [0, 1], takesCounts (countDue (lidderList n)) = true ∧ (countDue (lidderList n)).idx.debt = 0 ∧
      (countDue (lidderList n)).countsPerIndex ≤ (countDue (lidderList n)).idx.posCount + 1 ∧
      (countDue (lidderList n)).role = .lidder ∧ (countDue (lidderList n)).mode ≠ .sanitising ∧
      1 ≤ (countDue (lidderList n)).gatePos ∧ 1 ≤ (countDue (lidderList n)).windowLength ∧
      1 ≤ (countDue (lidderList n)).lidPos ∧ 1 ≤ (countDue (lidderList n)).bondPos ∧
      sensedCount 0x03#8 (countDue (lidderList n)).laneCount ≠ 0 ∧
      (countDue (lidderList n)).hnd.room < 8 ∧ rowEntry.body.pots.length = 8 ∧
      (countDue (lidderList n)).upstream ≠ 0 ∧ (countDue (lidderList n)).hnd.rowArrivals = List.replicate n rowEntry := by
  decide

theorem witness_GateRemovesMarkedPotsByPulse_pots :
    ∀ r, some r ∈ (countDue (withRow 15 markedRow (station .trayer .running))).idx.window → r.body.pots.length = 8 := by
  intro r h
  simp [countDue, withRow] at h
  subst h
  decide

/-- A table full of lots that rows name has no place for a new lot, and an empty one has. -/
theorem witness_LotFramesOpenAndCloseCopies_place :
    (let s := listening
     findPlace (implicitClose 2 4411 (List.range s.lot.table.length) s).lot.table = some 0) ∧
      (let s := { listening with lot.table := List.replicate 16 (some { lot4411 with id := 9, state := .closed }) }
       findPlace (implicitClose 2 4411 (List.range s.lot.table.length) s).lot.table = none ∧
         findLot s (4411#24).toNat = none) ∧
      HeardFrom .lotOpen 2#5
        { listening with lot.table := List.replicate 16 (some { lot4411 with id := 9, state := .closed }) } :=
  ⟨by decide, by decide, ⟨by decide, by decide, by decide, by decide, by decide⟩⟩

/-- Reels 7301 (ACTIVE, its last lids) and 7302 and 7303 (STANDBY; 7303 has another use-by day). -/
theorem witness_LidPositionTreatsRow_splice :
    let n := ((rowOf (some 4411)).pots.filter (fun o => o.any Pot.toLid)).length
    let spare : State := { toLid with lid.standby := some ⟨7302, 22, 18430, 5⟩ }
    let last : State := { toLid with lid.active := some ⟨7301, 22, 18430, 4⟩ }
    spare.lid.active = none ∧ spare.lid.standby = some ⟨7302, 22, 18430, 5⟩ ∧
      (Reel.mk 7302 22 18430 5).suits lot4411 = true ∧ n < (Reel.mk 7302 22 18430 5).lids ∧
      (Reel.mk 7303 22 18429 5).suits lot4411 = false ∧ spare.rowAt (spare.lidPos - 1) = toLid.rowAt (toLid.lidPos - 1) ∧
      last.lid.active = some ⟨7301, 22, 18430, 4⟩ ∧ last.lid.standby = none ∧
      (Reel.mk 7301 22 18430 4).suits lot4411 = true ∧ 1 ≤ (Reel.mk 7301 22 18430 4).lids ∧
      (Reel.mk 7301 22 18430 4).lids ≤ n ∧ n < (Reel.mk 7301 22 18430 4).lids + (Reel.mk 7302 22 18430 5).lids := by decide

theorem witness_LidPositionTreatsRow_bond :
    let s := countDue (withRow 9 (rowOf none) (station .lidder .running))
    takesCounts s = true ∧ s.countsPerIndex ≤ s.idx.posCount + 1 ∧ s.rowAt (s.lidPos - 1) = none ∧
      s.rowAt (s.bondPos - 1) = some { number := 9, body := rowOf none } ∧ s.lid.fails.length = 8 ∧ s.laneCount ≤ 8 := by
  decide

/-- A TRAYER whose next index event brings a row of lot 4411 to the exit, with a tray of a lot under construction. -/
def toTray (rows : Int) (f : Option Forming) (formed : Nat) : State :=
  { setSetting 19 rows (countDue (withRow 23 (rowOf (some 4411)) (withLot (onLine (station .trayer .running))))) with
    tray.forming := f
    tray.formed := List.replicate formed plainTray }

theorem witness_TraysCloseAndLeave_join :
    (∀ s ∈ [toTray 1 none 15, toTray 6 (some ⟨plainTray, some 20000, false⟩) 15, toTray 6 none 16],
      s.role = .trayer ∧ takesCounts s = true ∧ s.idx.debt = 0 ∧ s.countsPerIndex ≤ s.idx.posCount + 1 ∧
        s.rowAt (s.windowLength - 1) = some { number := 9, body := rowOf (some 4411) }) ∧
      (rowOf (some 4411)).hasPots = true ∧ (toTray 1 none 15).tray.formed.length < 16 ∧
      (toTray 1 none 15).rowsPerTray = 1 ∧ (toTray 6 none 15).rowsPerTray ≠ 1 ∧
      16 ≤ (toTray 6 none 16).tray.formed.length ∧ plainTray.lot = (rowOf (some 4411)).lot ∧
      plainTray.rows + 1 ≠ (toTray 6 none 15).rowsPerTray ∧ plainTray.rows + 1 = (toTray 3 none 15).rowsPerTray ∧
      ({ plainTray with lot := none } : Tray).lot ≠ (rowOf (some 4411)).lot := by decide

/-- A TRAYER with a full queue and a close held back: the exit frees a place, room rises to 8 and falls back to 0. -/
theorem witness_TraysCloseAndLeave_heldBack :
    let s := { onLine (station .trayer .running) with
      tray.formed := List.replicate 16 plainTray, tray.forming := some ⟨plainTray, none, true⟩ }
    s.role = .trayer ∧ s.mode = .running ∧ s.tray.formed = plainTray :: List.replicate 15 plainTray ∧
      s.tray.forming = some ⟨plainTray, none, true⟩ ∧ (List.replicate 15 plainTray).length = 15 ∧ s.hnd.room = 0 ∧
      s.hnd.rowArrivals.length < 8 ∧ s.upstream ≠ 0 ∧ maySend s = false ∧ maySend (withCredit s) = true := by decide

/-- A DISPATCH at which a tray is announced, and order 5120 in ACTIVE entry 31. -/
def announced (x : Tray) (n : Nat) : State :=
  { withLot (station .dispatch .running) with
    hnd.trayArrivals := List.replicate n { tray := x, seq := 0#16, since := 0 }
    dsp.bank0 := List.replicate 31 none ++ [some order5120] }

theorem witness_InfeedPlacesTray_routes :
    let fits := fun (x : Tray) (o : OrderEntry) =>
      o.state = .opened && x.product = some o.product && x.useBy.any (fun d => o.minUseBy ≤ d) && o.assigned < o.quantity
    (announced plainTray 1).role = .dispatch ∧ (announced plainTray 1).mode = .running ∧
      (announced plainTray 1).hnd.trayArrivals = { tray := plainTray, seq := 0#16, since := 0 } :: [] ∧
      lowestFree (announced plainTray 1).tray.cells = some 0 ∧ (announced plainTray 0).hnd.trayArrivals = [] ∧
      (trayOf ⟨0, 0⟩ .unasked none).id = { origin := 0, seq := 0 } ∧ plainTray.id ≠ { origin := 0, seq := 0 } ∧
      (plainTray.quarantine || (lotOf (announced plainTray 1) plainTray.lot).any (fun l => l.allowance ≤ plainTray.exposure)) =
        false ∧
      slotAt (activeBank (announced plainTray 1)) 31 = some order5120 ∧ fits plainTray order5120 = true ∧
      fits { plainTray with product := none } order5120 = false ∧
      48 ≤ ({ station .chill .held with tray.queue := List.replicate 48 plainTray } : State).tray.queue.length ∧
      lowestFree ({ announced plainTray 1 with
        tray.cells := List.replicate 12 (some ⟨plainTray, 1#32, 1#32⟩) } : State).tray.cells = none := by decide

/-- Tray (3, 8801), 10 short of its lot's allowance, gains the quarantine flag at the second in each dispatch state. -/
theorem witness_StationSecondAccruesExposure_spent :
    let c : Cell := ⟨{ trayOf ⟨3, 8801⟩ .asking none with exposure := 215990 }, 1#32, 1#32⟩
    let s := { askingWith (slotOf .asking) with tray.cells := some c :: List.replicate 11 none }
    s.role = .dispatch ∧ s.cellAt 0 = some c ∧ slotAt (activeBank s) 0 = some order5120 ∧ slotOfCell s 0 = some 3 ∧
      s.slot 3 = some (slotOf .asking) ∧ (slotOf .asking).flagged = false ∧
      (lotOf s c.tray.lot).any (fun l => l.allowance ≤ accrued s c.tray.lot c.tray.exposure) = true ∧
      (some grant21).any Grant.marked = false ∧ (chamber .running).role = .chamber := by decide

/-- The manifest's fields meet the entry of tray (3, 8820) as they are, or with another order. -/
theorem witness_ManifestIsStoredOrDropped_meets :
    TakenFrom .manifest 5#5 1#5 (chamberWith .running .ready) ∧
      (∀ st ∈ [AdmState.pending, .ready, .claimed, .inbound],
        manifestIndex (chamberWith .running st) (readTrayId manifestFields.trayId) = some 0 ∧
          admissionIndex (chamberWith .running st) (readTrayId manifestFields.trayId) = some 0 ∧
          (chamberWith .running st).admission 0 = some (entry8820 st) ∧
          decide ((entry8820 st).quarantine = manifestFields.flags.getLsbD 1 ∧
            (entry8820 st).order = optId manifestFields.order.toNat) = true ∧
          decide ((entry8820 st).order = optId (5121#16).toNat) = false) :=
  ⟨⟨by decide, by decide, by decide, by decide, by decide, by decide⟩, by decide⟩

/-- A chamber with some PENDING entries of the table and one trace entry free. -/
def serving (a b : Admission) (lanes : List Lane) : State :=
  { chamber .running with
    adm.table := some a :: some b :: List.replicate 14 none
    adm.lanes := lanes
    trc.entries := List.replicate 127 (.chamber ⟨3, 8819⟩ .admitted (some 2) none 39#32) }

/-- The RED entry that ranks first, though it was created last. -/
def redEntry : Admission := { entry8820 .pending with tray := ⟨3, 8821⟩, urgency := .red, creation := 7#32 }

theorem witness_AdmitAskIsAnswered_serve :
    let s := serving (entry8820 .pending) redEntry lanes8
    s.role = .chamber ∧ s.mode = .running ∧ s.admission 1 = some redEntry ∧ redEntry.state = .pending ∧
      placement s.adm.lanes redEntry.quarantine redEntry.order = some 2 ∧ traceFree s = reservedTotal s + 1 ∧
      ∀ k d, s.admission k = some d → d.state = .pending → k ≠ 1 →
        redEntry.urgency = .red ∧ d.urgency ≠ .red ∨
          (redEntry.urgency = .red ↔ d.urgency = .red) ∧ orderBefore redEntry.creation d.creation = true := by
  refine ⟨by decide, by decide, by decide, by decide, by decide, by decide +kernel, ?_⟩
  intro k d hd _ hk
  have h := all_slots (fun k d => k == 1 || decide (d.urgency ≠ .red)) (by decide) hd
  simp only [Bool.or_eq_true, beq_iff_eq, decide_eq_true_eq] at h
  exact Or.inl ⟨rfl, h.resolve_left hk⟩

/-- The first PENDING entry has no lane (the quarantine lane is full); the next one is served. -/
theorem witness_AdmitAskIsAnswered_next :
    let a := { entry8820 .pending with tray := ⟨3, 8821⟩, quarantine := true }
    let s := serving a (entry8820 .pending)
      (lanes8.set 3 { use := .quarantine, capacity := 20, occupancy := 20, reserved := 0, order := none })
    s.role = .chamber ∧ s.mode = .running ∧ traceFree s = reservedTotal s + 1 ∧ s.admission 0 = some a ∧
      a.state = .pending ∧ placement s.adm.lanes a.quarantine a.order = none ∧ s.admission 1 = some (entry8820 .pending) ∧
      placement s.adm.lanes (entry8820 .pending).quarantine (entry8820 .pending).order = some 2 ∧
      ∀ k x, s.admission k = some x → x.state = .pending → k = 0 ∨ k = 1 := by
  refine ⟨by decide, by decide, by decide +kernel, by decide, by decide, by decide, by decide, by decide, ?_⟩
  intro k x hx _
  have h := all_slots (fun k _ => k == 0 || k == 1) (by decide) hx
  simpa using h

/-- Lane 3 is the roomiest STOCK lane, lane 1 holds order 5117, and lane 2 is the lowest empty ORDERS lane. -/
theorem witness_AdmitAskIsAnswered_placement :
    (∃ l, lanes8[2]? = some l ∧ decide (l.use = .stock ∧ l.occupancy + l.reserved < l.capacity) = true ∧
      ∀ k m, lanes8[k]? = some m → decide (m.use = .stock ∧ m.occupancy + m.reserved < m.capacity) = true →
        m.capacity - m.occupancy - m.reserved ≤ l.capacity - l.occupancy - l.reserved ∧
          (m.capacity - m.occupancy - m.reserved = l.capacity - l.occupancy - l.reserved → 2 ≤ k)) ∧
      (∃ l, lanes8[0]? = some l ∧ decide (l.use = .orders ∧ l.order = some 5117) = true) ∧
      lanes8.any (fun l => decide (l.use = .orders ∧ l.order = some 5120)) = false ∧
      (∃ l, lanes8[1]? = some l ∧ decide (l.use = .orders ∧ l.occupancy + l.reserved = 0) = true ∧
        ∀ k m, lanes8[k]? = some m → k < 1 → decide (m.use = .orders ∧ m.occupancy + m.reserved = 0) = false) ∧
      (List.replicate 8 (Lane.fresh .off 1)).any (fun l => decide (l.use = .orders ∧ l.occupancy + l.reserved = 0)) = false ∧
      (chamber .held).mode ≠ .running := by
  refine ⟨⟨_, rfl, by decide, ?_⟩, ⟨_, rfl, by decide⟩, by decide, ⟨_, rfl, by decide, ?_⟩, by decide, by decide⟩
  · intro k m hm h
    have h' := all_lanes (fun k m => !decide (m.use = .stock ∧ m.occupancy + m.reserved < m.capacity) || k == 2 && m == lanes8[2])
      (by decide) hm
    simp only [h, Bool.not_true, Bool.false_or, Bool.and_eq_true, beq_iff_eq] at h'
    obtain ⟨rfl, rfl⟩ := h'
    exact ⟨Nat.le_refl _, fun _ => Nat.le_refl _⟩
  · intro k m hm hk
    have h' := all_lanes (fun k m => k != 0 || !decide (m.use = .orders ∧ m.occupancy + m.reserved = 0)) (by decide) hm
    obtain rfl : k = 0 := by omega
    simpa only [bne_self_eq_false, Bool.false_or, Bool.not_eq_true'] using h'

theorem witness_InboundTrayIsAdmitted_notes :
    TakenFrom .trayPass 5#5 1#5 (chamberWith .running .inbound) ∧ (chamber .configuring).mode = .configuring ∧
      (chamber .sanitising).mode = .sanitising ∧
      (∀ st ∈ [AdmState.pending, .ready, .inbound],
        ((admissionIndex (chamberWith .running st) (readTrayId (writeTrayId ⟨3, 8820⟩))).bind
          (chamberWith .running st).admission).map Admission.state = some st) ∧
      ((admissionIndex (chamber .running) (readTrayId (writeTrayId ⟨3, 8820⟩))).bind
        (chamber .running).admission).map Admission.state = none ∧
      ({ chamber .running with adm.notes := List.replicate 3 ⟨⟨3, 8820⟩, none⟩ } : State).adm.notes.length < 4 ∧
      4 ≤ ({ chamber .running with adm.notes := List.replicate 4 ⟨⟨3, 8820⟩, none⟩ } : State).adm.notes.length :=
  ⟨⟨by decide, by decide, by decide, by decide, by decide, by decide⟩, by decide⟩

theorem witness_StationReportsAreSentAndKept_change :
    ∃ t, exec (.hold (hd 0#8)) (station .lidder .running) = .next t ∧ t.mode ≠ (station .lidder .running).mode ∧
      t.mode ≠ .starting := ⟨_, rfl, by decide⟩

theorem witness_OffersAndTheirOutcomes_sent :
    (onBusOf (frameTo 0 (.lotClose 9#24)) (heldBy 0x20#8 (station .filler .held))).lnk.onBus ≠ none ∧
      (onBusOf (frameTo 0 (.lotClose 9#24)) (heldBy 0x20#8 (station .filler .held))).mode = .held ∧
      (onBusOf (frameTo 0 (.lotClose 9#24)) (station .filler .running)).mode ≠ .held ∧
      roomOf (onBusOf (frameTo 0 (.lotClose 9#24)) (station .filler .running)) ≤
        (onBusOf (frameTo 0 (.lotClose 9#24)) (station .filler .running)).hnd.room := by decide

/-- A station whose CREDIT for station 2 waits. -/
def creditWaiting (s : State) : State := { s with lnk.creditSlot := some (frameTo 2 (.credit 8#16 8#8)) }

/-- Tray (3, 8801) of order 5120 in cell 1, 1 short of its lot's allowance. -/
def soonCell (d : DispatchState) (g : Option Grant) : Cell :=
  ⟨{ trayOf ⟨3, 8801⟩ d g with exposure := 215999 }, 1#32, 1#32⟩

def spentSoon (d : DispatchState) (g : Option Grant) : State :=
  { dispatching d g with tray.cells := some (soonCell d g) :: List.replicate 11 none }

/-- A FILLER with no downstream neighbour, at which no credit is held. -/
theorem witness_NextSequenceMovesOnlyUnderCredit_credit :
    CreditFits (taking (.start (hd 0#8)) (station .filler .configuring)) ∧
      (taking (.start (hd 0#8)) (station .filler .configuring)).downstream = 0 ∧
      ∃ t, step (taking (.start (hd 0#8)) (station .filler .configuring)) = .next t :=
  ⟨⟨by decide, by intro f h; cases h⟩, by decide, _, rfl⟩

/-- A CREDIT that waits for the upstream neighbour. -/
theorem witness_NextSequenceMovesOnlyUnderCredit_waiting :
    CreditFits (creditWaiting (onLine (station .lidder .configuring))) ∧
      ∃ t, exec (.writeSetting (hd 6#8) 12#16 0#32) (creditWaiting (onLine (station .lidder .configuring))) = .next t :=
  ⟨⟨by decide, by intro f h; cases h; decide⟩, _, rfl⟩

/-- Setting 12 takes 0 and another station; setting 11 is another one. -/
theorem witness_StoreWritesClampToRange_neighbour :
    (creditWaiting (onLine (station .lidder .configuring))).lnk.creditSlot = some (frameTo 2 (.credit 8#16 8#8)) ∧
      (creditWaiting (onLine (station .lidder .configuring))).mode = .configuring ∧ (12#16).toNat = 12 ∧ (11#16).toNat ≠ 12 ∧
      settingRange ((creditWaiting (onLine (station .lidder .configuring))).setting 6) (12#16).toNat = some (.span 0 30) := by
  decide

/-- Pots on lanes 1 and 2 where no row may be created. -/
theorem witness_FillerCreatesRowFromSensedLanes_untracked :
    ∀ p ∈ [(Role.filler, Mode.draining), (.filler, .sanitising), (.lidder, .sanitising), (.trayer, .sanitising)],
      let s := countDue (station p.1 p.2)
      takesCounts s = true ∧ s.idx.debt = 0 ∧ s.countsPerIndex ≤ s.idx.posCount + 1 ∧
        (s.role = .filler ∧ s.mode = .draining ∨ s.mode = .sanitising) ∧ 1 ≤ s.gatePos ∧ 1 ≤ s.windowLength ∧
        1 ≤ s.lidPos ∧ 1 ≤ s.bondPos ∧ sensedCount 0x03#8 s.laneCount ≠ 0 := by decide

/-- The TRAYER of `toTray` in DRAINING: a row that joins, then a window without pots. -/
theorem witness_TraysCloseAndLeave_drain :
    let s := { toTray 6 (some ⟨plainTray, some 20000, false⟩) 15 with stc.mode := .draining }
    let e := { s with idx.window := List.replicate 24 none }
    s.role = .trayer ∧ takesCounts s = true ∧ s.idx.debt = 0 ∧ s.countsPerIndex ≤ s.idx.posCount + 1 ∧
      s.rowAt (s.windowLength - 1) = some { number := 9, body := rowOf (some 4411) } ∧ s.hnd.rowArrivals = [] ∧
      s.tray.formed.length < 16 ∧ s.rowsPerTray ≠ 1 ∧ plainTray.rows + 1 ≠ s.rowsPerTray ∧ 1 ≤ s.windowLength ∧
      1 ≤ s.gatePos ∧ e.rowAt (e.windowLength - 1) = none ∧ sensedCount 0#8 s.laneCount = 0 ∧
      e.tray.forming = some ⟨plainTray, some 20000, false⟩ := by decide

/-- Tray (3, 8801), all but at its lot's allowance, is projected spent before its ask. -/
theorem witness_SeriesStartQueuesManifestAndAsk_projected :
    let s := spentSoon .unasked none
    seriesAllowed s = true ∧ lowestFree s.dsp.slots = some 0 ∧ redFirst s (fun x => x.tray.dstate = .unasked) = some 0 ∧
      s.cellAt 0 = some (soonCell .unasked none) ∧ projectedSpent s (soonCell .unasked none).tray = true ∧
      (soonCell .unasked none).tray.quarantine = false ∧ peerRefuses s s.quarantineChamber = false ∧
      peerRefuses
          { s with lnk.peers := s.lnk.peers.set (s.quarantineChamber - 1) { mode := some .fault, since := some 0 } }
          s.quarantineChamber = true ∧
      (soonCell .unasked none).tray.retry ≤ 1 ∧
      (∃ e, trayEntry s (soonCell .unasked none).tray.order = some e) := by
  refine ⟨?_, ?_, ?_, ?_, ?_, ?_, ?_, ?_, ?_, _, rfl⟩ <;> decide

/-- The same tray, granted: nothing is chosen after it, or the tray of cell 2. -/
theorem witness_ReleasesBeginAndEnd_projected :
    let s := spentSoon .granted (some grant21)
    let u := { s with tray.cells := s.tray.cells.set 1 (some ⟨trayOf ⟨3, 8802⟩ .granted (some grant21), 2#32, 2#32⟩) }
    releaseAllowed s = true ∧ chooseRelease s = some 0 ∧ s.cellAt 0 = some (soonCell .granted (some grant21)) ∧
      projectedSpent s (soonCell .granted (some grant21)).tray = true ∧
      (soonCell .granted (some grant21)).tray.quarantine = false ∧ chooseRelease (projectCell 0 s) = none ∧
      chooseRelease u = some 0 ∧ chooseRelease (projectCell 0 u) = some 1 ∧
      projectedSpent (projectCell 0 u) (trayOf ⟨3, 8802⟩ .granted (some grant21)) = false := by decide

/-- The last attempt of the series. -/
theorem witness_AdmitReplySettlesAttempt_limit :
    let x := { slotOf .asking with attempts := (askingWith (slotOf .asking)).attemptLimit }
    TakenFrom .admitReply 21#5 1#5 (askingWith x) ∧
      replySlot (askingWith x) (readTrayId (writeTrayId ⟨3, 8801⟩)) (21#5).toNat = some 3 ∧
      (askingWith x).slot 3 = some x ∧ x.phase = .asking ∧ (askingWith x).attemptLimit ≤ x.attempts ∧
      (askingWith x).cellAt x.cell = some ⟨trayOf ⟨3, 8801⟩ .asking none, 1#32, 1#32⟩ ∧ x.answerAt = some 250 ∧
      trayEntry (askingWith x) (trayOf ⟨3, 8801⟩ .asking none).order = some order5120 ∧
      entryIndex (askingWith x) (trayOf ⟨3, 8801⟩ .asking none).order = some 0 ∧
      (if order5120.onAlternate then order5120.alternate else order5120.primary) = x.target :=
  ⟨⟨by decide, by decide, by decide, by decide, by decide, by decide⟩, by decide⟩

theorem witness_SlotAndGrantTimersRunOut_limit :
    let x := { slotOf .asking with attempts := (askingWith (slotOf .asking)).attemptLimit }
    (askingWith x).slot (4 - 1) = some x ∧ x.answerAt = some 250 ∧ (askingWith x).attemptLimit ≤ x.attempts ∧
      (askingWith x).cellAt x.cell = some ⟨trayOf ⟨3, 8801⟩ .asking none, 1#32, 1#32⟩ := by decide

/-! One step each of the points of chapters 2, 5 and 12 that these clauses turn on. -/

/-- R81: room is worked out with the place free, so a CREDIT with room 8 is placed before the held-back close fills it. -/
theorem test_held_back_close_places_credit :
    let s := { onLine (station .trayer .running) with
      tray.formed := List.replicate 16 plainTray, tray.forming := some ⟨plainTray, none, true⟩ }
    (after .exitSensorEvent s).lnk.creditSlot = some (frameTo 2 (.credit 8#16 8#8)) ∧
      (after .exitSensorEvent s).hnd.room = 0 ∧ (after .exitSensorEvent s).tray.formed.length = 16 := by decide

/-- R25: writing downstream neighbour 0 in CONFIGURING leaves no credit. -/
theorem test_no_neighbour_no_credit :
    (after (.writeSetting (hd 6#8) 13#16 0#32) (withCredit (onLine (station .filler .configuring)))).hnd.held = none := by
  decide

/-- R25: a CREDIT that waits goes with the upstream neighbour: with 0 it leaves the slot, with 7 it is for station 7. -/
theorem test_waiting_credit_follows_neighbour :
    (after (.writeSetting (hd 6#8) 12#16 0#32) (creditWaiting (onLine (station .lidder .configuring)))).lnk.creditSlot = none ∧
      (after (.writeSetting (hd 6#8) 12#16 7#32) (creditWaiting (onLine (station .lidder .configuring)))).lnk.creditSlot =
        some (frameTo 7 (.credit 8#16 8#8)) := by decide

/-- R79: the last row of a drain joins the tray, which closes short at the same index event. -/
theorem test_drain_closes_tray :
    let s := { toTray 6 (some ⟨plainTray, some 20000, false⟩) 3 with stc.mode := .draining }
    (after (.forwardCount 0#8 0#8) s).tray.forming = none ∧ (after (.forwardCount 0#8 0#8) s).tray.formed.length = 4 := by
  decide

/-- 12.2: the fields of a side the role does not keep are sent as 0. -/
theorem test_status_sends_kept_sides :
    statusHnd (withCredit { station .dispatch .running with hnd.nextSeq := 12#16 }) = statusHnd (station .dispatch .running) ∧
      statusHnd { station .filler .running with hnd.dropped := 3 } = statusHnd (station .filler .running) := by decide

/-- R37, R38: a LIDDER takes its last entry at the index event that brings a row to lid with no reel: the CREDIT of stage 3
carries room 8, and NO-LIDS then makes room 0; a stray's CREDIT carries the room of its own moment too. -/
theorem test_credit_before_hold :
    ∀ n ∈ [0, 1],
      let s := { countDue (withRow 5 (rowOf (some 4411)) (withLot (lidderList n))) with hnd.room := 8 - n }
      let t := after (.forwardCount 0x03#8 0#8) s
      t.mode = .held ∧ t.hnd.room = 0 ∧
        t.lnk.creditSlot = some (frameTo 2 (.credit (if n = 0 then 9#16 else 8#16) 8#8)) := by decide

end Sys2Proof.Tests
end

section
/-! The row window's tables, and FORCE-REJECT (R22). -/

namespace Sys2Proof.Machine

/-! ### Fixed tables of optional entries -/

theorem modifyAt_eq_modify {α : Type} (l : List α) (i : Nat) (f : α → α) : modifyAt l i f = l.modify i f := by
  induction l generalizing i with
  | nil => simp [modifyAt]
  | cons x xs ih => cases i <;> simp [modifyAt, ih]

/-- A write to place `i` of a table is read at `i` alone. -/
theorem slotAt_modifyAt_map {α : Type} (l : List (Option α)) (i k : Nat) (f : α → α) :
    slotAt (modifyAt l i (Option.map f)) k = if k = i then (slotAt l k).map f else slotAt l k := by
  unfold slotAt
  rw [modifyAt_eq_modify, List.getElem?_modify]
  by_cases hk : k = i
  · subst hk
    cases l[k]? <;> simp
  · simp [hk, Ne.symm hk]

theorem slotAt_map_map {α : Type} (l : List (Option α)) (k : Nat) (f : α → α) :
    slotAt (l.map (Option.map f)) k = (slotAt l k).map f := by
  unfold slotAt
  rw [List.getElem?_map]
  cases l[k]? <;> simp

/-! ### One row of the window -/

theorem rowAt_updateRow_same {p : Nat} {s : State} {r : Row} (f : RowBody → RowBody) (h : s.rowAt p = some r) :
    (updateRow p f s).rowAt p = some { r with body := f r.body } := by
  unfold State.rowAt at h
  simp [State.rowAt, updateRow, slotAt_modifyAt_map, h]

theorem rowAt_updateRow_of_ne {p q : Nat} (hq : q ≠ p) (f : RowBody → RowBody) (s : State) :
    (updateRow p f s).rowAt q = s.rowAt q := by
  simp [State.rowAt, updateRow, slotAt_modifyAt_map, hq]

/-! ### FORCE-REJECT (R22) -/

/-- The row's body with HOST added to the pot of lane `n`, or with `n = 0` (ALL) to every pot (R22). -/
def RowBody.forced (n : Nat) (b : RowBody) : RowBody :=
  if n = 0 then b.markAll .host
  else { b with pots := modifyAt b.pots (n - 1) (Option.map (fun q => q.mark .host)) }

theorem RowBody.forced_frame (n : Nat) (b : RowBody) : { b.forced n with pots := b.pots } = b := by
  unfold RowBody.forced
  split <;> rfl

theorem RowBody.slotAt_forced_pots (n k : Nat) (b : RowBody) :
    slotAt (b.forced n).pots k =
      if n = 0 ∨ k = n - 1 then (slotAt b.pots k).map (fun x => x.mark .host) else slotAt b.pots k := by
  by_cases hn : n = 0
  · simp only [RowBody.forced, RowBody.markAll, hn, if_true, true_or]
    exact slotAt_map_map b.pots k _
  · simp only [RowBody.forced, hn, if_false, false_or]
    exact slotAt_modifyAt_map b.pots (n - 1) k _

/-- The row holds what FORCE-REJECT names: a pot in lane `n`, or with `n = 0` (ALL) any pot (R22). -/
def RowBody.holdsNamed (n : Nat) (b : RowBody) : Prop :=
  n ≠ 0 ∧ (slotAt b.pots (n - 1)).isSome = true ∨ n = 0 ∧ b.hasPots = true

theorem RowBody.not_holdsNamed_of_lane_empty {n : Nat} {b : RowBody} (hn : n ≠ 0) (h : slotAt b.pots (n - 1) = none) :
    ¬ b.holdsNamed n := by
  simp [RowBody.holdsNamed, hn, h]

theorem RowBody.not_holdsNamed_of_no_pots {n : Nat} {b : RowBody} (hn : n = 0) (h : b.hasPots = false) :
    ¬ b.holdsNamed n := by
  simp [RowBody.holdsNamed, hn, h]

theorem forceRejectBarred_iff (m : Mode) :
    forceRejectBarred m = true ↔ m = .starting ∨ m = .configuring ∨ m = .sanitising := by
  cases m <;> decide

theorem forceRejectOwn_of_barred (position lane : BitVec 8) {s : State} (h : forceRejectBarred s.mode = true) :
    forceRejectOwn position lane s = refuse .badMode s := by
  simp [forceRejectOwn, h]

section Unbarred

variable {position lane : BitVec 8} {s : State} (hm : forceRejectBarred s.mode = false)
include hm

theorem forceRejectOwn_of_out_of_range
    (h : s.windowLength ≤ position.toNat ∨ s.gatePos ≤ position.toNat ∨ s.laneCount < lane.toNat) :
    forceRejectOwn position lane s = refuse .badValue s := by
  simp [forceRejectOwn, hm, or_assoc, h]

variable (hw : position.toNat < s.windowLength) (hg : position.toNat < s.gatePos) (hl : lane.toNat ≤ s.laneCount)
include hw hg hl

theorem forceRejectOwn_of_no_row (h : s.rowAt position.toNat = none) :
    forceRejectOwn position lane s = refuse .empty s := by
  simp [forceRejectOwn, hm, hw.not_ge, hg.not_ge, hl.not_gt, h]

theorem forceRejectOwn_of_not_holdsNamed {r : Row} (hr : s.rowAt position.toNat = some r)
    (h : ¬ r.body.holdsNamed lane.toNat) : forceRejectOwn position lane s = refuse .empty s := by
  simp only [forceRejectOwn, hm, hw.not_ge, hg.not_ge, hl.not_gt, hr]
  by_cases hn : lane.toNat = 0 <;> simp_all [RowBody.holdsNamed]

theorem forceRejectOwn_of_holdsNamed {r : Row} (hr : s.rowAt position.toNat = some r)
    (h : r.body.holdsNamed lane.toNat) :
    forceRejectOwn position lane s = accept (updateRow position.toNat (RowBody.forced lane.toNat) s) := by
  simp only [forceRejectOwn, hm, hw.not_ge, hg.not_ge, hl.not_gt, hr]
  obtain ⟨hn, hpot⟩ | ⟨hn, hpots⟩ := h
  · have hf : RowBody.forced lane.toNat = fun b =>
        { b with pots := modifyAt b.pots (lane.toNat - 1) (Option.map (fun q => q.mark .host)) } := by
      funext b; simp [RowBody.forced, hn]
    simp [hn, hpot, hf]
  · have hf : RowBody.forced lane.toNat = fun b => b.markAll .host := by
      funext b; simp [RowBody.forced, hn]
    simp [hn, hpots, ← hf]

end Unbarred

/-! The command, from the checks of R175 to its own rule. -/

theorem exec_forceReject_of_starting {h : CmdHead} (position lane : BitVec 8) {s : State}
    (hrun : s.port.restartPending = false) (hlen : h.paramLen.toNat = 2) (hm : s.mode = .starting) :
    exec (.forceReject h position lane) s = .next (putResponse h.tag 0x10#8 .badMode [] s) := by
  simp [exec, execForceReject, portCommand, portCheck, hrun, hlen, hm]

theorem exec_forceReject_of_not_row {h : CmdHead} (position lane : BitVec 8) {s : State} (hp : PortReady h 2 s)
    (hrow : s.role.isRow = false) :
    exec (.forceReject h position lane) s = .next (putResponse h.tag 0x10#8 .badRole [] s) := by
  simp [exec, execForceReject, portCommand, portCheck, hp.noRestart, hp.length, hp.decoding, hrow]

/-- At a row role that decodes it, the answer is the rule's own. -/
theorem exec_forceReject_own {h : CmdHead} {position lane : BitVec 8} {s : State} {a : Reply} (hp : PortReady h 2 s)
    (hrow : s.role.isRow = true) (ha : forceRejectOwn position lane s = a) :
    exec (.forceReject h position lane) s = .next (putResponse h.tag 0x10#8 a.status a.data a.state) := by
  subst ha
  exact congrArg Host.Outcome.next (portCommand_own hp hrow rfl)

/-- Settles O18: the port's checks come first, then one lemma about the command's own rule for each clause. -/
theorem forceRejectAddsHostBelowGate : Obligations.ForceRejectAddsHostBelowGate := by
  intro h position lane s hrun hlen p n refused
  refine ⟨exec_forceReject_of_starting position lane hrun hlen,
    fun hs hrow => exec_forceReject_of_not_row position lane ⟨hrun, hlen, hs⟩ hrow, fun hrow hm => ?barred,
    fun hrow hs hc hz => ?taken⟩
  case barred =>
    have hs : s.mode ≠ .starting := by intro hs; simp [hs] at hm
    exact exec_forceReject_own ⟨hrun, hlen, hs⟩ hrow
      (forceRejectOwn_of_barred position lane ((forceRejectBarred_iff _).2 (.inr hm)))
  case taken =>
    have hp : PortReady h 2 s := ⟨hrun, hlen, hs⟩
    have hm : forceRejectBarred s.mode = false := by
      rw [Bool.eq_false_iff, Ne, forceRejectBarred_iff]
      simp [hs, hc, hz]
    refine ⟨fun hout => exec_forceReject_own hp hrow (forceRejectOwn_of_out_of_range hm hout), fun hw hg hl =>
      ⟨fun hnone => exec_forceReject_own hp hrow (forceRejectOwn_of_no_row hm hw hg hl hnone), fun r hr => ?row⟩⟩
    have hempty (hnot : ¬ r.body.holdsNamed n) : refused .empty :=
      exec_forceReject_own hp hrow (forceRejectOwn_of_not_holdsNamed hm hw hg hl hr hnot)
    refine ⟨fun hn hpot => hempty (RowBody.not_holdsNamed_of_lane_empty hn hpot),
      fun hn hpots => hempty (RowBody.not_holdsNamed_of_no_pots hn hpots), fun hnamed =>
      ⟨updateRow p (RowBody.forced n) s,
        exec_forceReject_own hp hrow (forceRejectOwn_of_holdsNamed hm hw hg hl hr hnamed), rfl,
        fun q hq => rowAt_updateRow_of_ne hq _ s, { r with body := r.body.forced n },
        rowAt_updateRow_same _ hr, ?_, fun k => RowBody.slotAt_forced_pots n k r.body⟩⟩
    exact congrArg (fun b => ({ r with body := b } : Row)) (RowBody.forced_frame n r.body)

end Sys2Proof.Machine
end

section
/-! The reel places: LOAD-REEL (R63) and SPLICE (R64). -/

namespace Sys2Proof.Machine

/-! ### The port's refusals ahead of a command's own rule (R175) -/

section PortRefusals

variable {code n : Nat} {always enums : Bool} {roles : Role → Bool} {own : State → Reply} {h : CmdHead} {s : State}

/-- In STARTING a command other than RESTART is answered BAD-MODE, whatever the role. -/
theorem portCommand_of_starting (hrun : s.port.restartPending = false) (hlen : h.paramLen.toNat = n)
    (hm : s.mode = .starting) :
    portCommand code n false roles enums own h s = putResponse h.tag (BitVec.ofNat 8 code) .badMode [] s := by
  have hcheck : portCheck n false roles enums h s = some .badMode := by simp [portCheck, hlen, hm]
  simp [portCommand, hrun, hcheck]

/-- A command of another role is answered BAD-ROLE. -/
theorem portCommand_of_other_role (hp : PortReady h n s) (hq : roles s.role = false) :
    portCommand code n always roles enums own h s = putResponse h.tag (BitVec.ofNat 8 code) .badRole [] s := by
  have hcheck : portCheck n always roles enums h s = some .badRole := by
    simp [portCheck, hp.length, hp.decoding, hq]
  simp [portCommand, hp.noRestart, hcheck]

end PortRefusals

theorem onlyRole_eq_true_iff (q r : Role) : onlyRole q r = true ↔ r = q := by simp [onlyRole]

theorem onlyRole_eq_false_iff (q r : Role) : onlyRole q r = false ↔ r ≠ q := by simp [onlyRole]

/-! ### LOAD-REEL (R63) -/

/-- An operand word is read as 0 exactly when it is the zero word. -/
theorem toNat_eq_zero_iff {w : Nat} (x : BitVec w) : x.toNat = 0 ↔ x = 0#w := by
  simp [← BitVec.toNat_inj]

theorem loadReelOwn_of_zero {reel : BitVec 16} {flavour : BitVec 8} {lids : BitVec 16} (useBy : BitVec 16) (s : State)
    (hz : reel = 0#16 ∨ flavour = 0#8 ∨ lids = 0#16) :
    loadReelOwn reel flavour useBy lids s = refuse .badValue s := by
  simp [loadReelOwn, toNat_eq_zero_iff, or_assoc, hz]

theorem loadReelOwn_of_nonzero {reel : BitVec 16} {flavour : BitVec 8} {lids : BitVec 16} (useBy : BitVec 16) (s : State)
    (hr : reel ≠ 0#16) (hf : flavour ≠ 0#8) (hl : lids ≠ 0#16) :
    loadReelOwn reel flavour useBy lids s =
      { status := if lidMax < lids.toNat then .clamped else .ok, data := [],
        state := loadStandby reel flavour useBy lids s } := by
  simp [loadReelOwn, toNat_eq_zero_iff, hr, hf, hl]

theorem exec_loadReel_eq (h : CmdHead) (reel : BitVec 16) (flavour : BitVec 8) (useBy lids : BitVec 16) (s : State) :
    exec (.loadReel h reel flavour useBy lids) s =
      .next (portCommand 0x20 7 false (onlyRole .lidder) true (loadReelOwn reel flavour useBy lids) h s) := rfl

/-- At a LIDDER that decodes it, LOAD-REEL is answered as its own rule says. -/
theorem exec_loadReel_own {h : CmdHead} {reel : BitVec 16} {flavour : BitVec 8} {useBy lids : BitVec 16} {s : State}
    {a : Reply} (hp : PortReady h 7 s) (hq : s.role = .lidder) (ha : loadReelOwn reel flavour useBy lids s = a) :
    exec (.loadReel h reel flavour useBy lids) s = .next (putResponse h.tag 0x20#8 a.status a.data a.state) := by
  rw [exec_loadReel_eq, portCommand_own hp ((onlyRole_eq_true_iff _ _).2 hq) rfl, ha]

/-- Settles O26: the port's refusals (R175) come first, then the two outcomes of LOAD-REEL's own rule. -/
theorem loadReelFillsStandby : Obligations.LoadReelFillsStandby := by
  intro h reel flavour useBy lids s hrun hlen refused
  refine ⟨fun hm => ?starting, fun hm hq => ?otherRole, fun hm hq => ⟨fun hz => ?badValue, fun hr hf hl => ?loaded⟩⟩
  case starting => exact congrArg Host.Outcome.next (portCommand_of_starting hrun hlen hm)
  case otherRole =>
    exact congrArg Host.Outcome.next
      (portCommand_of_other_role ⟨hrun, hlen, hm⟩ ((onlyRole_eq_false_iff _ _).2 hq))
  case badValue => exact exec_loadReel_own ⟨hrun, hlen, hm⟩ hq (loadReelOwn_of_zero useBy s hz)
  case loaded => exact exec_loadReel_own ⟨hrun, hlen, hm⟩ hq (loadReelOwn_of_nonzero useBy s hr hf hl)

/-! ### SPLICE (R64) -/

theorem spliceOwn_of_standby_absent {s : State} (h : s.lid.standby = none) : spliceOwn s = refuse .empty s := by
  simp [spliceOwn, h]

theorem spliceOwn_of_standby {s : State} {r : Reel} (h : s.lid.standby = some r) :
    spliceOwn s = accept { s with lid.active := some r, lid.standby := none } := by
  simp [spliceOwn, h]

theorem exec_splice_eq (h : CmdHead) (s : State) :
    exec (.splice h) s = .next (portCommand 0x21 0 false (onlyRole .lidder) true spliceOwn h s) := rfl

/-- At a LIDDER that decodes it, SPLICE is answered as its own rule says. -/
theorem exec_splice_own {h : CmdHead} {s : State} {a : Reply} (hp : PortReady h 0 s) (hq : s.role = .lidder)
    (ha : spliceOwn s = a) :
    exec (.splice h) s = .next (putResponse h.tag 0x21#8 a.status a.data a.state) := by
  rw [exec_splice_eq, portCommand_own hp ((onlyRole_eq_true_iff _ _).2 hq) rfl, ha]

/-- Settles O27: the port's refusals (R175) come first, then SPLICE's own rule by what STANDBY holds. -/
theorem spliceMovesStandbyToActive : Obligations.SpliceMovesStandbyToActive := by
  intro h s hrun hlen refused
  refine ⟨fun hm => ?starting, fun hm hq => ?otherRole, fun hm hq => ⟨fun hnone => ?empty, fun r hr => ?spliced⟩⟩
  case starting => exact congrArg Host.Outcome.next (portCommand_of_starting hrun hlen hm)
  case otherRole =>
    exact congrArg Host.Outcome.next
      (portCommand_of_other_role ⟨hrun, hlen, hm⟩ ((onlyRole_eq_false_iff _ _).2 hq))
  case empty => exact exec_splice_own ⟨hrun, hlen, hm⟩ hq (spliceOwn_of_standby_absent hnone)
  case spliced => exact exec_splice_own ⟨hrun, hlen, hm⟩ hq (spliceOwn_of_standby hr)

end Sys2Proof.Machine
end

section
/-! The order books: SWAP-BOOK (R111). -/

namespace Sys2Proof.Machine

/-! ### The two banks and which of them is ACTIVE -/

/-- The books with the other bank ACTIVE and every entry as it stood. -/
def flipBooks (s : State) : State := { s with dsp.swap := !s.dsp.swap }

theorem activeBank_flipBooks (s : State) : activeBank (flipBooks s) = standbyBank s := by
  cases hsw : s.dsp.swap <;> simp [activeBank, standbyBank, flipBooks, hsw]

theorem standbyBank_flipBooks (s : State) : standbyBank (flipBooks s) = activeBank s := by
  cases hsw : s.dsp.swap <;> simp [activeBank, standbyBank, flipBooks, hsw]

theorem setActive_swap (b : List (Option OrderEntry)) (s : State) : (setActive b s).dsp.swap = s.dsp.swap := by
  unfold setActive
  split <;> rfl

theorem activeBank_setActive (b : List (Option OrderEntry)) (s : State) : activeBank (setActive b s) = b := by
  cases hsw : s.dsp.swap <;> simp [activeBank, setActive, hsw]

theorem standbyBank_setActive (b : List (Option OrderEntry)) (s : State) :
    standbyBank (setActive b s) = standbyBank s := by
  cases hsw : s.dsp.swap <;> simp [standbyBank, setActive, hsw]

/-- A write of the ACTIVE bank reaches nothing but the two banks. -/
theorem setActive_frame (b : List (Option OrderEntry)) (s : State) :
    { setActive b s with dsp.bank0 := s.dsp.bank0, dsp.bank1 := s.dsp.bank1 } = s := by
  unfold setActive
  split <;> rfl

/-! ### The exchange (R111) -/

theorem exchangeBooks_eq (s : State) : exchangeBooks s = setActive (primaryBank (standbyBank s)) (flipBooks s) := by
  rw [← activeBank_flipBooks]
  rfl

theorem exchangeBooks_swap (s : State) : (exchangeBooks s).dsp.swap = !s.dsp.swap := setActive_swap _ (flipBooks s)

theorem activeBank_exchangeBooks (s : State) : activeBank (exchangeBooks s) = primaryBank (standbyBank s) := by
  rw [exchangeBooks_eq, activeBank_setActive]

theorem standbyBank_exchangeBooks (s : State) : standbyBank (exchangeBooks s) = activeBank s := by
  rw [exchangeBooks_eq, standbyBank_setActive, standbyBank_flipBooks]

/-- Outside the banks and the mark of which is ACTIVE, the exchange leaves the station as it was: trays and series keep what
they have. -/
theorem exchangeBooks_frame (s : State) :
    { exchangeBooks s with dsp.swap := s.dsp.swap, dsp.bank0 := s.dsp.bank0, dsp.bank1 := s.dsp.bank1 } = s := by
  have hflip : { exchangeBooks s with dsp.bank0 := s.dsp.bank0, dsp.bank1 := s.dsp.bank1 } = flipBooks s := by
    rw [exchangeBooks_eq]
    exact setActive_frame _ (flipBooks s)
  exact congrArg (fun t : State => ({ t with dsp.swap := s.dsp.swap } : State)) hflip

/-! ### The command's own rule -/

/-- The rule's test that the bank named is ACTIVE already, as a number: bank 1 with the banks exchanged, bank 0 otherwise. -/
theorem swap_eq_named_iff {bank : BitVec 8} {b : Bool} (hbank : bank.toNat ≤ 1) :
    b = (bank = 1#8) ↔ bank.toNat = if b then 1 else 0 := by
  have hone : bank = 1#8 ↔ bank.toNat = 1 := by simp [← BitVec.toNat_inj]
  cases b <;> simp [hone]
  omega

theorem swapBookOwn_of_large {bank : BitVec 8} (s : State) (hbank : 1 < bank.toNat) :
    swapBookOwn bank s = refuse .badValue s := by
  simp [swapBookOwn, hbank]

theorem swapBookOwn_of_active {bank : BitVec 8} {s : State} (hbank : bank.toNat = if s.dsp.swap then 1 else 0) :
    swapBookOwn bank s = accept s := by
  have hle : bank.toNat ≤ 1 := by rw [hbank]; cases s.dsp.swap <;> decide
  simp only [swapBookOwn, Nat.not_lt.2 hle, if_false, if_pos ((swap_eq_named_iff hle).2 hbank)]

theorem swapBookOwn_of_standby {bank : BitVec 8} {s : State} (hbank : bank.toNat = if s.dsp.swap then 0 else 1) :
    swapBookOwn bank s = accept (exchangeBooks s) := by
  have hle : bank.toNat ≤ 1 := by rw [hbank]; cases s.dsp.swap <;> decide
  have hother : ¬ bank.toNat = if s.dsp.swap then 1 else 0 := by rw [hbank]; cases s.dsp.swap <;> decide
  simp only [swapBookOwn, Nat.not_lt.2 hle, if_false, if_neg (mt (swap_eq_named_iff hle).1 hother)]

/-! ### The command, from the checks of R175 to its own rule -/

theorem exec_swapBook_eq (h : CmdHead) (bank : BitVec 8) (s : State) :
    exec (.swapBook h bank) s = .next (portCommand 0x32 1 false (onlyRole .dispatch) true (swapBookOwn bank) h s) := rfl

/-- At a DISPATCH that decodes it, SWAP-BOOK is answered as its own rule says. -/
theorem exec_swapBook_own {h : CmdHead} {bank : BitVec 8} {s : State} {a : Reply} (hp : PortReady h 1 s)
    (hq : s.role = .dispatch) (ha : swapBookOwn bank s = a) :
    exec (.swapBook h bank) s = .next (putResponse h.tag 0x32#8 a.status a.data a.state) := by
  rw [exec_swapBook_eq, portCommand_own hp ((onlyRole_eq_true_iff _ _).2 hq) rfl, ha]

/-- Settles O34: the port's refusals (R175) come first, then the three outcomes of SWAP-BOOK's own rule; what the exchange
does to the banks and to the rest is said once, of `exchangeBooks`. -/
theorem swapBookExchangesBanks : Obligations.SwapBookExchangesBanks := by
  intro h bank s hrun hlen refused
  refine ⟨fun hm => ?starting, fun hm hq => ?otherRole, fun hm hq =>
    ⟨fun hbank => ?badValue, fun hbank => ?alreadyActive, fun hbank => ⟨exchangeBooks s, ?exchanged,
      exchangeBooks_swap s, standbyBank_exchangeBooks s, activeBank_exchangeBooks s, exchangeBooks_frame s⟩⟩⟩
  case starting => exact congrArg Host.Outcome.next (portCommand_of_starting hrun hlen hm)
  case otherRole =>
    exact congrArg Host.Outcome.next
      (portCommand_of_other_role ⟨hrun, hlen, hm⟩ ((onlyRole_eq_false_iff _ _).2 hq))
  case badValue => exact exec_swapBook_own ⟨hrun, hlen, hm⟩ hq (swapBookOwn_of_large s hbank)
  case alreadyActive => exact exec_swapBook_own ⟨hrun, hlen, hm⟩ hq (swapBookOwn_of_active hbank)
  case exchanged => exact exec_swapBook_own ⟨hrun, hlen, hm⟩ hq (swapBookOwn_of_standby hbank)

end Sys2Proof.Machine
end

section
/-! The chamber lanes: DRAWDOWN (R145). -/

namespace Sys2Proof.Machine

/-! ### One lane of the chamber -/

/-- With eight lanes, a number names no lane exactly where it lies outside 1 to 8. -/
theorem lane_eq_none_iff {s : State} (hlanes : s.adm.lanes.length = 8) (n : Nat) :
    s.lane n = none ↔ n < 1 ∨ 8 < n := by
  by_cases hn : n = 0
  · simp [State.lane, hn]
  · simp only [State.lane, hn, if_false, List.getElem?_eq_none_iff, hlanes]
    omega

theorem lane_zero (s : State) : s.lane 0 = none := rfl

theorem ne_zero_of_lane_eq_some {s : State} {n : Nat} {l : Lane} (h : s.lane n = some l) : n ≠ 0 := by
  rintro rfl
  simp [lane_zero] at h

theorem lane_updateLane_same {n : Nat} {s : State} {l : Lane} (f : Lane → Lane) (h : s.lane n = some l) :
    (updateLane n f s).lane n = some (f l) := by
  have hn : n ≠ 0 := ne_zero_of_lane_eq_some h
  simp only [State.lane, hn, if_false] at h
  simp [State.lane, updateLane, hn, modifyAt_eq_modify, h]

theorem lane_updateLane_of_ne {m n : Nat} (hm : m ≠ n) (f : Lane → Lane) (s : State) :
    (updateLane n f s).lane m = s.lane m := by
  by_cases hm0 : m = 0
  · rw [hm0, lane_zero, lane_zero]
  · by_cases hn0 : n = 0
    · simp [updateLane, hn0]
    · have hplace : n - 1 ≠ m - 1 := by omega
      simp [State.lane, updateLane, hm0, hn0, modifyAt_eq_modify, hplace]

/-- A write to a lane changes the lanes alone. -/
theorem updateLane_frame (n : Nat) (f : Lane → Lane) (s : State) :
    { updateLane n f s with adm.lanes := s.adm.lanes } = s := by
  unfold updateLane
  split <;> rfl

/-- A lane drawn down keeps all but its occupancy and, where it is an ORDERS lane left with nothing in it and nothing
reserved, its order (R131). -/
theorem drawnLane_eq (k : Nat) (l : Lane) :
    drawnLane k l =
      { l with
        occupancy := l.occupancy - k
        order := if l.use = .orders ∧ l.occupancy - k = 0 ∧ l.reserved = 0 then none else l.order } := by
  simp only [drawnLane, Lane.settle, Bool.and_eq_true, decide_eq_true_eq, Nat.add_eq_zero_iff]
  split <;> rfl

/-! ### The command's own rule -/

theorem drawdownOwn_of_no_lane {lane : BitVec 8} {s : State} (count : BitVec 16) (hl : s.lane lane.toNat = none) :
    drawdownOwn lane count s = refuse .badValue s := by
  simp [drawdownOwn, hl]

theorem drawdownOwn_of_bad_count (lane : BitVec 8) {count : BitVec 16} (s : State)
    (hk : count.toNat = 0 ∨ 500 < count.toNat) : drawdownOwn lane count s = refuse .badValue s := by
  cases hl : s.lane lane.toNat with
  | none => exact drawdownOwn_of_no_lane count hl
  | some l => simp only [drawdownOwn, hl, Bool.or_eq_true, decide_eq_true_eq, if_pos hk]

/-- Both ways a DRAWDOWN is outside its ranges are answered BAD-VALUE. -/
theorem drawdownOwn_of_out_of_range {lane : BitVec 8} {count : BitVec 16} {s : State} (hlanes : s.adm.lanes.length = 8)
    (hbad : lane.toNat < 1 ∨ 8 < lane.toNat ∨ count.toNat = 0 ∨ 500 < count.toNat) :
    drawdownOwn lane count s = refuse .badValue s := by
  rcases or_assoc.2 hbad with hlane | hcount
  · exact drawdownOwn_of_no_lane count ((lane_eq_none_iff hlanes _).2 hlane)
  · exact drawdownOwn_of_bad_count lane s hcount

/-- Serving follows where an occupancy was lowered, which is where the lane held a tray. -/
theorem drawdownOwn_of_lane {lane : BitVec 8} {count : BitVec 16} {s : State} {l : Lane}
    (hl : s.lane lane.toNat = some l) (hlo : 1 ≤ count.toNat) (hhi : count.toNat ≤ 500) :
    drawdownOwn lane count s =
      { status := if l.occupancy < count.toNat then .clamped else .ok, data := [],
        state :=
          if 1 ≤ l.occupancy then serve (updateLane lane.toNat (drawnLane count.toNat) s)
          else updateLane lane.toNat (drawnLane count.toNat) s } := by
  have hk : ¬ (count.toNat = 0 ∨ 500 < count.toNat) := by omega
  simp only [drawdownOwn, hl, Bool.or_eq_true, decide_eq_true_eq, if_neg hk, Nat.succ_le_iff]

/-! ### The command, from the checks of R175 to its own rule -/

theorem exec_drawdown_eq (h : CmdHead) (lane : BitVec 8) (count : BitVec 16) (s : State) :
    exec (.drawdown h lane count) s =
      .next (portCommand 0x3B 3 false (onlyRole .chamber) true (drawdownOwn lane count) h s) := rfl

/-- At a CHAMBER that decodes it, DRAWDOWN is answered as its own rule says. -/
theorem exec_drawdown_own {h : CmdHead} {lane : BitVec 8} {count : BitVec 16} {s : State} {a : Reply}
    (hp : PortReady h 3 s) (hq : s.role = .chamber) (ha : drawdownOwn lane count s = a) :
    exec (.drawdown h lane count) s = .next (putResponse h.tag 0x3B#8 a.status a.data a.state) := by
  rw [exec_drawdown_eq, portCommand_own hp ((onlyRole_eq_true_iff _ _).2 hq) rfl, ha]

/-- Settles O42: the port's refusals (R175) come first, then DRAWDOWN's own rule; the state that serving starts from is
the lane's update, whose lanes and frame the rules of `updateLane` give. -/
theorem drawdownLowersOccupancyAndServes : Obligations.DrawdownLowersOccupancyAndServes := by
  intro h lane count s hrun hlen hlanes refused n k
  refine ⟨fun hm => ?starting, fun hm hq => ?otherRole, fun hm hq =>
    ⟨fun hbad => ?badValue, fun l hl hlo hhi => ⟨updateLane n (drawnLane k) s,
      fun m hne => lane_updateLane_of_ne hne _ s, ?drawnLane, updateLane_frame n _ s, ?answered⟩⟩⟩
  case starting => exact congrArg Host.Outcome.next (portCommand_of_starting hrun hlen hm)
  case otherRole =>
    exact congrArg Host.Outcome.next
      (portCommand_of_other_role ⟨hrun, hlen, hm⟩ ((onlyRole_eq_false_iff _ _).2 hq))
  case badValue => exact exec_drawdown_own ⟨hrun, hlen, hm⟩ hq (drawdownOwn_of_out_of_range hlanes hbad)
  case drawnLane => rw [lane_updateLane_same _ hl, drawnLane_eq]
  case answered => exact exec_drawdown_own ⟨hrun, hlen, hm⟩ hq (drawdownOwn_of_lane hl hlo hhi)

end Sys2Proof.Machine
end

section
/-! The latched notices: READ-NOTICES, the latch and what empties the set (R177). -/

namespace Sys2Proof.Machine

/-! ### The set as it stands -/

theorem latchedNotice_of_latched {s t : State} (h : t.stc.latched = s.stc.latched) (n : Notice) :
    t.latchedNotice n = s.latchedNotice n := by
  simp [State.latchedNotice, h]

theorem or_twoPow_of_getLsbD {w : Nat} {x : BitVec w} {i : Nat} (h : x.getLsbD i = true) :
    x ||| BitVec.twoPow w i = x := by
  refine BitVec.eq_of_getLsbD_eq fun j _ => ?_
  by_cases hj : i = j
  · simp [← hj, h]
  · simp [BitVec.getLsbD_twoPow, hj]

theorem latch_latched_of_latchedNotice {n : Notice} {s : State} (h : s.latchedNotice n = true) :
    (latch n s).stc.latched = s.stc.latched := by
  rw [latch_latched]
  exact or_twoPow_of_getLsbD h

/-- With no notice latched the attention line is released, whatever the mask (R178). -/
theorem updateAttention_of_none_latched {s : State} (h : s.stc.latched = 0#32) :
    updateAttention s = { s with out.attention := false } := by
  simp [updateAttention, attentionOf, h]

/-! ### READ-NOTICES -/

theorem readNoticesOwn_eq (s : State) :
    readNoticesOwn s =
      report (beBytes 4 s.stc.latched.toNat) { s with stc.latched := 0#32, out.attention := false } := by
  rw [readNoticesOwn, updateAttention_of_none_latched rfl]

theorem exec_readNotices_eq (h : CmdHead) (s : State) :
    exec (.readNotices h) s = .next (portCommand 0x0C 0 false anyRole true readNoticesOwn h s) := rfl

/-- Where it is decoded, READ-NOTICES answers the set and leaves none of it, in every role. -/
theorem exec_readNotices_own {h : CmdHead} {s : State} (hp : PortReady h 0 s) :
    exec (.readNotices h) s =
      .next (putResponse h.tag 0x0C#8 .ok (beBytes 4 s.stc.latched.toNat)
        { s with stc.latched := 0#32, out.attention := false }) := by
  rw [exec_readNotices_eq, portCommand_own hp rfl rfl, readNoticesOwn_eq]
  rfl

/-! ### The two resets (R173) -/

@[simp] theorem hardReset_latched (s : State) : (hardReset s).stc.latched = 0#32 := rfl

@[simp] theorem restartReset_latched (s : State) : (restartReset s).stc.latched = 0#32 := rfl

/-- A response transfer with RESTART pending takes the reset, so it leaves no notice latched. -/
theorem responseStep_latched_of_restartPending {s : State} (h : s.port.restartPending = true) :
    (responseStep s).stc.latched = 0#32 := by
  simp [responseStep, h]

theorem exec_hardReset_eq (s : State) : exec .hardReset s = .next (hardReset s) := rfl

theorem exec_responseTransfer_eq (s : State) : exec .responseTransfer s = .next (responseStep s) := rfl

/-! ### The end of the settings load (R164) -/

theorem takeDefaults_settingsBad (s : State) : (takeDefaults s).latchedNotice .settingsBad = true :=
  latch_latchedNotice _ _

/-- After the image the load latches nothing and clears nothing. -/
theorem completeLoad_latched (ws : List Half) (s : State) :
    (completeLoad ws s).stc.latched = (if imageGood ws then takeImage ws s else takeDefaults s).stc.latched := by
  simp [completeLoad, resum]

theorem completeLoad_settingsBad {ws : List Half} (s : State) (hbad : imageGood ws = false) :
    (completeLoad ws s).latchedNotice .settingsBad = true := by
  have hlatched : (completeLoad ws s).stc.latched = (takeDefaults s).stc.latched := by
    rw [completeLoad_latched, hbad, if_neg Bool.false_ne_true]
  rw [latchedNotice_of_latched hlatched, takeDefaults_settingsBad]

theorem exec_loadComplete_of_starting {s : State} (bytes : List Byte) (hm : s.mode = .starting) :
    exec (.loadComplete bytes) s = .next (settleFlow (completeLoad (imageWords bytes) s)) := by
  simp only [exec, execLoadComplete, hm, if_true]

/-- Settles O10: the latch is a union with the notice's one bit, READ-NOTICES answers by its own rule in every role, the two
resets start from an empty set, and a bad image latches before the load's other effects, none of which touch the set. -/
theorem readNoticesReturnsAndClears : Obligations.ReadNoticesReturnsAndClears := by
  refine ⟨fun n s => ⟨latch_latched n s, latch_latched_of_latchedNotice⟩, fun h s hp => exec_readNotices_own hp,
    fun s t ht => ?hardReset, fun s t hpending ht => ?restart, fun bytes s t hm hbad ht => ?badImage⟩
  case hardReset =>
    cases (exec_hardReset_eq s).symm.trans ht
    exact hardReset_latched s
  case restart =>
    cases (exec_responseTransfer_eq s).symm.trans ht
    exact responseStep_latched_of_restartPending hpending
  case badImage =>
    cases (exec_loadComplete_of_starting bytes hm).symm.trans ht
    rw [latchedNotice_of_latched (congrArg Stc.latched (settleFlow_stc _)), completeLoad_settingsBad s hbad]

end Sys2Proof.Machine
end

section
/-! What every command keeps: the parts of the state a command may move, and the invariants it carries along. Each shared
operation has one lemma here, so that an invariant of every step is read off once for all commands. -/

namespace Sys2Proof.Machine

/-! ### The parts of the state that only some commands move -/

/-- The parts of the state that only some commands move. `flow` is the mode with the run permit and the room; `rooms` is a
chamber's lanes with its admission table. -/
inductive Part where
  | trace | lids | probe | settings | tables | window | expected | peers | clock | day | nextSeq | flow | rooms
  deriving DecidableEq

/-- A part is the same in both states. -/
def Part.Same : Part → State → State → Prop
  | .trace, s, t => t.trc = s.trc
  | .lids, s, t => t.lid = s.lid
  | .probe, s, t => t.exp = s.exp
  | .settings, s, t => t.stc.settings = s.stc.settings
  | .tables, s, t => t.stc.products = s.stc.products ∧ t.stc.transitions = s.stc.transitions
  | .window, s, t => t.idx.window = s.idx.window
  | .expected, s, t => t.hnd.expected = s.hnd.expected
  | .peers, s, t => t.lnk.peers = s.lnk.peers
  | .clock, s, t => t.stc.clock = s.stc.clock
  | .day, s, t => t.stc.day = s.stc.day
  | .nextSeq, s, t => t.hnd.nextSeq = s.hnd.nextSeq
  | .flow, s, t => t.stc.mode = s.stc.mode ∧ t.out.runPermit = s.out.runPermit ∧ t.hnd.room = s.hnd.room
  | .rooms, s, t => t.adm.lanes = s.adm.lanes ∧ t.adm.table = s.adm.table

/-- Every part but one. -/
def except (p : Part) : Part → Bool := fun q => q != p

theorem Part.Same.refl (p : Part) (s : State) : p.Same s s := by cases p <;> simp [Part.Same]

theorem Part.Same.trans {p : Part} {s t u : State} (h : p.Same s t) (k : p.Same t u) : p.Same s u := by
  cases p <;> simp_all [Part.Same]

/-- The station has not been started (R164, R166). -/
def State.waiting (s : State) : Prop := s.mode = .starting ∨ s.mode = .configuring

/-- Within a command taken in `s₀`, an update from `s` to `t` moves, of the parts, those that `A` allows, and carries every
invariant along. A record held in `s₀` may be in hand between two updates, so what was bounded there stays known.
The default proofs are for an update of fields that the invariant does not speak of. -/
structure Keeps (A : Part → Bool) (s₀ s t : State) : Prop where
  same : ∀ p, A p = false → p.Same s t := by intro p hp; cases p <;> simp_all [Part.Same]
  bounded : Bounded s₀ → Bounded s → Bounded t := by exact fun _ h => { h with }
  causes : CausesFit s → CausesFit t := by exact fun h => h
  attention : AttentionFits s → AttentionFits t := by exact fun h => h
  reels : ReelsFit s → ReelsFit t := by exact fun h => h
  exposures : ExposureFits s₀ → ExposureFits s → ExposureFits t := by exact fun _ h => { h with }
  settings : SettingsFit s → SettingsFit t := by exact fun h => { h with }
  counts : CountsFit s → CountsFit t := by exact fun h => { h with }
  credit : CreditFits s → CreditFits t := by exact fun h => { h with }
  waiting : t.waiting → s.waiting := by exact fun h => h

theorem Keeps.refl {A : Part → Bool} {s₀ : State} (s : State) : Keeps A s₀ s s :=
  ⟨fun p _ => .refl p s, fun _ => id, id, id, id, fun _ => id, id, id, id, id⟩

theorem Keeps.trans {A : Part → Bool} {s₀ s t u : State} (h : Keeps A s₀ s t) (k : Keeps A s₀ t u) : Keeps A s₀ s u where
  same p hp := (h.same p hp).trans (k.same p hp)
  bounded h₀ := k.bounded h₀ ∘ h.bounded h₀
  causes := k.causes ∘ h.causes
  attention := k.attention ∘ h.attention
  reels := k.reels ∘ h.reels
  exposures h₀ := k.exposures h₀ ∘ h.exposures h₀
  settings := k.settings ∘ h.settings
  counts := k.counts ∘ h.counts
  credit := k.credit ∘ h.credit
  waiting := h.waiting ∘ k.waiting

/-- `Keeps.trans` with the later step first: a chain of updates is written as it is nested. -/
theorem Keeps.after {A : Part → Bool} {s₀ s t u : State} (k : Keeps A s₀ t u) (h : Keeps A s₀ s t) : Keeps A s₀ s u :=
  h.trans k

/-- What holds from the state an update starts in holds within any command. -/
theorem Keeps.rebase {A : Part → Bool} {s₀ s t : State} (h : Keeps A s s t) : Keeps A s₀ s t where
  same := h.same
  bounded _ hb := h.bounded hb hb
  causes := h.causes
  attention := h.attention
  reels := h.reels
  exposures _ he := h.exposures he he
  settings := h.settings
  counts := h.counts
  credit := h.credit
  waiting := h.waiting

/-- The state less the fields that no part and no invariant speaks of. -/
def State.core (s : State) : State :=
  { s with
    stc.fault := none, stc.workingSum := 0#16, stc.drainAt := none, stc.secondAt := 0
    port := Port.fresh
    idx.nextRow := 0, idx.unknownRejects := 0, idx.lost := 0, idx.untracked := 0
    hnd.everHeld := false, hnd.inLoss := false, hnd.advertised := 0#16, hnd.refreshAt := none, hnd.missing := 0
    hnd.stray := 0, hnd.dropped := 0, hnd.resync := 0
    lot.prevClass := none, lot.sanitised := false, lot.pendingOpen := false, lot.repeatAt := none
    lot.closeCounter := 0#32, lot.discards := 0
    tray.nextSeq := 0, tray.nextArrival := 0#32, tray.lost := 0, tray.unmatched := 0, tray.untracked := 0
    dsp := { Dsp.fresh with bank0 := s.dsp.bank0, bank1 := s.dsp.bank1, slots := s.dsp.slots }
    adm := { Adm.fresh with
      lanes := s.adm.lanes, manifests := s.adm.manifests, table := s.adm.table, notes := s.adm.notes }
    lnk := { Lnk.fresh with
      creditSlot := s.lnk.creditSlot, answerQ := s.lnk.answerQ, mainQ := s.lnk.mainQ, peers := s.lnk.peers }
    nowMs := 0, freeCount := 0, pending := [] }

theorem Keeps.core (A : Part → Bool) (s₀ s : State) : Keeps A s₀ s s.core where
  same p _ := by cases p <;> simp [Part.Same, State.core]

theorem Keeps.of_core (A : Part → Bool) (s₀ s : State) : Keeps A s₀ s.core s where
  same p _ := by cases p <;> simp [Part.Same, State.core]

/-- A change of fields that no part and no invariant speaks of. -/
theorem Keeps.of_core_eq {A : Part → Bool} {s₀ s t : State} (h : t.core = s.core) : Keeps A s₀ s t :=
  (Keeps.core A s₀ s).trans (h ▸ Keeps.of_core A s₀ t)

end Sys2Proof.Machine
end

section
/-! What an update of one field keeps. -/

namespace Sys2Proof.Machine

section Touches

-- The default proofs of `Keeps` are read from the environment, for which each proof of the section would wait in a thread
-- of its own; one after the other they need no threads.
set_option Elab.async false

variable {A : Part → Bool} {s₀ s : State}

/-! ### One field at a time -/

theorem keeps_timeTo (d : Nat) (s : State) : Keeps A s₀ s (timeTo d s) := .of_core_eq rfl

/-- A change of the latched set with the attention line worked out again (R178). -/
theorem keeps_notices (l : BitVec 32) (s : State) :
    Keeps A s₀ s { s with stc.latched := l, out.attention := attentionOf l s.noticeMask } where
  attention _ := rfl

theorem keeps_updateAttention (s : State) : Keeps A s₀ s (updateAttention s) := keeps_notices s.stc.latched s

theorem keeps_latch (n : Notice) (s : State) : Keeps A s₀ s (latch n s) := keeps_notices (s.stc.latched ||| n.mask) s

theorem keeps_putResponse (tag code : BitVec 8) (st : Status) (data : List Byte) (s : State) :
    Keeps A s₀ s (putResponse tag code st data s) := .of_core_eq rfl

theorem keeps_mainQ {q : List Frame} (h : s.lnk.mainQ.length ≤ 16 → q.length ≤ 16) :
    Keeps A s₀ s { s with lnk.mainQ := q } where
  bounded _ hb := { hb with mains := h hb.mains }

theorem keeps_answerQ {q : List Frame} (h : s.lnk.answerQ.length ≤ 8 → q.length ≤ 8) :
    Keeps A s₀ s { s with lnk.answerQ := q } where
  bounded _ hb := { hb with answers := h hb.answers }

/-- A frame may wait in the credit slot: it did already, or it is for the upstream neighbour (R25, R38). -/
theorem keeps_creditSlot {o : Option Frame}
    (h : CreditFits s → ∀ f, o = some f → s.mode ≠ .starting ∧ s.upstream ≠ 0 ∧ f.target = s.upstream) :
    Keeps A s₀ s { s with lnk.creditSlot := o } where
  credit hc := { hc with waiting := h hc }

theorem keeps_peers {l : List Peer} (hA : A .peers = true) (h : s.lnk.peers.length = 30 → l.length = 30) :
    Keeps A s₀ s { s with lnk.peers := l } where
  bounded _ hb := { hb with peers := h hb.peers }

theorem keeps_lotTable {l : List (Option LotRec)} (h : s.lot.table.length = 16 → l.length = 16) :
    Keeps A s₀ s { s with lot.table := l } where
  bounded _ hb := { hb with lots := h hb.lots }

/-- The open lot with the LOT-CLOSEs that wait (R53). -/
theorem keeps_closes {o : Option Nat} {l : List Nat}
    (h : s.lot.pendingCloses.length ≤ (if s.lot.openIdx.isSome then 1 else 2) → l.length ≤ (if o.isSome then 1 else 2)) :
    Keeps A s₀ s { s with lot.openIdx := o, lot.pendingCloses := l } where
  bounded _ hb := { hb with closes := h hb.closes }

theorem keeps_lid {l : Lid} (hA : A .lids = true) (hf : s.lid.fails.length = 8 → l.fails.length = 8)
    (hr : ReelsFit s → ReelsFit { s with lid := l }) : Keeps A s₀ s { s with lid := l } where
  bounded _ hb := { hb with fails := hf hb.fails }
  reels := hr

theorem keeps_exp {x : Exp} (hA : A .probe = true) : Keeps A s₀ s { s with exp := x } := {}

theorem keeps_trc {x : Trc} (hA : A .trace = true) (h : s.trc.entries.length ≤ 128 → x.entries.length ≤ 128) :
    Keeps A s₀ s { s with trc := x } where
  bounded _ hb := { hb with ring := h hb.ring }

theorem keeps_expected {x : BitVec 16} (hA : A .expected = true) : Keeps A s₀ s { s with hnd.expected := x } := {}

theorem keeps_nextSeq {x : BitVec 16} (hA : A .nextSeq = true) : Keeps A s₀ s { s with hnd.nextSeq := x } := {}

/-- Credit is held only with a downstream neighbour, and not in STARTING (R25, R42). -/
theorem keeps_held {x : Option HeldLimit} (h : x = none ∨ s.downstream ≠ 0 ∧ s.mode ≠ .starting) :
    Keeps A s₀ s { s with hnd.held := x } where
  credit hc := { hc with held := fun hd => h.elim id fun hn => absurd hd (not_or.2 hn) }

theorem keeps_rowArrivals {l : List RowEntry} (hb : Bounded s₀ → Bounded s → l.length ≤ 8 ∧ ∀ e ∈ l, e.body.pots.length = 8)
    (he : ExposureFits s₀ → ExposureFits s → ∀ e ∈ l, e.body.exposure ≤ exposureMax) : Keeps A s₀ s { s with hnd.rowArrivals := l } where
  bounded h₀ h := { h with rowArrivals := (hb h₀ h).1, entryPots := (hb h₀ h).2 }
  exposures h₀ h := { h with rowEntries := he h₀ h }

theorem keeps_trayArrivals {l : List TrayEntry} (hb : s.hnd.trayArrivals.length ≤ 8 → l.length ≤ 8)
    (he : ExposureFits s₀ → ExposureFits s → ∀ e ∈ l, e.tray.exposure ≤ exposureMax) : Keeps A s₀ s { s with hnd.trayArrivals := l } where
  bounded h₀ h := { h with trayArrivals := hb h.trayArrivals }
  exposures h₀ h := { h with trayEntries := he h₀ h }

theorem keeps_room {n : Nat} (hA : A .flow = true) (h : n ≤ 8) : Keeps A s₀ s { s with hnd.room := n } where
  bounded _ hb := { hb with room := h }

theorem keeps_permit {b : Bool} (hA : A .flow = true) : Keeps A s₀ s { s with out.runPermit := b } := {}

theorem keeps_window {w : List (Option Row)} (hA : A .window = true) (hw : s.waiting → s.idx.window = [] → w = [])
    (hb : Bounded s₀ → Bounded s → w.length ≤ s.windowLength ∧ ∀ r, some r ∈ w → r.body.pots.length = 8)
    (he : ExposureFits s₀ → ExposureFits s → ∀ r, some r ∈ w → r.body.exposure ≤ exposureMax) :
    Keeps A s₀ s { s with idx.window := w } where
  bounded h₀ h := { h with window := (hb h₀ h).1, rowPots := (hb h₀ h).2, waiting := fun hm => hw hm (h.waiting hm) }
  exposures h₀ h := { h with rows := he h₀ h }

/-- The position count and the reverse debt of a station that has been started. -/
theorem keeps_counts {p d : Nat} (hw : ¬ s.waiting)
    (h : CountsFit s → p < s.countsPerIndex ∧ d ≤ s.countsPerIndex) :
    Keeps A s₀ s { s with idx.posCount := p, idx.debt := d } where
  counts hc := { hc with position := (h hc).1, debt := (h hc).2, waiting := fun hm => absurd hm hw }

theorem keeps_pulses {l : List (Option Nat)} (h : Bounded s₀ → Bounded s → l.length = 8) :
    Keeps A s₀ s { s with idx.pulses := l } where
  bounded h₀ hb := { hb with pulses := h h₀ hb }

theorem keeps_forming {o : Option Forming} (h : ExposureFits s₀ → ExposureFits s → ∀ f, o = some f → f.tray.exposure ≤ exposureMax) :
    Keeps A s₀ s { s with tray.forming := o } where
  exposures h₀ he := { he with forming := h h₀ he }

theorem keeps_formed {l : List Tray} (hb : s.tray.formed.length ≤ 16 → l.length ≤ 16)
    (h : ExposureFits s₀ → ExposureFits s → ∀ t ∈ l, t.exposure ≤ exposureMax) : Keeps A s₀ s { s with tray.formed := l } where
  bounded h₀ h := { h with formed := hb h.formed }
  exposures h₀ he := { he with formed := h h₀ he }

theorem keeps_queue {l : List Tray} (hb : s.tray.queue.length ≤ 48 → l.length ≤ 48)
    (h : ExposureFits s₀ → ExposureFits s → ∀ t ∈ l, t.exposure ≤ exposureMax) : Keeps A s₀ s { s with tray.queue := l } where
  bounded h₀ h := { h with queue := hb h.queue }
  exposures h₀ he := { he with queue := h h₀ he }

theorem keeps_cells {l : List (Option Cell)} (hb : s.tray.cells.length = 12 → l.length = 12)
    (h : ExposureFits s₀ → ExposureFits s → ∀ c, some c ∈ l → c.tray.exposure ≤ exposureMax) : Keeps A s₀ s { s with tray.cells := l } where
  bounded h₀ h := { h with cells := hb h.cells }
  exposures h₀ he := { he with cells := h h₀ he }

theorem keeps_books {b c : List (Option OrderEntry)} (hb : s.dsp.bank0.length = 32 → b.length = 32)
    (hc : s.dsp.bank1.length = 32 → c.length = 32) : Keeps A s₀ s { s with dsp.bank0 := b, dsp.bank1 := c } where
  bounded h₀ h := { h with books := ⟨hb h.books.1, hc h.books.2⟩ }

theorem keeps_slots {l : List (Option Slot)} (h : s.dsp.slots.length = 4 → l.length = 4) :
    Keeps A s₀ s { s with dsp.slots := l } where
  bounded _ hb := { hb with slots := h hb.slots }

theorem keeps_lanes {l : List Lane} (hA : A .rooms = true) (h : s.adm.lanes.length = 8 → l.length = 8) :
    Keeps A s₀ s { s with adm.lanes := l } where
  bounded _ hb := { hb with lanes := h hb.lanes }

theorem keeps_table {l : List (Option Admission)} (hA : A .rooms = true)
    (h : s.adm.table.length = 16 → l.length = 16) : Keeps A s₀ s { s with adm.table := l } where
  bounded _ hb := { hb with admissions := h hb.admissions }

theorem keeps_manifests {l : List (Option Manifest)} (h : s.adm.manifests.length = 32 → l.length = 32) :
    Keeps A s₀ s { s with adm.manifests := l } where
  bounded _ hb := { hb with manifests := h hb.manifests }

theorem keeps_notes {l : List Note} (h : s.adm.notes.length ≤ 4 → l.length ≤ 4) :
    Keeps A s₀ s { s with adm.notes := l } where
  bounded _ hb := { hb with notes := h hb.notes }

theorem keeps_tables {ps : List (Option Product)} {ts : List Transition} (hA : A .tables = true)
    (hp : s.stc.products.length = 32 → ps.length = 32) (ht : s.stc.transitions.length = 64 → ts.length = 64) :
    Keeps A s₀ s { s with stc.products := ps, stc.transitions := ts } where
  bounded _ hb := { hb with products := hp hb.products, transitions := ht hb.transitions }

theorem keeps_clock {x : BitVec 32} (hA : A .clock = true) : Keeps A s₀ s { s with stc.clock := x } := {}

theorem keeps_day {x : BitVec 16} (hA : A .day = true) : Keeps A s₀ s { s with stc.day := x } := {}

/-- A change of the causes alone, which the mode fits. -/
theorem keeps_causes {c : BitVec 8} (h : CausesFit s → (s.mode = .running → c = 0#8) ∧ (s.mode = .held → c ≠ 0#8)) :
    Keeps A s₀ s { s with stc.causes := c } where
  causes := h

/-- The named positions stand as START settles them (R1). -/
def Settled (s : State) : Prop :=
  (∀ n, n = 9 ∨ n = 10 ∨ n = 11 → s.setting n ≤ s.setting 6 - 1) ∧
    (s.role = .lidder → s.setting 9 ≤ s.setting 10 ∧ s.setting 10 ≤ s.setting 11)

theorem settled_of_started (h : s.mode.started = true) (hs : SettingsFit s) : Settled s :=
  ⟨hs.positions h, hs.order h⟩

/-- A mode after CONFIGURING, with causes that fit it; a mode that runs finds the positions settled. -/
theorem keeps_mode {m : Mode} {c : BitVec 8} (hA : A .flow = true) (hm : m ≠ .starting) (hm' : m ≠ .configuring)
    (hs : SettingsFit s → m.started = true → Settled s)
    (hc : CausesFit s → (m = .running → c = 0#8) ∧ (m = .held → c ≠ 0#8)) :
    Keeps A s₀ s { s with stc.mode := m, stc.causes := c } where
  bounded _ h := { h with waiting := fun h => absurd h (not_or.2 ⟨hm, hm'⟩) }
  causes := hc
  settings h := { h with
    positions := fun h' => (hs h h').1
    order := fun h' => (hs h h').2 }
  counts h := { h with waiting := fun h => absurd h (not_or.2 ⟨hm, hm'⟩) }
  credit h := { h with
    held := fun hd => h.held (hd.imp_right fun h' => absurd h' hm)
    waiting := fun f hf => ⟨hm, (h.waiting f hf).2⟩ }
  waiting h := absurd h (not_or.2 ⟨hm, hm'⟩)

end Touches

end Sys2Proof.Machine
end

section
/-! The shared operations keep the invariants: one lemma for each, in the order of the model's files. -/

namespace Sys2Proof.Machine

variable {A : Part → Bool} {s₀ : State}

/-! ### The transmit side (R156, R159) and the trace ring (R126) -/

theorem keeps_pushMain (f : Frame) (s : State) : Keeps A s₀ s (pushMain f s) := by
  have hb := pushMain_bound f s
  unfold pushMain at hb ⊢
  split
  · next h => exact keeps_mainQ (by simpa [h] using hb)
  · exact .refl s

theorem keeps_pushAnswer (f : Frame) (s : State) : Keeps A s₀ s (pushAnswer f s) := by
  have hb := pushAnswer_bound f s
  unfold pushAnswer at hb ⊢
  split
  · next h => exact keeps_answerQ (by simpa [h] using hb)
  · exact .refl s

theorem keeps_placeState (f : Frame) (s : State) : Keeps A s₀ s (placeState f s) := by
  have hb := placeState_bound f s
  have hfrom : Keeps A s₀ { s with lnk.mainQ := (placeState f s).lnk.mainQ } (placeState f s) := .of_core_eq (by
    unfold placeState; (repeat' split) <;> rfl)
  exact (keeps_mainQ hb).trans hfrom

theorem keeps_writeTrace (hA : A .trace = true) (e : TraceEntry) (s : State) : Keeps A s₀ s (writeTrace e s) := by
  unfold writeTrace latchRing
  split
  · next h =>
    have hwrite : Keeps A s₀ s { s with
        trc.entries := s.trc.entries ++ [e], trc.writePos := (s.trc.writePos + 1) % ringSize } :=
      keeps_trc hA (fun _ => by simpa [ringSize] using h)
    dsimp only
    (repeat' split)
    · exact hwrite.trans (keeps_latch _ _)
    · exact hwrite.trans (keeps_latch _ _)
    · exact hwrite
  · exact .refl s

/-! ### Lots (R47 to R53) -/

theorem keeps_updateLot (id : Nat) (f : LotRec → LotRec) (s : State) : Keeps A s₀ s (updateLot id f s) :=
  keeps_lotTable (by simp)

theorem keeps_updateNamed (o : Option Nat) (f : LotRec → LotRec) (s : State) : Keeps A s₀ s (updateNamed o f s) := by
  cases o with
  | none => exact .refl s
  | some id => exact keeps_updateLot id f s

theorem keeps_lotArrive (o : Option Nat) (s : State) : Keeps A s₀ s (lotArrive o s) := keeps_updateNamed o _ s

theorem keeps_lotDepart (o : Option Nat) (s : State) : Keeps A s₀ s (lotDepart o s) := keeps_updateNamed o _ s

theorem keeps_closeEntry (i : Nat) (s : State) : Keeps A s₀ s (closeEntry i s) := by
  unfold closeEntry
  (repeat' split)
  · exact .refl s
  · exact (keeps_lotTable (by simp)).trans (.of_core_eq rfl)
  · exact .refl s

/-- A close moves the table and the counter of closes alone. -/
theorem closeEntry_lot (i : Nat) (s : State) :
    (closeEntry i s).lot =
      { s.lot with table := (closeEntry i s).lot.table, closeCounter := (closeEntry i s).lot.closeCounter } := by
  unfold closeEntry
  (repeat' split) <;> rfl

theorem keeps_announceOpen (s : State) : Keeps A s₀ s (announceOpen s) := by
  unfold announceOpen
  (repeat' split)
  · exact .refl s
  · exact (keeps_pushMain _ s).trans (.of_core_eq rfl)
  · exact .of_core_eq rfl

/-- The open lot closes: its LOT-CLOSE may wait, because no lot is open any more (R52, R53). -/
theorem keeps_closeOpenLot (s : State) : Keeps A s₀ s (closeOpenLot s) := by
  unfold closeOpenLot announceClose
  split
  · exact .refl s
  · next i hi =>
    have hopen : (closeEntry i s).lot.openIdx.isSome = true := by rw [closeEntry_lot]; simp [hi]
    have hnone (l : List Nat) (hl : l.length ≤ (closeEntry i s).lot.pendingCloses.length + 1) :
        Keeps A s₀ s { closeEntry i s with lot.openIdx := none, lot.pendingCloses := l } :=
      (keeps_closeEntry i s).trans (keeps_closes (fun h => by simp [hopen] at h ⊢; omega))
    dsimp only
    split
    · exact .after (keeps_pushMain _ _) ((hnone _ (Nat.le_succ _)).trans (.of_core_eq rfl))
    · exact (hnone _ (by simp)).trans (.of_core_eq rfl)

/-! ### Credit, room and the run permit (R37, R38) -/

theorem keeps_placeInCreditSlot (f : Frame) (s : State)
    (h : s.mode ≠ .starting ∧ s.upstream ≠ 0 ∧ f.target = s.upstream) : Keeps A s₀ s (placeInCreditSlot f s) :=
  (keeps_creditSlot (o := some f) fun _ _ hg => Option.some.inj hg ▸ h).trans (.of_core_eq rfl)

theorem keeps_placeCredit (s : State) : Keeps A s₀ s (placeCredit s) := by
  unfold placeCredit
  split
  · next h =>
    simp only [Bool.and_eq_true, decide_eq_true_eq] at h
    exact (keeps_placeInCreditSlot _ s ⟨h.2, h.1.2, rfl⟩).trans (.of_core_eq rfl)
  · exact .refl s

section Flow

variable (hA : A .flow = true)
include hA

theorem keeps_updateRoom (s : State) : Keeps A s₀ s (updateRoom s) := by
  have hroom : Keeps A s₀ s { s with hnd.room := roomOf s } := keeps_room hA (roomOf_le s)
  unfold updateRoom
  dsimp only
  split
  · exact hroom.trans (keeps_placeCredit _)
  · exact hroom

theorem keeps_settleFlow (s : State) : Keeps A s₀ s (settleFlow s) :=
  (keeps_updateRoom hA s).trans (keeps_permit hA)

theorem keeps_settleAdvance (s : State) : Keeps A s₀ s (settleAdvance s) :=
  (keeps_room hA (roomOf_le s)).trans ((keeps_placeCredit _).trans (keeps_permit hA))

/-- The settling at the end of a step from `s` (R34, R37, R38). -/
theorem keeps_settleSince (s t : State) : Keeps A s₀ t (settleSince s t) := by
  unfold settleSince
  split
  · exact keeps_settleFlow hA t
  · exact keeps_settleAdvance hA t

end Flow

theorem keeps_strayAdvance (hA : A .expected = true) (s : State) : Keeps A s₀ s (strayAdvance s) := keeps_expected hA

/-! ### Order books, cells and slots (R109 to R120) -/

theorem keeps_bank0 {s : State} {b : List (Option OrderEntry)} (h : b.length = s.dsp.bank0.length) :
    Keeps A s₀ s { s with dsp.bank0 := b } := keeps_books (c := s.dsp.bank1) h.trans fun h => h

theorem keeps_bank1 {s : State} {b : List (Option OrderEntry)} (h : b.length = s.dsp.bank1.length) :
    Keeps A s₀ s { s with dsp.bank1 := b } := keeps_books (b := s.dsp.bank0) (fun h => h) h.trans

theorem keeps_setActive {b : List (Option OrderEntry)} (s : State) (h : b.length = (activeBank s).length) :
    Keeps A s₀ s (setActive b s) := by
  by_cases hsw : s.dsp.swap = true
  · rw [setActive, if_pos hsw]
    rw [activeBank, if_pos hsw] at h
    exact keeps_bank1 h
  · rw [setActive, if_neg hsw]
    rw [activeBank, if_neg hsw] at h
    exact keeps_bank0 h

theorem keeps_setStandby {b : List (Option OrderEntry)} (s : State) (h : b.length = (standbyBank s).length) :
    Keeps A s₀ s (setStandby b s) := by
  by_cases hsw : s.dsp.swap = true
  · rw [setStandby, if_pos hsw]
    rw [standbyBank, if_pos hsw] at h
    exact keeps_bank0 h
  · rw [setStandby, if_neg hsw]
    rw [standbyBank, if_neg hsw] at h
    exact keeps_bank1 h

theorem modifyAt_length {α : Type} (l : List α) (i : Nat) (f : α → α) : (modifyAt l i f).length = l.length := by
  rw [modifyAt_eq_modify, List.length_modify]

theorem keeps_updateEntry (i : Nat) (f : OrderEntry → OrderEntry) (s : State) : Keeps A s₀ s (updateEntry i f s) :=
  keeps_setActive s (modifyAt_length _ _ _)

theorem keeps_unassign (order : Option Nat) (s : State) : Keeps A s₀ s (unassign order s) := by
  unfold unassign
  split
  · exact .refl s
  · exact keeps_updateEntry _ _ s

theorem mem_of_slotAt {α : Type} {l : List (Option α)} {i : Nat} {x : α} (h : slotAt l i = some x) : some x ∈ l := by
  exact List.mem_of_getElem? (Option.join_eq_some_iff.1 h)

/-- An element of a table after a write is an old one, or what the write made of the one it found. -/
theorem mem_modifyAt_map {α : Type} {l : List (Option α)} {i : Nat} {f : α → α} {x : α}
    (h : some x ∈ modifyAt l i (Option.map f)) : some x ∈ l ∨ ∃ y, slotAt l i = some y ∧ x = f y := by
  obtain ⟨k, hk⟩ := List.mem_iff_getElem?.1 h
  have hx : slotAt (modifyAt l i (Option.map f)) k = some x := by simp [slotAt, hk]
  rw [slotAt_modifyAt_map] at hx
  split at hx
  · next hki =>
    obtain ⟨y, hy, rfl⟩ := Option.map_eq_some_iff.1 hx
    exact .inr ⟨y, hki ▸ hy, rfl⟩
  · exact .inl (mem_of_slotAt hx)

theorem keeps_updateCell (i : Nat) (f : Cell → Cell) (s : State) (hf : ∀ c, (f c).tray.exposure = c.tray.exposure) :
    Keeps A s₀ s (updateCell i f s) := by
  refine keeps_cells (fun h => (modifyAt_length _ _ _).trans h) fun _ he c hc => ?_
  obtain hold | ⟨d, hd, rfl⟩ := mem_modifyAt_map hc
  · exact he.cells c hold
  · exact (hf d).symm ▸ he.cells d (mem_of_slotAt hd)

theorem keeps_updateCellTray (i : Nat) (f : Tray → Tray) (s : State) (hf : ∀ t, (f t).exposure = t.exposure) :
    Keeps A s₀ s (updateCellTray i f s) := keeps_updateCell i _ s fun c => hf c.tray

theorem keeps_setSlot (j : Nat) (o : Option Slot) (s : State) : Keeps A s₀ s (setSlot j o s) :=
  keeps_slots (by simp)

theorem keeps_handOver (i : Nat) (s : State) : Keeps A s₀ s (handOver i s) := by
  unfold handOver
  split
  · exact .refl s
  · next c hc =>
    have hrouted : Keeps A s₀ s (updateCellTray i
        (fun x => { x with order := none, route := some s.quarantineChamber, chambers := none })
        (unassign c.tray.order s)) :=
      .after (keeps_updateCellTray i _ _ fun _ => rfl) (keeps_unassign _ s)
    dsimp only
    (repeat' split)
    · exact .refl s
    · exact hrouted
    · exact hrouted
    · exact .after (keeps_updateCellTray i _ _ fun _ => rfl) (hrouted.trans (keeps_setSlot _ _ _))
    · exact hrouted
    · exact hrouted.trans (keeps_updateCellTray i _ _ fun _ => rfl)
    · exact hrouted

theorem keeps_flagCell (i : Nat) (s : State) : Keeps A s₀ s (flagCell i s) := by
  unfold flagCell
  (repeat' split)
  · exact .refl s
  · exact .refl s
  · exact .after (keeps_handOver i _) (keeps_updateCellTray i _ s fun _ => rfl)

theorem keeps_projectCell (i : Nat) (s : State) : Keeps A s₀ s (projectCell i s) := by
  unfold projectCell
  (repeat' split)
  · exact .refl s
  · exact keeps_flagCell i s
  · exact .refl s

/-- A count of DSP. -/
theorem keeps_dspCounts {s : State} (grants noAnswers unmatched routes expired releases done unnamed : Nat) :
    Keeps A s₀ s { s with
      dsp.grants := grants, dsp.noAnswers := noAnswers, dsp.unmatchedReplies := unmatched, dsp.routes := routes
      dsp.expiredGrants := expired, dsp.releases := releases, dsp.unexpectedDone := done
      dsp.unnamedTrays := unnamed } := .of_core_eq rfl

theorem keeps_assignCell (i : Nat) (s : State) : Keeps A s₀ s (assignCell i s) := by
  unfold assignCell
  dsimp only
  (repeat' split)
  · exact .refl s
  · exact .after (keeps_latch _ _) (.after (keeps_dspCounts ..) (keeps_updateCellTray i _ s fun _ => rfl))
  · exact keeps_updateCellTray i _ s fun _ => rfl
  · exact .refl s
  · exact .after (keeps_updateCellTray i _ _ fun _ => rfl) (keeps_updateEntry _ _ s)
  · exact keeps_updateCellTray i _ s fun _ => rfl

theorem keeps_routeFails (i failed : Nat) (s : State) : Keeps A s₀ s (routeFails i failed s) := by
  unfold routeFails
  dsimp only
  (repeat' split)
  · exact .refl s
  · exact .after (keeps_dspCounts ..) (keeps_updateCellTray i _ s fun _ => rfl)
  · exact .after (keeps_updateEntry _ _ _) (.after (keeps_dspCounts ..) (keeps_updateCellTray i _ s fun _ => rfl))
  · exact .after (keeps_latch _ _) (keeps_updateCellTray i _ s fun _ => rfl)

/-! ### The chamber's lanes and tables (R131 to R142) -/

theorem keeps_dropManifest (t : TrayId) (s : State) : Keeps A s₀ s (dropManifest t s) := by
  unfold dropManifest
  split
  · exact .refl s
  · exact keeps_manifests (by simp)

section Rooms

variable (hA : A .rooms = true)
include hA

theorem keeps_updateLane (n : Nat) (f : Lane → Lane) (s : State) : Keeps A s₀ s (updateLane n f s) := by
  unfold updateLane
  split
  · exact .refl s
  · exact keeps_lanes hA fun h => (modifyAt_length _ _ _).trans h

theorem keeps_setAdmission (i : Nat) (e : Option Admission) (s : State) : Keeps A s₀ s (setAdmission i e s) :=
  keeps_table hA (by simp)

theorem keeps_serveEntry (i : Nat) (s : State) : Keeps A s₀ s (serveEntry i s) := by
  unfold serveEntry
  split
  · exact .refl s
  split
  · exact .refl s
  · exact (keeps_updateLane hA _ _ s).trans (keeps_setAdmission hA _ _ _)

theorem keeps_serveList (l : List Nat) (s : State) : Keeps A s₀ s (serveList l s) := by
  induction l generalizing s with
  | nil => exact .refl s
  | cons i is ih =>
    unfold serveList
    split
    · exact (keeps_serveEntry hA i s).trans (ih _)
    · exact .refl s

theorem keeps_serve (s : State) : Keeps A s₀ s (serve s) := by
  unfold serve
  split
  · exact keeps_serveList hA _ s
  · exact .refl s

theorem keeps_removeEntry (i : Nat) (e : Admission) (s : State) : Keeps A s₀ s (removeEntry i e s) :=
  (keeps_setAdmission hA i none s).trans (keeps_dropManifest _ _)

theorem keeps_endReservation (i : Nat) (e : Admission) (s : State) : Keeps A s₀ s (endReservation i e s) :=
  (keeps_updateLane hA _ _ s).trans (keeps_removeEntry hA i e _)

theorem keeps_declareMissing (hT : A .trace = true) (i : Nat) (e : Admission) (s : State) :
    Keeps A s₀ s (declareMissing i e s) :=
  (keeps_writeTrace hT _ s).trans ((keeps_endReservation hA i e _).trans (.of_core_eq rfl))

theorem keeps_discardReady (i : Nat) (e : Admission) (s : State) : Keeps A s₀ s (discardReady i e s) :=
  (keeps_endReservation hA i e s).trans (.of_core_eq rfl)

end Rooms

end Sys2Proof.Machine
end

section
/-! Modes, trays and the row window keep the invariants. -/

namespace Sys2Proof.Machine

variable {A : Part → Bool} {s₀ : State}

/-! ### Modes and causes (R159, R167 to R171) -/

section Modes

variable (hA : A .flow = true)
include hA

theorem keeps_enterMode {m : Mode} (s : State) (hm : m ≠ .starting) (hm' : m ≠ .configuring)
    (hs : SettingsFit s → m.started = true → Settled s)
    (hc : CausesFit s → (m = .running → s.stc.causes = 0#8) ∧ (m = .held → s.stc.causes ≠ 0#8)) :
    Keeps A s₀ s (enterMode m s) :=
  (keeps_mode hA hm hm' hs hc).trans (keeps_placeState _ _)

theorem keeps_enterRunning (hR : A .rooms = true) (s : State) (hs : SettingsFit s → Settled s)
    (hc : s.stc.causes = 0#8) : Keeps A s₀ s (enterRunning s) :=
  .after (keeps_serve hR _) (keeps_enterMode hA s (by simp) (by simp) (fun h _ => hs h) fun _ => ⟨fun _ => hc, by simp⟩)

theorem keeps_addCause (c : Cause) (s : State) : Keeps A s₀ s (addCause c s) := by
  unfold addCause
  dsimp only
  split
  · next hm =>
    exact (keeps_mode (m := .held) (c := s.stc.causes ||| c.mask) hA (by simp) (by simp)
      (fun h _ => settled_of_started (by rw [hm]; rfl) h)
      fun _ => ⟨by simp, fun _ => or_mask_ne_zero c _⟩).trans (keeps_placeState _ _)
  · next hm => exact keeps_causes fun _ => ⟨fun h => absurd h hm, fun _ => or_mask_ne_zero c _⟩

theorem keeps_enterByCauses (hR : A .rooms = true) (s : State) (hs : SettingsFit s → Settled s) :
    Keeps A s₀ s (enterByCauses s) := by
  unfold enterByCauses
  split
  · next hc => exact keeps_enterRunning hA hR s hs hc
  · next hc => exact keeps_enterMode hA s (by simp) (by simp) (fun h _ => hs h) fun _ => ⟨by simp, fun _ => hc⟩

/-- A cause leaves the set, and a HELD station left with none runs (R167). -/
theorem keeps_runIfClear_dropCause (hR : A .rooms = true) (c : Cause) (s : State) :
    Keeps A s₀ s (runIfClear (dropCause c s)) := by
  unfold runIfClear
  split
  · next h =>
    simp only [Bool.and_eq_true, decide_eq_true_eq] at h
    exact (keeps_mode (m := .running) (c := s.stc.causes &&& ~~~c.mask) hA (by simp) (by simp)
      (fun hs _ => settled_of_started (by rw [show s.mode = .held from h.1]; rfl) hs)
      fun _ => ⟨fun _ => h.2, by simp⟩).trans ((keeps_placeState _ _).trans (keeps_serve hR _))
  · next h =>
    simp only [Bool.and_eq_true, decide_eq_true_eq, not_and] at h
    exact keeps_causes fun hc => ⟨fun hm => by simp [hc.1 hm], fun hm => h hm⟩

theorem keeps_enterFault (c : FaultCause) (s : State) : Keeps A s₀ s (enterFault c s) :=
  .after (keeps_latch _ _) (.after (keeps_enterMode hA _ (by simp) (by simp) (fun _ h => by simp [Mode.started] at h)
    fun _ => ⟨by simp, by simp⟩) (.of_core_eq rfl))

/-- Entry to SANITISING from a mode that runs (R169). -/
theorem keeps_enterSanitising (hL : A .lids = true) (s : State) (hm : s.mode.started = true) :
    Keeps A s₀ s (enterSanitising s) := by
  have hmode : Keeps A s₀ s (enterMode .sanitising { s with stc.drainAt := none }) :=
    .after (keeps_enterMode hA _ (by simp) (by simp) (fun h _ => settled_of_started hm h)
      fun _ => ⟨by simp, by simp⟩) (.of_core_eq rfl)
  have hcounts : Keeps A s₀ s { enterMode .sanitising { s with stc.drainAt := none } with
      idx.posCount := 0, idx.debt := 0 } :=
    hmode.trans (keeps_counts (by simp [State.waiting, State.mode]) fun h => ⟨by have := h.perIndex; omega, Nat.zero_le _⟩)
  unfold enterSanitising
  dsimp only
  split
  · exact hcounts
  · exact hcounts
  · exact hcounts.trans (keeps_lid hL (fun _ => rfl) fun h => h)
  · exact hmode.trans ((keeps_manifests (l := List.replicate 32 none) fun _ => rfl).trans
      (keeps_notes fun _ => Nat.zero_le _))
  · exact hmode

end Modes

/-! ### Port commands (R174, R175) -/

/-- A port command with no RESTART pending keeps what its own rule keeps; the rule is reached at the command's roles alone,
and outside STARTING. -/
theorem keeps_portCommand {code n : Nat} {roles : Role → Bool} {enums : Bool} {own : State → Reply}
    {h : CmdHead} {s : State} (hr : s.port.restartPending = false)
    (hown : s.mode ≠ .starting → roles s.role = true → Keeps A s₀ s (own s).state) :
    Keeps A s₀ s (portCommand code n false roles enums own h s) := by
  unfold portCommand portCheck
  rw [if_neg (by simp [hr])]
  by_cases h1 : h.paramLen.toNat = n <;> by_cases h2 : s.mode = .starting <;> by_cases h3 : roles s.role = true <;>
    by_cases h4 : enums = true <;> simp [h1, h2, h3, h4, keeps_putResponse]
  exact .after (keeps_putResponse ..) (hown h2 h3)

/-! ### Trays (R78 to R85) -/

theorem classifyTray_exposure (lot : Option LotRec) (t : Tray) : (classifyTray lot t).exposure = t.exposure := by
  cases lot <;> rfl

/-- A count of TRY, or one of its sequences. -/
theorem keeps_trayCounts {s : State} (seq lost unmatched untracked : Nat) (arrival : BitVec 32) :
    Keeps A s₀ s { s with
      tray.nextSeq := seq, tray.nextArrival := arrival, tray.lost := lost, tray.unmatched := unmatched
      tray.untracked := untracked } := .of_core_eq rfl

theorem formedFull_iff (s : State) : formedFull s = true ↔ 16 ≤ s.tray.formed.length := decide_eq_true_iff

theorem keeps_closeTray (short : Bool) (s : State) : Keeps A s₀ s (closeTray short s) := by
  unfold closeTray
  split
  · exact .refl s
  · next f hf =>
    split
    · exact keeps_forming fun _ he g hg => Option.some.inj hg ▸ he.forming f hf
    · next hfull =>
      have hroom : s.tray.formed.length < 16 := Nat.not_le.1 (mt (formedFull_iff s).2 hfull)
      refine (keeps_formed (l := s.tray.formed ++
        [{ f.tray with id := { origin := s.own, seq := s.tray.nextSeq }, short := f.tray.short || short }])
        (fun _ => by simpa using hroom) fun _ he t ht => ?_).trans
          ((keeps_forming (o := none) fun _ _ _ hg => by simp at hg).trans (.of_core_eq rfl))
      obtain hold | rfl := by simpa using ht
      · exact he.formed t hold
      · exact he.forming f hf

theorem keeps_closeHeldBack (s : State) : Keeps A s₀ s (closeHeldBack s) := by
  unfold closeHeldBack
  split
  · exact keeps_closeTray true s
  · exact .refl s

theorem keeps_closeOnDrain (s : State) : Keeps A s₀ s (closeOnDrain s) := by
  unfold closeOnDrain
  split
  · exact keeps_closeTray true s
  · exact .refl s

theorem keeps_startTray (lot : Option Nat) (s : State) : Keeps A s₀ s (startTray lot s) := by
  unfold startTray
  split
  · exact .refl s
  · exact .after (keeps_lotArrive _ _) (keeps_forming fun _ _ g hg => Option.some.inj hg ▸ Nat.zero_le _)

theorem keeps_joinTray {b : RowBody} (hb : ExposureFits s₀ → b.exposure ≤ exposureMax) (s : State) :
    Keeps A s₀ s (joinTray b s) := by
  unfold joinTray
  split
  · exact .refl s
  · next f hf =>
    have hjoined : Keeps A s₀ s (lotDepart b.lot { s with tray.forming := some { f with
        tray := classifyTray (lotOf s b.lot) (f.tray.join b), deadline := some (s.nowMs + s.closeMs) } }) :=
      .after (keeps_lotDepart _ _) (keeps_forming fun h₀ he g hg => by
        rw [← Option.some.inj hg]
        exact (classifyTray_exposure _ _).trans_le (max_le (he.forming f hf) (hb h₀)))
    dsimp only
    split
    · exact hjoined.trans (keeps_closeTray false _)
    · exact hjoined

theorem keeps_formRow {b : RowBody} (hb : ExposureFits s₀ → b.exposure ≤ exposureMax) (s : State) :
    Keeps A s₀ s (formRow b s) := by
  unfold formRow
  dsimp only
  split
  · exact .after (keeps_joinTray hb _) (.after (keeps_startTray _ _) (keeps_closeTray true s))
  · exact .after (keeps_joinTray hb _) (keeps_startTray _ _)

theorem keeps_writeOffTray (t : Tray) (s : State) : Keeps A s₀ s (writeOffTray t s) :=
  .after (keeps_latch _ _) (.after (keeps_trayCounts ..) (keeps_lotDepart t.lot s))

theorem keeps_sendTray (hN : A .nextSeq = true) (t : Tray) (s : State) : Keeps A s₀ s (sendTray t s) :=
  .after (keeps_lotDepart _ _) (.after (keeps_nextSeq hN) (keeps_pushMain _ s))

theorem keeps_releaseHead (hN : A .nextSeq = true) (may : Bool) (t : Tray) (s : State) :
    Keeps A s₀ s (releaseHead may t s) := by
  unfold releaseHead
  split
  · exact keeps_sendTray hN t s
  · exact keeps_writeOffTray t s

theorem keeps_refuseTray (s : State) : Keeps A s₀ s (refuseTray s) :=
  .after (keeps_latch _ _) (.of_core_eq rfl)

theorem keeps_receiveTray (t : Tray) (s : State) : Keeps A s₀ s (receiveTray t s) :=
  .after (keeps_updateNamed _ _ _) (keeps_lotArrive _ s)

theorem keeps_placeInQueue {t : Tray} (ht : ExposureFits s₀ → t.exposure ≤ exposureMax) (s : State) :
    Keeps A s₀ s (placeInQueue t s) := by
  unfold placeInQueue
  split
  · next hroom =>
    refine .after (keeps_receiveTray _ _) (keeps_queue ?_ ?_)
    · simpa [queueCapacity] using fun _ => hroom
    · intro h₀ he u hu
      obtain hold | rfl := by simpa using hu
      · exact he.queue u hold
      · exact (classifyTray_exposure _ _).trans_le (ht h₀)
  · exact keeps_refuseTray s

theorem keeps_placeInCell {t : Tray} (ht : ExposureFits s₀ → t.exposure ≤ exposureMax) (s : State) :
    Keeps A s₀ s (placeInCell t s) := by
  unfold placeInCell
  split
  · exact keeps_refuseTray s
  · refine .after (keeps_assignCell _ _) (.after (keeps_receiveTray _ _)
      ((keeps_cells (l := s.tray.cells.set _ (some _)) (by simp) fun h₀ he d hd => ?_).trans (.of_core_eq rfl)))
    obtain hold | hnew := List.mem_or_eq_of_mem_set hd
    · exact he.cells d hold
    · rw [Option.some.inj hnew]
      exact (classifyTray_exposure _ _).trans_le (ht h₀)

theorem keeps_emptyCell (i : Nat) (s : State) : Keeps A s₀ s (emptyCell i s) := by
  unfold emptyCell
  split
  · exact .refl s
  · refine .after (keeps_lotDepart _ _) (keeps_cells (by simp) fun _ he d hd => ?_)
    obtain hold | hnew := List.mem_or_eq_of_mem_set hd
    · exact he.cells d hold
    · simp at hnew

end Sys2Proof.Machine
end

section
/-! The stages of the index event keep the invariants (R9 to R18). -/

namespace Sys2Proof.Machine

variable {A : Part → Bool} {s₀ : State}

/-! ### What a treatment of a row leaves of it -/

/-- A row's lanes and its exposure are as they were. -/
def RowBody.SameShape (b c : RowBody) : Prop := c.pots.length = b.pots.length ∧ c.exposure = b.exposure

theorem RowBody.sameShape_markAll (b : RowBody) (r : Reason) : b.SameShape (b.markAll r) :=
  ⟨by simp [RowBody.markAll], rfl⟩

theorem RowBody.sameShape_classifyRow (lot : Option LotRec) (before : Bool) (b : RowBody) :
    b.SameShape (classifyRow lot before b) := by
  cases lot with
  | none => exact ⟨rfl, rfl⟩
  | some r =>
    simp only [classifyRow]
    split
    · exact RowBody.sameShape_markAll { b with urgency := some (classOf r.allowance b.exposure) } .spent
    · exact ⟨rfl, rfl⟩

theorem RowBody.sameShape_markLane (b : RowBody) (k : Nat) (r : Reason) :
    b.SameShape { b with pots := modifyAt b.pots k (Option.map (fun q => q.mark r)) } :=
  ⟨modifyAt_length _ _ _, rfl⟩

theorem RowBody.sameShape_gated (b : RowBody) : b.SameShape b.gated := ⟨by simp [RowBody.gated], rfl⟩

theorem sensedLanes_length (inputs : BitVec 8) (n : Nat) : (sensedLanes inputs n).length = 8 := by simp [sensedLanes]

/-! ### Rows of the window -/

/-- A row of the window is treated: it keeps a pot entry for each lane, and an exposure in range. -/
theorem keeps_updateRow_of (hA : A .window = true) (p : Nat) (f : RowBody → RowBody) (s : State)
    (hb : Bounded s₀ → Bounded s → ∀ r, s.rowAt p = some r → (f r.body).pots.length = 8)
    (he : ExposureFits s₀ → ExposureFits s → ∀ r, s.rowAt p = some r → (f r.body).exposure ≤ exposureMax) :
    Keeps A s₀ s (updateRow p f s) := by
  refine keeps_window hA (fun _ hw => by rw [hw]; rfl) (fun h₀ h => ⟨?_, fun r hr => ?_⟩) fun h₀ h r hr => ?_
  · rw [modifyAt_length]
    exact h.window
  · obtain hold | ⟨q, hq, rfl⟩ := mem_modifyAt_map hr
    · exact h.rowPots r hold
    · exact hb h₀ h q hq
  · obtain hold | ⟨q, hq, rfl⟩ := mem_modifyAt_map hr
    · exact h.rows r hold
    · exact he h₀ h q hq

theorem keeps_updateRow (hA : A .window = true) (p : Nat) (f : RowBody → RowBody) (s : State)
    (hf : ∀ b : RowBody, b.SameShape (f b)) : Keeps A s₀ s (updateRow p f s) :=
  keeps_updateRow_of hA p f s (fun _ h r hr => (hf r.body).1.trans (h.rowPots r (mem_of_slotAt hr)))
    fun _ h r hr => (hf r.body).2.trans_le (h.rows r (mem_of_slotAt hr))

/-- A row that enters position 0 of a started station has an entry for each lane, and an exposure in range. -/
theorem keeps_enterRow (hA : A .window = true) {b : RowBody} (s : State) (hw : ¬ s.waiting)
    (hb : Bounded s₀ → b.pots.length = 8) (he : ExposureFits s₀ → b.exposure ≤ exposureMax) :
    Keeps A s₀ s (enterRow b s) := by
  refine (keeps_window (w := some { number := s.idx.nextRow, body := b } :: s.idx.window.tail) hA
    (fun h => absurd h hw) (fun h₀ h => ⟨?_, fun r hr => ?_⟩) fun h₀ h r hr => ?_).trans (.of_core_eq rfl)
  · have := h.length
    have := h.window
    simp
    omega
  · obtain rfl | hold := by simpa using hr
    · exact hb h₀
    · exact h.rowPots r (List.mem_of_mem_tail hold)
  · obtain rfl | hold := by simpa using hr
    · exact he h₀
    · exact h.rows r (List.mem_of_mem_tail hold)

/-! ### Exit and advance (R9 to R12) -/

theorem keeps_writeOffRow (b : RowBody) (s : State) : Keeps A s₀ s (writeOffRow b s) :=
  .after (keeps_latch _ _) ((keeps_lotDepart b.lot s).trans (.of_core_eq rfl))

theorem keeps_sendRow (hN : A .nextSeq = true) (b : RowBody) (s : State) : Keeps A s₀ s (sendRow b s) :=
  .after (keeps_lotDepart _ _) (.after (keeps_nextSeq hN) (keeps_pushMain _ s))

theorem keeps_exitStage (hN : A .nextSeq = true) (s : State) : Keeps A s₀ s (exitStage s) := by
  refine Keeps.rebase ?_
  unfold exitStage
  split
  · exact .refl s
  · next r hr =>
    (repeat' split)
    · exact keeps_lotDepart _ s
    · exact keeps_writeOffRow _ s
    · exact keeps_formRow (fun h => h.rows r (mem_of_slotAt hr)) s
    · exact keeps_sendRow hN _ s
    · exact keeps_writeOffRow _ s

theorem keeps_advanceStage (hA : A .window = true) (s : State) (hw : ¬ s.waiting) : Keeps A s₀ s (advanceStage s) := by
  refine keeps_window hA (fun h => absurd h hw) (fun _ h => ⟨?_, fun r hr => ?_⟩) fun _ h r hr => ?_
  · have := h.length
    simp
    omega
  · exact h.rowPots r (List.mem_of_mem_take (by simpa using hr))
  · exact h.rows r (List.mem_of_mem_take (by simpa using hr))

/-! ### Fill (R13 to R16, R33, R34) -/

theorem sensedPots_length (lanes : List Bool) (reasons : BitVec 9) : (sensedPots lanes reasons).length = lanes.length := by
  simp [sensedPots]

theorem pairedRow_exposure (b : RowBody) (lanes : List Bool) : (pairedRow b lanes).exposure = b.exposure := by
  unfold pairedRow
  dsimp only
  split <;> rfl

theorem pairedRow_pots_length {b : RowBody} {lanes : List Bool} (hl : lanes.length = 8) (hb : b.pots.length = 8) :
    (pairedRow b lanes).pots.length = 8 := by
  unfold pairedRow
  dsimp only
  split <;> simp [RowBody.markAll, hl, hb]

section Fill

variable (hA : A .window = true) {lanes : List Bool} (hl : lanes.length = 8) (s : State) (hw : ¬ s.waiting)
include hA hl hw

theorem keeps_createRow : Keeps A s₀ s (createRow lanes s) := by
  have hshape := RowBody.sameShape_classifyRow (openLotRec s) true (filledRow (openLotRec s) lanes)
  have hlot : Keeps A s₀ s (updateNamed (filledRow (openLotRec s) lanes).lot
      (fun r => r.fill (filledRow (openLotRec s) lanes).potCount) (lotArrive (filledRow (openLotRec s) lanes).lot s)) :=
    .after (keeps_updateNamed _ _ _) (keeps_lotArrive _ s)
  exact hlot.trans (keeps_enterRow hA _ (by simpa [State.waiting, State.mode] using hw)
    (fun _ => hshape.1.trans ((sensedPots_length _ _).trans hl)) fun _ => hshape.2.trans_le (Nat.zero_le _))

theorem keeps_pairRow (hE : A .expected = true) : Keeps A s₀ s (pairRow lanes s) := by
  refine Keeps.rebase ?_
  unfold pairRow
  split
  · have hstray : Keeps A s s (strayAdvance { s with hnd.stray := bump s.hnd.stray (strayRow lanes).potCount }) :=
      .after (keeps_strayAdvance hE _) (.of_core_eq rfl)
    exact hstray.trans (keeps_enterRow hA _ (by simpa [State.waiting, State.mode] using hw)
      (fun _ => (sensedPots_length _ _).trans hl) fun _ => Nat.zero_le _)
  · next e rest he =>
    have hmem : e ∈ s.hnd.rowArrivals := by simp [he]
    dsimp only
    have htaken : Keeps A s s (updateNamed (pairedRow e.body lanes).lot
        (fun r => { r with potsReceived := bump r.potsReceived (pairedRow e.body lanes).potCount })
        { s with
          hnd.rowArrivals := rest
          hnd.missing := bump s.hnd.missing (missingPots e.body.pots lanes)
          hnd.stray := bump s.hnd.stray (strayPots e.body.pots lanes) }) :=
      .after (keeps_updateNamed _ _ _) ((keeps_rowArrivals (l := rest)
        (fun _ h => ⟨by have := h.rowArrivals; simp [he] at this; omega, fun x hx => h.entryPots x (by simp [he, hx])⟩)
        fun _ h x hx => h.rowEntries x (by simp [he, hx])).trans (.of_core_eq rfl))
    refine htaken.trans (keeps_enterRow hA _ (by simpa [State.waiting, State.mode] using hw) (fun h => ?_) fun h => ?_)
    · exact (RowBody.sameShape_classifyRow _ _ _).1.trans (pairedRow_pots_length hl (h.entryPots e hmem))
    · exact (RowBody.sameShape_classifyRow _ _ _).2.trans_le ((pairedRow_exposure _ _).trans_le (h.rowEntries e hmem))

end Fill

theorem keeps_fillStage (hA : A .window = true) (hE : A .expected = true) (presence : BitVec 8) (s : State)
    (hw : ¬ s.waiting) : Keeps A s₀ s (fillStage presence s) := by
  unfold fillStage
  dsimp only
  (repeat' split)
  · exact .refl s
  · exact .of_core_eq rfl
  · exact keeps_createRow hA (sensedLanes_length _ _) s hw
  · exact keeps_pairRow hA (sensedLanes_length _ _) s hw hE

theorem not_waiting_of_keeps {s t : State} (h : Keeps A s₀ s t) (hw : ¬ s.waiting) : ¬ t.waiting := mt h.waiting hw

/-! ### The lid position (R65 to R69) -/

section Lids

variable (hL : A .lids = true)
include hL

theorem keeps_splice (s : State) : Keeps A s₀ s (splice s) :=
  .after (keeps_latch _ _) (keeps_lid hL (fun h => h) fun h => ⟨h.2, fun _ hr => by simp at hr⟩)

theorem keeps_useLid {r : Reel} {s : State} (hr : s.lid.active = some r) : Keeps A s₀ s (useLid r s) := by
  have happlied : Keeps A s₀ s { s with lid.applied := bump s.lid.applied 1 } := keeps_lid hL (fun h => h) fun h => h
  unfold useLid
  dsimp only
  split
  · exact happlied.trans (keeps_splice hL _)
  · next hlids =>
    refine happlied.trans (keeps_lid hL (fun h => h) fun h => ⟨fun q hq => ?_, h.2⟩)
    have := h.1 r hr
    obtain rfl := Option.some.inj hq
    simp
    omega

variable (hA : A .flow = true)
include hA

theorem keeps_reelMismatch (s : State) : Keeps A s₀ s (reelMismatch s) :=
  .after (keeps_latch _ _) (.after (keeps_addCause hA _ _) (keeps_lid hL (fun h => h) fun h => h))

omit hL in
theorem keeps_reelsOut (s : State) : Keeps A s₀ s (reelsOut s) :=
  .after (keeps_latch _ _) (keeps_addCause hA _ s)

theorem keeps_lidPots (l : LotRec) (pots : List (Option Pot)) (s : State) : Keeps A s₀ s (lidPots l pots s).2 := by
  induction pots generalizing s with
  | nil => exact .refl s
  | cons o rest ih =>
    cases o with
    | none => exact ih s
    | some p =>
      unfold lidPots
      split
      · exact ih s
      · split
        · exact keeps_reelsOut hA s
        · next r hr =>
          split
          · exact .after (ih _) (keeps_useLid hL hr)
          · exact keeps_reelMismatch hL hA s

omit hL hA in
theorem lidPots_length (l : LotRec) (pots : List (Option Pot)) (s : State) :
    (lidPots l pots s).1.length = pots.length := by
  induction pots generalizing s with
  | nil => rfl
  | cons o rest ih =>
    cases o with
    | none => exact congrArg Nat.succ (ih s)
    | some p =>
      unfold lidPots
      split
      · exact congrArg Nat.succ (ih s)
      · split
        · simp
        · split
          · exact congrArg Nat.succ (ih _)
          · simp

omit hL hA in
theorem lidPots_idx (l : LotRec) (pots : List (Option Pot)) (s : State) : (lidPots l pots s).2.idx = s.idx := by
  induction pots generalizing s with
  | nil => rfl
  | cons o rest ih =>
    cases o with
    | none => exact ih s
    | some p =>
      have huse (r : Reel) : (useLid r s).idx = s.idx := by unfold useLid; dsimp only; split <;> rfl
      unfold lidPots
      split
      · exact ih s
      · split
        · simp [reelsOut]
        · split
          · exact (ih _).trans (huse _)
          · simp [reelMismatch]

variable (hW : A .window = true)
include hW

theorem keeps_checkReel {p : Nat} {r : Row} (l : LotRec) {s : State} (hr : s.rowAt p = some r) :
    Keeps A s₀ s (checkReel p r.body l s) := by
  unfold checkReel
  split
  · exact .refl s
  · split
    · have hidx := lidPots_idx l r.body.pots s
      have hrow (q : Row) (hq : (lidPots l r.body.pots s).2.rowAt p = some q) : q = r := by
        rw [State.rowAt, hidx, ← State.rowAt, hr] at hq
        exact (Option.some.inj hq).symm
      refine .after (keeps_updateRow_of hW p _ _ (fun _ h q hq => ?_) fun _ h q hq => ?_) (keeps_lidPots hL hA l _ s)
      · exact (lidPots_length _ _ _).trans (hrow q hq ▸ h.rowPots q (mem_of_slotAt hq))
      · exact h.rows q (mem_of_slotAt hq)
    · exact .after (keeps_reelMismatch hL hA _)
        (keeps_updateRow hW p _ s fun b => RowBody.sameShape_markAll b _)

theorem keeps_lidStage (s : State) : Keeps A s₀ s (lidStage s) := by
  unfold lidStage
  dsimp only
  split
  · exact .refl s
  · next r hr =>
    split
    · exact .refl s
    · split
      · exact .refl s
      · split
        · exact .after (keeps_reelsOut hA _) (keeps_updateRow hW _ _ s fun b => ⟨by simp, rfl⟩)
        · split
          · exact .after (keeps_checkReel hL hA hW _ hr) (keeps_splice hL s)
          · exact keeps_checkReel hL hA hW _ hr

/-! ### The bond position and the gate (R17, R18, R71, R72) -/

omit hW in
theorem keeps_tripLane (k : Nat) (s : State) : Keeps A s₀ s (tripLane k s) :=
  .after (keeps_addCause hA _ _) (.after (keeps_latch _ _) (keeps_lid hL (fun h => by simpa using h) fun h => h))

theorem keeps_bondLane (p k : Nat) (pass : Bool) (s : State) : Keeps A s₀ s (bondLane p k pass s) := by
  unfold bondLane
  split
  · exact keeps_lid hL (fun h => by simpa using h) fun h => h
  · have hfailed (n : Nat) : Keeps A s₀ s
        { updateRow p (fun b => { b with pots := modifyAt b.pots k (Option.map (fun q => q.mark .bond)) }) s with
          lid.bondFailures := bump s.lid.bondFailures 1, lid.fails := s.lid.fails.set k n } :=
      (keeps_updateRow hW p _ s fun b => RowBody.sameShape_markLane b k .bond).trans
        (keeps_lid hL (fun h => by simpa using h) fun h => h)
    dsimp only
    split
    · exact (hfailed _).trans (keeps_tripLane hL hA k _)
    · exact hfailed _

theorem keeps_bondLanes (p : Nat) (passes : BitVec 8) (ks : List Nat) (s : State) :
    Keeps A s₀ s (bondLanes p passes ks s) := by
  induction ks generalizing s with
  | nil => exact .refl s
  | cons k ks ih =>
    unfold bondLanes
    dsimp only
    split
    · exact (keeps_bondLane hL hA hW p k _ s).trans (ih _)
    · exact ih s

end Lids

theorem keeps_countRejects (lot : Option Nat) (n : Nat) (s : State) : Keeps A s₀ s (countRejects lot n s) := by
  cases lot with
  | none => exact .of_core_eq rfl
  | some id => exact keeps_updateLot id _ s

theorem keeps_gateStage (hW : A .window = true) (s : State) : Keeps A s₀ s (gateStage s) := by
  unfold gateStage
  split
  · exact .refl s
  · next r hr =>
    exact .after (keeps_countRejects _ _ _) (.after (keeps_updateRow hW _ _ _ RowBody.sameShape_gated)
      (keeps_pulses fun _ h => by simp [gatePulses, h.pulses, h.rowPots r (mem_of_slotAt hr)]))

/-! ### The index event and the TRACK-FAULT (R4, R9) -/

/-- What an index event may move. -/
structure AllowsIndex (A : Part → Bool) : Prop where
  window : A .window = true
  lids : A .lids = true
  expected : A .expected = true
  nextSeq : A .nextSeq = true
  flow : A .flow = true

theorem keeps_treatStage (hL : A .lids = true) (hA : A .flow = true) (hW : A .window = true) (passes : BitVec 8)
    (s : State) : Keeps A s₀ s (treatStage passes s) := by
  unfold treatStage
  split
  · exact .after (keeps_gateStage hW _) (.after (keeps_bondLanes hL hA hW _ _ _ _) (keeps_lidStage hL hA hW s))
  · exact keeps_gateStage hW s

theorem keeps_fillWindow (hA : AllowsIndex A) (presence : BitVec 8) (s : State) (hw : ¬ s.waiting) :
    Keeps A s₀ s (fillWindow presence s) := by
  have hexit : Keeps A s₀ s (exitStage s) := keeps_exitStage hA.nextSeq s
  have hadvance : Keeps A s₀ s (advanceStage (exitStage s)) :=
    hexit.trans (keeps_advanceStage hA.window _ (not_waiting_of_keeps hexit hw))
  exact .after (keeps_settleSince hA.flow _ _)
    (hadvance.trans (keeps_fillStage hA.window hA.expected presence _ (not_waiting_of_keeps hadvance hw)))

theorem keeps_indexEvent (hA : AllowsIndex A) (presence passes : BitVec 8) (s : State) (hw : ¬ s.waiting) :
    Keeps A s₀ s (indexEvent presence passes s) :=
  .after (keeps_settleFlow hA.flow _) (.after (keeps_closeOnDrain _)
    (.after (keeps_treatStage hA.lids hA.flow hA.window passes _) (keeps_fillWindow hA presence s hw)))

/-- A row after a TRACK-FAULT is one that stood before it, of the same shape. -/
theorem mem_trackRows {gate : Nat} {w : List (Option Row)} {r : Row} (h : some r ∈ trackRows gate w) :
    ∃ q, some q ∈ w ∧ q.body.SameShape r.body := by
  obtain ⟨i, hi, heq⟩ := List.mem_mapIdx.1 h
  obtain ⟨q, hq, rfl⟩ := Option.map_eq_some_iff.1 heq
  refine ⟨q, hq ▸ List.getElem_mem hi, ?_⟩
  by_cases hp : i < gate <;> simp [hp, RowBody.SameShape, RowBody.markAll]

theorem keeps_trackFault (hW : A .window = true) (hA : A .flow = true) (s : State) (hw : ¬ s.waiting) :
    Keeps A s₀ s (trackFault s) := by
  have hrows : Keeps A s₀ s { s with idx.window := trackRows s.gatePos s.idx.window, idx.debt := 0 } := by
    refine (keeps_window (w := trackRows s.gatePos s.idx.window) hW (fun h => absurd h hw)
      (fun _ h => ⟨by simpa [trackRows] using h.window, fun r hr => ?_⟩) fun _ h r hr => ?_).trans
        (keeps_counts (p := s.idx.posCount) (d := 0) hw fun h => ⟨h.position, Nat.zero_le _⟩)
    · obtain ⟨q, hq, hlen, -⟩ := mem_trackRows hr
      exact hlen.trans (h.rowPots q hq)
    · obtain ⟨q, hq, -, hexp⟩ := mem_trackRows hr
      exact hexp.trans_le (h.rows q hq)
  unfold trackFault
  dsimp only
  split
  · exact hrows
  · exact .after (keeps_latch _ _) (hrows.trans (keeps_addCause hA _ _))

end Sys2Proof.Machine
end

section
/-! The settings stay in their ranges: an image, a WRITE-SETTING and START (R1, R25, R164, R165). -/

namespace Sys2Proof.Machine

variable {A : Part → Bool} {s₀ : State}

/-! ### What a setting takes of a value (R165) -/

theorem clampInt_holds {lo hi : Int} (h : lo ≤ hi) (v : Int) : (Range.span lo hi).holds (clampInt lo hi v) := by
  show lo ≤ clampInt lo hi v ∧ clampInt lo hi v ≤ hi
  unfold clampInt
  split
  · omega
  · split <;> omega

/-- Only the named positions have a range that the window length moves (R1). -/
theorem settingRange_of_not_position {n : Nat} (h : n ≠ 9 ∧ n ≠ 10 ∧ n ≠ 11) (length : Int) :
    settingRange length n = settingRange 64 n := by
  unfold settingRange
  split <;> simp_all

theorem settingRange_of_large {n : Nat} (h : 54 < n) (length : Int) : settingRange length n = none := by
  unfold settingRange
  split
  case h_36 => exact if_neg (Nat.not_le.2 h)
  all_goals omega

/-- Only the 54 settings have a range. -/
theorem number_of_settingRange {length : Int} {n : Nat} {r : Range} (h : settingRange length n = some r) : 1 ≤ n ∧ n ≤ 54 := by
  refine ⟨Nat.one_le_iff_ne_zero.2 ?_, Nat.not_lt.1 fun hn => ?_⟩
  · rintro rfl
    cases h
  · rw [settingRange_of_large hn] at h
    cases h

theorem settingRange_span {n : Nat} {lo hi : Int} (h : settingRange 64 n = some (.span lo hi)) : lo ≤ hi := by
  obtain ⟨h1, h54⟩ := number_of_settingRange h
  interval_cases n <;> cases h <;> decide

/-- A value settled within a window length of 8 to 64 lies in the setting's range. -/
theorem settleSetting_holds {length : Int} (hlen : 8 ≤ length ∧ length ≤ 64) {n : Nat} {v w : Int} {moved : Bool}
    (h : settleSetting length n v = some (w, moved)) {r : Range} (hr : settingRange 64 n = some r) : r.holds w := by
  by_cases hn : n ≠ 9 ∧ n ≠ 10 ∧ n ≠ 11
  · rw [settleSetting, settingRange_of_not_position hn, hr] at h
    cases r with
    | span lo hi =>
      obtain ⟨rfl, -⟩ := Prod.mk.inj (Option.some.inj h)
      exact clampInt_holds (settingRange_span hr) v
    | oneOf codes =>
      simp only at h
      split at h
      · next hv =>
        obtain ⟨rfl, -⟩ := Prod.mk.inj (Option.some.inj h)
        simpa [Range.holds] using hv
      · cases h
    | marks =>
      obtain ⟨rfl, -⟩ := Prod.mk.inj (Option.some.inj h)
      exact ⟨Int.emod_nonneg _ (by decide), Int.emod_lt_of_pos _ (by decide)⟩
  · have hpos (m : Nat) (hm : m = 9 ∨ m = 10 ∨ m = 11) (x : Int) : settingRange x m = some (.span 1 (x - 1)) := by
      rcases hm with rfl | rfl | rfl <;> rfl
    have hn' : n = 9 ∨ n = 10 ∨ n = 11 := by omega
    rw [settleSetting, hpos n hn'] at h
    rw [hpos n hn'] at hr
    obtain ⟨rfl, -⟩ := Prod.mk.inj (Option.some.inj h)
    obtain rfl := Option.some.inj hr
    have := clampInt_holds (lo := 1) (hi := length - 1) (by omega) v
    simp only [Range.holds] at this ⊢
    omega

theorem settingDefault_holds {n : Nat} {r : Range} (hr : settingRange 64 n = some r) : r.holds (settingDefault n) := by
  obtain ⟨h1, h54⟩ := number_of_settingRange hr
  interval_cases n <;> cases hr <;> simp [Range.holds, settingDefault, filterRange]

/-- A list of all settings, each in its range. -/
def SettingsOk (l : List Int) : Prop :=
  l.length = settingCount ∧ ∀ n r, settingRange 64 n = some r → r.holds (l.getD (n - 1) 0)


/-! ### The settings of an image and the factory defaults (R164) -/

theorem imageSetting_holds (ws : List Half) {length : Int} (hlen : 8 ≤ length ∧ length ≤ 64) {n : Nat} {r : Range}
    (hr : settingRange 64 n = some r) : r.holds (imageSetting ws length n) := by
  unfold imageSetting
  split
  · next h => exact settleSetting_holds hlen h hr
  · exact settingDefault_holds hr

theorem getD_map_range {f : Nat → Int} {k i : Nat} (hi : i < k) : ((List.range k).map f).getD i 0 = f i := by
  simp [List.getD, hi]

/-- The window length an image gives is in its range, whatever bounds the positions. -/
theorem imageSetting_six (ws : List Half) : 8 ≤ imageSetting ws 0 6 ∧ imageSetting ws 0 6 ≤ 64 :=
  imageSetting_holds ws (length := 64) (by decide) (n := 6) rfl

theorem settingsOk_imageSettings (ws : List Half) : SettingsOk (imageSettings ws) := by
  refine ⟨by simp [imageSettings], fun n r hr => ?_⟩
  obtain ⟨h1, h54⟩ := number_of_settingRange hr
  rw [imageSettings, getD_map_range (by simp only [settingCount]; omega), Nat.sub_add_cancel h1]
  exact imageSetting_holds ws (imageSetting_six ws) hr

theorem settingsOk_default : SettingsOk defaultSettings := by
  refine ⟨by simp [defaultSettings], fun n r hr => ?_⟩
  obtain ⟨h1, h54⟩ := number_of_settingRange hr
  rw [defaultSettings, getD_map_range (by simp only [settingCount]; omega), Nat.sub_add_cancel h1]
  exact settingDefault_holds hr

/-! ### A change of the settings before START -/

/-- New settings, with the attention line, the credit slot and the held limit as they follow from them, in a station that has
not been started. -/
theorem keeps_settings {l : List Int} {a : Bool} {o : Option Frame} {c : Option HeldLimit} {s : State}
    (hA : A .settings = true) (hw : s.waiting)
    (hlength : 8 ≤ s.windowLength ∧ s.windowLength ≤ 64 → 8 ≤ (l.getD 5 0).toNat ∧ (l.getD 5 0).toNat ≤ 64)
    (hcounts : 16 ≤ s.countsPerIndex ∧ s.countsPerIndex ≤ 4095 → 16 ≤ (l.getD 6 0).toNat ∧ (l.getD 6 0).toNat ≤ 4095)
    (hattention : AttentionFits s → a = attentionOf s.stc.latched (BitVec.ofInt 32 (l.getD 2 0)))
    (hok : SettingsFit s → SettingsOk l)
    (hcredit : CreditFits s →
      CreditFits { s with stc.settings := l, out.attention := a, lnk.creditSlot := o, hnd.held := c }) :
    Keeps A s₀ s { s with stc.settings := l, out.attention := a, lnk.creditSlot := o, hnd.held := c } where
  bounded _ h := { h with
    length := hlength h.length
    window := by rw [show s.idx.window = [] from h.waiting hw]; exact Nat.zero_le _ }
  attention := hattention
  settings h := {
    count := (hok h).1
    ranges := (hok h).2
    positions := fun hm => by rcases hw with hw | hw <;> simp [State.mode] at hw hm <;> simp [hw, Mode.started] at hm
    order := fun hm => by rcases hw with hw | hw <;> simp [State.mode] at hw hm <;> simp [hw, Mode.started] at hm }
  counts h := {
    perIndex := hcounts h.perIndex
    position := by
      rw [show s.idx.posCount = 0 from (h.waiting hw).1]
      exact Nat.lt_of_lt_of_le (by decide) (hcounts h.perIndex).1
    debt := by rw [show s.idx.debt = 0 from (h.waiting hw).2]; exact Nat.zero_le _
    waiting := h.waiting }
  credit := hcredit

end Sys2Proof.Machine
end

section
/-! The load, WRITE-SETTING and START keep the invariants (R164, R165, R166). -/

namespace Sys2Proof.Machine

variable {A : Part → Bool} {s₀ : State}

/-! ### The load (R164) -/

theorem windowLength_of_settingsOk {l : List Int} (h : SettingsOk l) : 8 ≤ (l.getD 5 0).toNat ∧ (l.getD 5 0).toNat ≤ 64 := by
  have : 8 ≤ l.getD 5 0 ∧ l.getD 5 0 ≤ 64 := h.2 6 _ rfl
  omega

theorem countsPerIndex_of_settingsOk {l : List Int} (h : SettingsOk l) :
    16 ≤ (l.getD 6 0).toNat ∧ (l.getD 6 0).toNat ≤ 4095 := by
  have : 16 ≤ l.getD 6 0 ∧ l.getD 6 0 ≤ 4095 := h.2 7 _ rfl
  omega

/-- In STARTING no credit is held and no CREDIT waits, so new settings leave the credit fitting. -/
theorem creditFits_of_starting {s t : State} (hm : s.mode = .starting) (hheld : t.hnd.held = s.hnd.held)
    (hslot : t.lnk.creditSlot = s.lnk.creditSlot) (h : CreditFits s) : CreditFits t where
  held _ := hheld.trans (h.held (.inr hm))
  waiting f hf := absurd hm (h.waiting f (hslot ▸ hf)).1

/-- The store is filled in STARTING, with the attention line worked out from the new mask. -/
theorem keeps_fillStore {l : List Int} {ps : List (Option Product)} {ts : List Transition} {ls : List Lane} {s : State}
    (hA : A .settings = true) (hT : A .tables = true) (hR : A .rooms = true) (hm : s.mode = .starting)
    (hl : SettingsOk l) (hps : ps.length = 32) (hts : ts.length = 64) (hls : ls.length = 8) :
    Keeps A s₀ s (updateAttention
      { s with stc.settings := l, stc.products := ps, stc.transitions := ts, adm.lanes := ls }) :=
  (keeps_settings (l := l) (a := attentionOf s.stc.latched (BitVec.ofInt 32 (l.getD 2 0))) (o := s.lnk.creditSlot)
    (c := s.hnd.held) hA (.inl hm) (fun _ => windowLength_of_settingsOk hl) (fun _ => countsPerIndex_of_settingsOk hl)
    (fun _ => rfl) (fun _ => hl) (creditFits_of_starting hm rfl rfl)).trans
      ((keeps_tables (ps := ps) (ts := ts) hT (fun _ => hps) fun _ => hts).trans (keeps_lanes hR fun _ => hls))

theorem keeps_takeImage (hA : A .settings = true) (hT : A .tables = true) (hR : A .rooms = true) (ws : List Half)
    {s : State} (hm : s.mode = .starting) : Keeps A s₀ s (updateAttention (takeImage ws s)) :=
  keeps_fillStore hA hT hR hm (settingsOk_imageSettings ws) (by simp) (by simp) (by simp)

theorem keeps_takeDefaults (hA : A .settings = true) (hT : A .tables = true) (hR : A .rooms = true)
    {s : State} (hm : s.mode = .starting) : Keeps A s₀ s (takeDefaults s) :=
  (keeps_fillStore hA hT hR hm settingsOk_default (by simp [defaultProducts]) (by simp [defaultTransitions])
    (by simp [defaultLanes])).trans (keeps_latch .settingsBad _)

/-- STARTING becomes CONFIGURING. -/
theorem keeps_configure (hA : A .flow = true) {s : State} (hm : s.mode = .starting) :
    Keeps A s₀ s { s with stc.mode := .configuring } where
  bounded _ h := { h with waiting := fun _ => h.waiting (.inl hm) }
  causes _ := ⟨fun h => by simp [State.mode] at h, fun h => by simp [State.mode] at h⟩
  settings h := { h with
    positions := fun h => by simp [State.mode, Mode.started] at h
    order := fun h => by simp [State.mode, Mode.started] at h }
  counts h := { h with waiting := fun _ => h.waiting (.inl hm) }
  credit h := creditFits_of_starting hm rfl rfl h
  waiting _ := .inl hm

theorem keeps_resum (s : State) : Keeps A s₀ s (resum s) := .of_core_eq rfl

theorem keeps_completeLoad (hA : A .settings = true) (hT : A .tables = true) (hR : A .rooms = true)
    (hP : A .probe = true) (hF : A .flow = true) (ws : List Half) {s : State} (hm : s.mode = .starting) :
    Keeps A s₀ s (completeLoad ws s) := by
  have hstore : Keeps A s₀ s (updateAttention (resum (if imageGood ws then takeImage ws s else takeDefaults s))) := by
    split
    · exact (keeps_takeImage hA hT hR ws hm).trans (.of_core_eq rfl)
    · exact (keeps_takeDefaults hA hT hR hm).trans ((keeps_resum _).trans (keeps_updateAttention _))
  have hmode : (updateAttention (resum (if imageGood ws then takeImage ws s else takeDefaults s))).mode = .starting := by
    split
    · simpa [State.mode, takeImage, resum] using hm
    · simpa [State.mode, takeDefaults, resum] using hm
  unfold completeLoad
  dsimp only
  generalize updateAttention (resum (if imageGood ws then takeImage ws s else takeDefaults s)) = u at hstore hmode
  have hconfigured : Keeps A s₀ s (enterMode .configuring u) :=
    (hstore.trans (keeps_configure hF hmode)).trans (keeps_placeState _ _)
  generalize enterMode .configuring u = v at hconfigured
  exact hconfigured.trans ((keeps_exp (x := { v.exp with missAt := some (s.nowMs + 250) }) hP).trans (.of_core_eq rfl))

/-! ### WRITE-SETTING (R165) -/

theorem getD_set (l : List Int) (i j : Nat) (v : Int) :
    (l.set i v).getD j 0 = if i = j ∧ j < l.length then v else l.getD j 0 := by
  by_cases hij : i = j
  · subst hij
    by_cases hi : i < l.length <;> simp [List.getD, hi]
  · simp [List.getD, hij]

theorem settleSetting_of_not_position {n : Nat} (h : n ≠ 9 ∧ n ≠ 10 ∧ n ≠ 11) (length v : Int) :
    settleSetting length n v = settleSetting 64 n v := by
  rw [settleSetting, settleSetting, settingRange_of_not_position h]

theorem settingRange_isSome_of_settleSetting {length : Int} {n : Nat} {v : Int} {x : Int × Bool}
    (h : settleSetting length n v = some x) : ∃ r, settingRange length n = some r := by
  unfold settleSetting at h
  split at h
  · cases h
  all_goals exact ⟨_, ‹_›⟩

theorem settingsOk_set {s : State} {n : Nat} {v w : Int} {moved : Bool}
    (h : settleSetting (s.setting 6) n v = some (w, moved)) (hs : SettingsFit s) :
    SettingsOk (s.stc.settings.set (n - 1) w) := by
  obtain ⟨r₀, hr₀⟩ := settingRange_isSome_of_settleSetting h
  obtain ⟨h1, -⟩ := number_of_settingRange hr₀
  refine ⟨by rw [List.length_set]; exact hs.count, fun m r hr => ?_⟩
  obtain ⟨hm1, -⟩ := number_of_settingRange hr
  rw [getD_set]
  split
  · next hmn =>
    obtain rfl : m = n := by omega
    exact settleSetting_holds (hs.ranges 6 _ rfl) h hr
  · exact hs.ranges m r hr

/-- A numeric setting that does not depend on the window length stays in its range when it is written. -/
theorem range_set {s : State} {n m : Nat} {v w lo hi : Int} {moved : Bool}
    (h : settleSetting (s.setting 6) n v = some (w, moved)) (hm : settingRange 64 m = some (.span lo hi))
    (hp : m ≠ 9 ∧ m ≠ 10 ∧ m ≠ 11) (hs : lo ≤ (s.num m : Int) ∧ (s.num m : Int) ≤ hi) :
    lo ≤ ((s.stc.settings.set (n - 1) w).getD (m - 1) 0).toNat ∧
      (((s.stc.settings.set (n - 1) w).getD (m - 1) 0).toNat : Int) ≤ hi := by
  obtain ⟨r₀, hr₀⟩ := settingRange_isSome_of_settleSetting h
  obtain ⟨h1, -⟩ := number_of_settingRange hr₀
  obtain ⟨hm1, -⟩ := number_of_settingRange hm
  rw [getD_set]
  split
  · next hmn =>
    obtain rfl : m = n := by omega
    rw [settleSetting_of_not_position hp] at h
    have hw := settleSetting_holds (by decide) h hm
    simp only [Range.holds] at hw
    omega
  · exact hs

theorem length_storeSetting {s : State} {n : Nat} {v w : Int} {moved : Bool}
    (h : settleSetting (s.setting 6) n v = some (w, moved)) (hs : 8 ≤ s.windowLength ∧ s.windowLength ≤ 64) :
    8 ≤ ((s.stc.settings.set (n - 1) w).getD 5 0).toNat ∧ ((s.stc.settings.set (n - 1) w).getD 5 0).toNat ≤ 64 := by
  have hnum : (8 : Int) ≤ (s.num 6 : Int) ∧ (s.num 6 : Int) ≤ 64 := by exact_mod_cast hs
  exact_mod_cast range_set (m := 6) h rfl (by decide) hnum

theorem counts_storeSetting {s : State} {n : Nat} {v w : Int} {moved : Bool}
    (h : settleSetting (s.setting 6) n v = some (w, moved)) (hs : 16 ≤ s.countsPerIndex ∧ s.countsPerIndex ≤ 4095) :
    16 ≤ ((s.stc.settings.set (n - 1) w).getD 6 0).toNat ∧ ((s.stc.settings.set (n - 1) w).getD 6 0).toNat ≤ 4095 := by
  have hnum : (16 : Int) ≤ (s.num 7 : Int) ∧ (s.num 7 : Int) ≤ 4095 := by exact_mod_cast hs
  exact_mod_cast range_set (m := 7) h rfl (by decide) hnum

/-- Outside STARTING the credit fits where both of its parts follow the neighbours. -/
theorem creditFits_of_neighbours {t : State} (hm : t.mode ≠ .starting) (hheld : t.downstream = 0 → t.hnd.held = none)
    (hslot : ∀ f, t.lnk.creditSlot = some f → t.upstream ≠ 0 ∧ f.target = t.upstream) : CreditFits t where
  held h := h.elim hheld fun h => absurd h hm
  waiting f hf := ⟨hm, hslot f hf⟩

/-- Nothing but the credit slot and what is on the bus follows a change of the upstream neighbour. -/
theorem aimCredit_eq (s : State) :
    aimCredit s = { s with lnk.creditSlot := (aimCredit s).lnk.creditSlot, lnk.onBus := (aimCredit s).lnk.onBus } := by
  unfold aimCredit; (repeat' split) <;> rfl

theorem aimCredit_waiting {s : State} {f : Frame} (h : (aimCredit s).lnk.creditSlot = some f) :
    s.upstream ≠ 0 ∧ f.target = s.upstream := by
  rw [aimCredit_creditSlot] at h
  split at h
  · cases h
  · next hup =>
    obtain ⟨g, -, rfl⟩ := Option.map_eq_some_iff.mp h
    exact ⟨hup, rfl⟩

theorem keeps_forgetPeers (hP : A .peers = true) (s : State) : Keeps A s₀ s (forgetPeers s) :=
  keeps_peers hP fun _ => List.length_replicate

theorem closes_of_no_open {k : Nat} {o : Option Nat} (h : k ≤ if o.isSome then 1 else 2) :
    k ≤ if (none : Option Nat).isSome then 1 else 2 :=
  h.trans (by split <;> simp)

theorem keeps_changeRole (hP : A .peers = true) (s : State) : Keeps A s₀ s (changeRole s) := by
  refine .after (keeps_forgetPeers hP _) ?_
  have hlots : Keeps A s₀ s { s with lot.table := List.replicate 16 none } := keeps_lotTable fun _ => List.length_replicate
  have hopen := hlots.trans (keeps_closes (o := none) (l := s.lot.pendingCloses) closes_of_no_open)
  exact hopen.trans (keeps_manifests (l := List.replicate 32 none) fun _ => List.length_replicate)

theorem setting_setSetting {s : State} {n m : Nat} {v : Int} (h : n ≠ m) (h1 : 1 ≤ n) (h2 : 1 ≤ m) :
    (setSetting n v s).setting m = s.setting m := by
  have : n - 1 ≠ m - 1 := by omega
  simp [State.setting, setSetting, this]

theorem keeps_storeSetting (hA : A .settings = true) (hP : A .peers = true) {s : State} {n : Nat} {v w : Int} {moved : Bool}
    (hm : s.mode = .configuring) (h : settleSetting (s.setting 6) n v = some (w, moved)) :
    Keeps A s₀ s (storeSetting n w s) := by
  obtain ⟨r, hr⟩ := settingRange_isSome_of_settleSetting h
  obtain ⟨h1, -⟩ := number_of_settingRange hr
  have hstarted : s.mode ≠ .starting := by simp [hm]
  have hstored (o : Option Frame) (c : Option HeldLimit)
      (hcredit : CreditFits s → CreditFits
        { setSetting n w s with
          out.attention := attentionOf s.stc.latched (setSetting n w s).noticeMask, lnk.creditSlot := o, hnd.held := c }) :
      Keeps A s₀ s
        { setSetting n w s with
          out.attention := attentionOf s.stc.latched (setSetting n w s).noticeMask, lnk.creditSlot := o, hnd.held := c } :=
    keeps_settings hA (.inr hm) (length_storeSetting h)
      (counts_storeSetting h) (fun _ => rfl)
      (settingsOk_set h) hcredit
  have hneighbour (m : Nat) (hne : n ≠ m) (hm1 : 1 ≤ m) : (setSetting n w s).num m = s.num m :=
    congrArg Int.toNat (setting_setSetting hne h1 hm1)
  have hheld (hc : CreditFits s) (hne : n ≠ 13) (hd : (setSetting n w s).downstream = 0) : s.hnd.held = none :=
    hc.held (.inl ((hneighbour 13 hne (by decide)).symm.trans hd))
  have hslot (hc : CreditFits s) (hne : n ≠ 12) (f : Frame) (hf : s.lnk.creditSlot = some f) :
      (setSetting n w s).upstream ≠ 0 ∧ f.target = (setSetting n w s).upstream := by
    rw [show (setSetting n w s).upstream = s.upstream from hneighbour 12 hne (by decide)]
    exact (hc.waiting f hf).2
  unfold storeSetting
  dsimp only
  split
  · next hrole =>
    obtain rfl : n = 1 := by simpa using (Bool.and_eq_true_iff.mp hrole).1
    exact ((hstored s.lnk.creditSlot s.hnd.held fun hc => creditFits_of_neighbours hstarted (hheld hc (by decide))
      (hslot hc (by decide))).trans (keeps_changeRole hP _)).trans (.of_core_eq rfl)
  · split
    · next hup =>
      subst hup
      have hwait := fun f => aimCredit_waiting (s := resum (setSetting 12 w s)) (f := f)
      rw [aimCredit_eq]
      generalize (aimCredit (resum (setSetting 12 w s))).lnk.creditSlot = o at hwait ⊢
      generalize (aimCredit (resum (setSetting 12 w s))).lnk.onBus = b
      exact (hstored o s.hnd.held fun hc => creditFits_of_neighbours hstarted
        (hheld hc (by decide)) hwait).trans (.of_core_eq rfl)
    · split
      · next hdown =>
        subst hdown
        rw [dropCredit_eq]
        exact (hstored s.lnk.creditSlot _ fun hc => creditFits_of_neighbours hstarted (fun hd => if_pos hd)
          (hslot hc (by decide))).trans (.of_core_eq rfl)
      · next hup hdown =>
        exact (hstored s.lnk.creditSlot s.hnd.held fun hc => creditFits_of_neighbours hstarted (hheld hc hdown)
          (hslot hc hup)).trans (.of_core_eq rfl)

end Sys2Proof.Machine
end

section
/-! START and the link's transmit side keep the invariants (R157 to R159, R166). -/

namespace Sys2Proof.Machine

variable {A : Part → Bool} {s₀ : State}

/-! ### START (R1, R25, R166) -/

/-- The settings as START settles them (R1, R25). -/
def settledSettings (s : State) : List Int :=
  let p := settledPositions (s.role = .lidder) (s.setting 6) (s.setting 9) (s.setting 10) (s.setting 11)
  ((((s.stc.settings.set 8 p.1).set 9 p.2.1).set 10 p.2.2).set 11 (settledNeighbour (s.setting 2) (s.setting 12))).set 12
    (settledNeighbour (s.setting 2) (s.setting 13))

/-- START's settling as one update (R1, R25). -/
theorem settleStart_eq (s : State) :
    settleStart s = aimCredit (dropCredit { s with stc.settings := settledSettings s }) := rfl

theorem settleStart_settings (s : State) : (settleStart s).stc.settings = settledSettings s := by
  rw [settleStart_eq, aimCredit_stc, dropCredit_stc]

section Positions

variable {s : State} (h : s.stc.settings.length = settingCount)
include h

theorem settledSettings_position {n : Nat} (hn : n = 9 ∨ n = 10 ∨ n = 11) :
    (settledSettings s).getD (n - 1) 0 =
      let p := settledPositions (s.role = .lidder) (s.setting 6) (s.setting 9) (s.setting 10) (s.setting 11)
      if n = 9 then p.1 else if n = 10 then p.2.1 else p.2.2 := by
  rcases hn with rfl | rfl | rfl <;> simp [settledSettings, h, settingCount]

theorem settledSettings_neighbour {n : Nat} (hn : n = 12 ∨ n = 13) :
    (settledSettings s).getD (n - 1) 0 = settledNeighbour (s.setting 2) (s.setting n) := by
  rcases hn with rfl | rfl <;> simp [settledSettings, h, settingCount]

end Positions

theorem settledSettings_other {s : State} {n : Nat} (h1 : 1 ≤ n) (hn : n < 9 ∨ 13 < n) :
    (settledSettings s).getD (n - 1) 0 = s.setting n := by
  have hne : (8 ≠ n - 1 ∧ 9 ≠ n - 1) ∧ (10 ≠ n - 1 ∧ 11 ≠ n - 1) ∧ 12 ≠ n - 1 := by omega
  simp [settledSettings, hne, State.setting]

theorem settleStart_setting (s : State) (n : Nat) : (settleStart s).setting n = (settledSettings s).getD (n - 1) 0 := by
  rw [State.setting, settleStart_settings]

theorem settledPositions_bounds {lidder : Bool} {length a b c : Int} (hlen : 8 ≤ length)
    (ha : 1 ≤ a) (hb : 1 ≤ b) (hc : 1 ≤ c) :
    let p := settledPositions lidder length a b c
    (1 ≤ p.1 ∧ p.1 ≤ length - 1) ∧ (1 ≤ p.2.1 ∧ p.2.1 ≤ length - 1) ∧ (1 ≤ p.2.2 ∧ p.2.2 ≤ length - 1) := by
  cases lidder <;> simp only [settledPositions] <;> grind

theorem settledPositions_top {lidder : Bool} {length a b c : Int} :
    let p := settledPositions lidder length a b c
    p.1 ≤ length - 1 ∧ p.2.1 ≤ length - 1 ∧ p.2.2 ≤ length - 1 := by
  cases lidder <;> simp only [settledPositions] <;> grind

theorem settledPositions_order {length a b c : Int} :
    let p := settledPositions true length a b c
    p.1 ≤ p.2.1 ∧ p.2.1 ≤ p.2.2 := by
  simp only [settledPositions]; grind

theorem settleStart_role (s : State) : (settleStart s).role = s.role := by
  unfold State.role State.num
  rw [settleStart_setting, settledSettings_other (by decide) (by decide)]

/-- START leaves the positions settled. -/
theorem settled_settleStart {s : State} (h : s.stc.settings.length = settingCount) : Settled (settleStart s) := by
  refine ⟨fun n hn => ?_, fun hr => ?_⟩
  · have htop := settledPositions_top (lidder := s.role = .lidder) (length := s.setting 6) (a := s.setting 9)
      (b := s.setting 10) (c := s.setting 11)
    rw [settleStart_setting, settleStart_setting, settledSettings_other (n := 6) (by decide) (by decide),
      settledSettings_position h hn]
    rcases hn with rfl | rfl | rfl <;> simpa using by omega
  · rw [settleStart_role] at hr
    have horder := settledPositions_order (length := s.setting 6) (a := s.setting 9) (b := s.setting 10) (c := s.setting 11)
    rw [settleStart_setting, settleStart_setting, settleStart_setting, settledSettings_position h (.inl rfl),
      settledSettings_position h (.inr (.inl rfl)), settledSettings_position h (.inr (.inr rfl))]
    simpa [hr] using horder

theorem settingsOk_settled {s : State} (h : SettingsFit s) : SettingsOk (settledSettings s) := by
  refine ⟨by simp [settledSettings, h.count], fun n r hr => ?_⟩
  obtain ⟨h1, -⟩ := number_of_settingRange hr
  by_cases hpos : n = 9 ∨ n = 10 ∨ n = 11
  · have hr9 : (1 : Int) ≤ s.setting 9 ∧ s.setting 9 ≤ 63 := h.ranges 9 _ rfl
    have hr10 : (1 : Int) ≤ s.setting 10 ∧ s.setting 10 ≤ 63 := h.ranges 10 _ rfl
    have hr11 : (1 : Int) ≤ s.setting 11 ∧ s.setting 11 ≤ 63 := h.ranges 11 _ rfl
    have hr6 : (8 : Int) ≤ s.setting 6 ∧ s.setting 6 ≤ 64 := h.ranges 6 _ rfl
    have hbounds := settledPositions_bounds (lidder := s.role = .lidder) hr6.1 hr9.1 hr10.1 hr11.1
    rw [settledSettings_position h.count hpos]
    rcases hpos with rfl | rfl | rfl <;> obtain rfl := Option.some.inj hr <;> simp only [Range.holds] <;>
      simpa using by omega
  · by_cases hnb : n = 12 ∨ n = 13
    · have hrange : (0 : Int) ≤ s.setting n ∧ s.setting n ≤ 30 := by
        rcases hnb with rfl | rfl
        · exact h.ranges 12 _ rfl
        · exact h.ranges 13 _ rfl
      have hr' : r = .span 0 30 := by rcases hnb with rfl | rfl <;> exact (Option.some.inj hr).symm
      rw [settledSettings_neighbour h.count hnb, hr', settledNeighbour]
      split <;> simp only [Range.holds] <;> omega
    · rw [settledSettings_other h1 (by omega)]
      exact h.ranges n r hr

theorem keeps_settleStart (hA : A .settings = true) {s : State} (hm : s.mode = .configuring) :
    Keeps A s₀ s (settleStart s) := by
  have hother (n : Nat) (h1 : 1 ≤ n) (hn : n < 9) : (settledSettings s).getD (n - 1) 0 = s.setting n :=
    settledSettings_other h1 (.inl hn)
  have hwait := fun f => aimCredit_waiting (s := dropCredit { s with stc.settings := settledSettings s }) (f := f)
  rw [settleStart_eq, aimCredit_eq]
  generalize (aimCredit (dropCredit { s with stc.settings := settledSettings s })).lnk.creditSlot = o at hwait ⊢
  generalize (aimCredit (dropCredit { s with stc.settings := settledSettings s })).lnk.onBus = b
  rw [dropCredit_eq] at hwait ⊢
  refine (keeps_settings (l := settledSettings s) (a := s.out.attention) (o := o)
    (c := if ((settledSettings s).getD 12 0).toNat = 0 then none else s.hnd.held) hA (.inr hm) ?_ ?_ ?_ settingsOk_settled
    fun _ => creditFits_of_neighbours (show s.mode ≠ .starting by simp [hm]) (fun hd => if_pos hd) hwait).trans (.of_core_eq rfl)
  · rw [hother 6 (by decide) (by decide)]; exact fun h => h
  · rw [hother 7 (by decide) (by decide)]; exact fun h => h
  · rw [hother 3 (by decide) (by decide)]; exact fun h => h

theorem keeps_startSteps (hA : A .settings = true) (hF : A .flow = true) (hR : A .rooms = true) {s : State}
    (hm : s.mode = .configuring) : Keeps A s₀ s (startSteps s).state := by
  unfold startSteps
  split
  · exact .after (keeps_settleFlow hF _) (.after (keeps_latch _ _) (keeps_enterFault hF _ _))
  · refine .after (keeps_settleFlow hF _) (.after (keeps_enterByCauses hF hR _ fun h => ?_) (keeps_settleStart hA hm))
    exact settled_settleStart (by have := h.count; rwa [settleStart_settings, settledSettings, List.length_set,
      List.length_set, List.length_set, List.length_set, List.length_set] at this)

end Sys2Proof.Machine
end

section
/-! The commands of chapters 1, 2 and 9 keep the invariants: the row window, the handoff and the link. -/

namespace Sys2Proof.Machine

variable {A : Part → Bool} {s₀ : State}

/-! ### The link (chapter 9) -/

/-- A good head names a source station (R153). -/
theorem source_of_good {own : Nat} {h : Head} {k : FrameKind} (hv : headVerdict own h = .good k) :
    1 ≤ h.source ∧ h.source ≤ 30 := by
  unfold headVerdict at hv
  split at hv
  · cases hv
  · next hr => simp [stationsInRange] at hr; omega

/-- A received frame: a count, nothing, or what its block does with it outside STARTING. -/
theorem keeps_receive {kind : FrameKind} {src tgt : BitVec 5} {block : State → State} {s : State}
    (h : s.mode ≠ .starting → src.toNat ≠ 0 → Keeps A s₀ s (block s)) : Keeps A s₀ s (receive kind src tgt block s) := by
  unfold receive
  split
  · exact .of_core_eq rfl
  · exact .refl s
  · exact .refl s
  · next hv =>
    have hsrc : 1 ≤ src.toNat := (source_of_good hv).1
    split
    · exact .refl s
    · next hm =>
      split
      · exact .refl s
      · split
        · exact .of_core_eq rfl
        · exact h hm (by omega)

theorem keeps_setPeer (hA : A .peers = true) (station : Nat) (p : Peer) (s : State) : Keeps A s₀ s (setPeer station p s) :=
  keeps_peers hA fun h => (List.length_set ..).trans h

theorem keeps_takeStationState (hA : A .peers = true) (source : Nat) (role mode : BitVec 8) (s : State) :
    Keeps A s₀ s (takeStationState source role mode s) := by
  unfold takeStationState
  (repeat' split)
  · exact .of_core_eq rfl
  · exact keeps_setPeer hA _ _ s
  · exact .of_core_eq rfl

theorem keeps_peerOut (hA : A .peers = true) (station : Nat) (s : State) : Keeps A s₀ s (peerOut station s) := by
  unfold peerOut
  (repeat' split)
  · exact .refl s
  · exact .refl s
  · exact .after (keeps_setPeer hA _ _ _) (keeps_timeTo _ s)
  · exact .refl s

theorem keeps_stateFallsDue (hA : A .flow = true) (s : State) : Keeps A s₀ s (stateFallsDue s) := by
  unfold stateFallsDue
  split
  · exact .refl s
  · exact .after (keeps_settleFlow hA _) (.after (keeps_placeState _ _) (.of_core_eq rfl))

theorem keeps_placePendingState (hA : A .flow = true) (s : State) : Keeps A s₀ s (placePendingState s) := by
  unfold placePendingState
  (repeat' split)
  · exact .refl s
  · exact .after (keeps_settleFlow hA _) (keeps_placeState _ s)
  · exact .refl s

theorem keeps_takeBadFrame (endedRight : Bool) (bytes : List Byte) (s : State) :
    Keeps A s₀ s (takeBadFrame endedRight bytes s) := by
  unfold takeBadFrame
  split
  · exact .of_core_eq rfl
  · exact .of_core_eq rfl
  · exact .refl s
  · exact .refl s

theorem keeps_offerFrame (s : State) : Keeps A s₀ s (offerFrame s) := by
  unfold offerFrame
  (repeat' split)
  · exact .refl s
  · exact .refl s
  · exact .of_core_eq rfl

theorem keeps_takeFromPlace (o : BusOffer) (s : State) : Keeps A s₀ s (takeFromPlace o s) := by
  unfold takeFromPlace
  split
  · exact .refl s
  · split
    · exact keeps_creditSlot fun _ _ hf => by cases hf
    · exact keeps_answerQ fun h => by rw [List.length_tail]; omega
    · exact keeps_mainQ fun h => by rw [List.length_tail]; omega

theorem keeps_startAnswerTimers (f : Frame) (s : State) : Keeps A s₀ s (startAnswerTimers f s) := by
  unfold startAnswerTimers
  split
  · exact keeps_slots fun h => (List.length_map _).trans h
  · exact .refl s

theorem keeps_sentFrame (hA : A .flow = true) (hR : A .rooms = true) (s : State) : Keeps A s₀ s (sentFrame s) := by
  unfold sentFrame
  split
  · exact .refl s
  · next o _ =>
    have hsent : Keeps A s₀ s (startAnswerTimers o.frame (takeFromPlace o s)) :=
      (keeps_takeFromPlace o s).trans (keeps_startAnswerTimers _ _)
    exact .after (keeps_settleFlow hA _) (.after (keeps_runIfClear_dropCause hA hR _ _) (hsent.trans (.of_core_eq rfl)))

theorem keeps_transmitFailure (hA : A .flow = true) (s : State) : Keeps A s₀ s (transmitFailure s) := by
  unfold transmitFailure
  dsimp only
  split
  · exact .after (keeps_settleFlow hA _) (.after (keeps_latch _ _) (.after (keeps_addCause hA _ _) (.of_core_eq rfl)))
  · exact .of_core_eq rfl

theorem keeps_corruptFrame (hA : A .flow = true) (s : State) : Keeps A s₀ s (corruptFrame s) := by
  unfold corruptFrame
  split
  · exact .refl s
  · exact .after (keeps_transmitFailure hA _) (.of_core_eq rfl)

theorem keeps_waitTooLong (hA : A .flow = true) (s : State) : Keeps A s₀ s (waitTooLong s) := by
  unfold waitTooLong
  split
  · exact .refl s
  · exact .after (keeps_transmitFailure hA _) (.of_core_eq rfl)

/-! ### The Index Tracker (chapter 1) -/

theorem not_waiting_of_takesCounts {s : State} (h : takesCounts s = true) : ¬ s.waiting := by
  simp only [takesCounts, Bool.and_eq_true, decide_eq_true_eq] at h
  exact not_or.2 ⟨h.1.2, h.2⟩

theorem keeps_forwardStep (hA : AllowsIndex A) (presence bond : BitVec 8) (s : State) :
    Keeps A s₀ s (forwardStep presence bond s) := by
  unfold forwardStep
  split
  · exact .refl s
  · next ht =>
    have hw : ¬ s.waiting := not_waiting_of_takesCounts (by simpa using ht)
    split
    · exact keeps_counts (p := s.idx.posCount) hw fun h => ⟨h.position, by have := h.debt; omega⟩
    · split
      · next hp => exact keeps_counts (d := s.idx.debt) hw fun h => ⟨hp, h.debt⟩
      · exact .after (keeps_indexEvent hA _ _ _ hw)
          (keeps_counts (d := s.idx.debt) hw fun h => ⟨by have := h.perIndex; omega, h.debt⟩)

theorem keeps_reverseStep (hW : A .window = true) (hA : A .flow = true) (s : State) : Keeps A s₀ s (reverseStep s) := by
  unfold reverseStep
  split
  · exact .refl s
  · next ht =>
    have hw : ¬ s.waiting := not_waiting_of_takesCounts (by simpa using ht)
    split
    · next hd => exact keeps_counts (p := s.idx.posCount) hw fun h => ⟨h.position, hd⟩
    · exact .after (keeps_settleFlow hA _) (keeps_trackFault hW hA s hw)

theorem keeps_pulseEnd (lane : Nat) (s : State) : Keeps A s₀ s (pulseEnd lane s) := by
  unfold pulseEnd
  (repeat' split)
  · exact .refl s
  · exact .refl s
  · exact .after (keeps_timeTo _ _) (keeps_pulses fun _ h => (List.length_set ..).trans h.pulses)

theorem keeps_forceRejectOwn (hW : A .window = true) (position lane : BitVec 8) (s : State) :
    Keeps A s₀ s (forceRejectOwn position lane s).state := by
  unfold forceRejectOwn
  dsimp only
  split
  · exact .refl s
  · split
    · exact .refl s
    · split
      · exact .refl s
      · split
        · split
          · exact keeps_updateRow hW _ _ s fun b => RowBody.sameShape_markAll b _
          · exact .refl s
        · split
          · exact keeps_updateRow hW _ _ s fun b => RowBody.sameShape_markLane b _ .host
          · exact .refl s

theorem readRowOwn_state (position : BitVec 8) (s : State) : (readRowOwn position s).state = s := by
  unfold readRowOwn; dsimp only; (repeat' split) <;> rfl

/-! ### The Handoff Unit (chapter 2) -/

theorem readArrivalOwn_state (index : BitVec 8) (s : State) : (readArrivalOwn index s).state = s := by
  unfold readArrivalOwn; dsimp only; (repeat' split) <;> rfl

theorem keeps_takeCredit (hN : A .nextSeq = true) (hA : A .flow = true) {source : Nat} (limit : BitVec 16) (room : BitVec 8)
    {s : State} (hm : s.mode ≠ .starting) (hs : source ≠ 0) : Keeps A s₀ s (takeCredit source limit room s) := by
  unfold takeCredit
  split
  · exact .refl s
  · next hd =>
    have hheld : Keeps A s₀ s { s with hnd.held := some { limit, since := s.nowMs } } :=
      keeps_held (.inr ⟨fun h0 => hs ((not_not.1 hd).trans h0), hm⟩)
    exact .after (keeps_settleFlow hA _) ((hheld.trans (keeps_nextSeq
      (x := (resyncOf s.hnd.everHeld s.hnd.nextSeq (limit - room.setWidth 16)).1) hN)).trans (.of_core_eq rfl))

theorem keeps_creditLapse (hA : A .flow = true) (s : State) : Keeps A s₀ s (creditLapse s) := by
  unfold creditLapse
  split
  · exact .refl s
  · next h _ =>
    have hlapsed : Keeps A s₀ s
        (timeTo (h.since + s.creditExpiryMs) { s with hnd.held := none, hnd.inLoss := true }) :=
      (keeps_held (x := none) (.inl rfl)).trans (.of_core_eq rfl)
    dsimp only
    split
    · exact hlapsed.trans (keeps_settleFlow hA _)
    · exact hlapsed.trans ((keeps_latch _ _).trans (keeps_settleFlow hA _))

theorem keeps_refreshCredit (s : State) : Keeps A s₀ s (refreshCredit s) := by
  unfold refreshCredit
  split
  · exact .refl s
  · exact .after (keeps_placeCredit _) (.of_core_eq rfl)

theorem keeps_dropPass (s : State) : Keeps A s₀ s (dropPass s) := .of_core_eq rfl

theorem keeps_creditViolation (s : State) : Keeps A s₀ s (creditViolation s) := (keeps_dropPass s).trans (keeps_latch _ _)

/-- An entry joins the row arrivals list. -/
theorem keeps_joinRowArrivals {s : State} {e : RowEntry} (hb : e.body.pots.length = 8) (he : e.body.exposure ≤ exposureMax)
    (hroom : s.hnd.rowArrivals.length < 8) : Keeps A s₀ s { s with hnd.rowArrivals := s.hnd.rowArrivals ++ [e] } := by
  refine keeps_rowArrivals (fun _ h => ⟨by simpa using hroom, fun x hx => ?_⟩) fun _ h x hx => ?_
  · obtain hold | rfl := by simpa using hx
    · exact h.entryPots x hold
    · exact hb
  · obtain hold | rfl := by simpa using hx
    · exact h.rowEntries x hold
    · exact he

/-- An entry joins the tray arrivals list. -/
theorem keeps_joinTrayArrivals {s : State} {e : TrayEntry} (he : e.tray.exposure ≤ exposureMax)
    (hroom : s.hnd.trayArrivals.length < 8) : Keeps A s₀ s { s with hnd.trayArrivals := s.hnd.trayArrivals ++ [e] } := by
  refine keeps_trayArrivals (fun _ => by simpa using hroom) fun _ h x hx => ?_
  obtain hold | rfl := by simpa using hx
  · exact h.trayEntries x hold
  · exact he

theorem readRowPass_pots (p : RowPassFields) : (readRowPass p).pots.length = 8 := by simp [readRowPass]

theorem exposure_le_max (x : BitVec 24) : x.toNat ≤ exposureMax := Nat.le_of_lt_succ x.isLt

section Passes

variable (hE : A .expected = true) (hA : A .flow = true)
include hE hA

theorem keeps_acceptRow (seq : BitVec 16) {b : RowBody} {s : State} (hb : b.pots.length = 8) (he : b.exposure ≤ exposureMax)
    (hroom : s.hnd.rowArrivals.length < 8) : Keeps A s₀ s (acceptRow seq b s) := by
  have hshape := RowBody.sameShape_classifyRow (lotOf s (heldLot s b.lot)) true { b with lot := heldLot s b.lot }
  exact .after (keeps_settleFlow hA _) (.after (keeps_lotArrive _ _)
    (.trans (keeps_expected (x := seq + 1#16) hE)
      (keeps_joinRowArrivals (hshape.1.trans hb) (hshape.2.trans_le he) hroom)))

theorem keeps_takeRowPass (source : Nat) (p : RowPassFields) (s : State) : Keeps A s₀ s (takeRowPass source p s) := by
  unfold takeRowPass
  split
  · exact keeps_dropPass s
  split
  · exact keeps_dropPass s
  split
  · exact keeps_dropPass s
  split
  · exact keeps_creditViolation s
  · next hroom =>
    exact keeps_acceptRow hE hA p.seq (readRowPass_pots p) (exposure_le_max p.exposure) (Nat.not_le.1 hroom)

theorem keeps_acceptTray (seq : BitVec 16) {t : Tray} {s : State} (he : t.exposure ≤ exposureMax)
    (hroom : s.hnd.trayArrivals.length < 8) : Keeps A s₀ s (acceptTray seq t s) :=
  .after (keeps_settleFlow hA _) (.after (keeps_lotArrive _ _)
    (.trans (keeps_expected (x := seq + 1#16) hE)
      (keeps_joinTrayArrivals ((classifyTray_exposure _ _).trans_le he) hroom)))

theorem keeps_takeTrayPass (source : Nat) (p : TrayPassFields) (s : State) : Keeps A s₀ s (takeTrayPass source p s) := by
  unfold takeTrayPass
  split
  · exact keeps_dropPass s
  split
  · exact keeps_dropPass s
  split
  · exact keeps_dropPass s
  split
  · exact keeps_creditViolation s
  · next hroom => exact keeps_acceptTray hE hA p.seq (exposure_le_max p.exposure) (Nat.not_le.1 hroom)

end Passes

/-- Entries leave a list of row arrivals. -/
theorem keeps_fewerRowArrivals {s : State} {l : List RowEntry} (h : l.Sublist s.hnd.rowArrivals) :
    Keeps A s₀ s { s with hnd.rowArrivals := l } :=
  keeps_rowArrivals (fun _ hb => ⟨h.length_le.trans hb.rowArrivals, fun e he => hb.entryPots e (h.subset he)⟩)
    fun _ hx e he => hx.rowEntries e (h.subset he)

theorem keeps_fewerTrayArrivals {s : State} {l : List TrayEntry} (h : l.Sublist s.hnd.trayArrivals) :
    Keeps A s₀ s { s with hnd.trayArrivals := l } :=
  keeps_trayArrivals (fun hb => h.length_le.trans hb) fun _ hx e he => hx.trayEntries e (h.subset he)

theorem keeps_expireArrival (hA : A .flow = true) (s : State) : Keeps A s₀ s (expireArrival s) := by
  unfold expireArrival
  split
  · split
    · exact .refl s
    · next e rest he =>
      exact .after (keeps_settleFlow hA _) (.after (keeps_closeOnDrain _) (.after (keeps_latch _ _)
        (.after (keeps_lotDepart _ _) ((keeps_fewerRowArrivals (l := rest)
          (he ▸ List.sublist_cons_self e rest)).trans (.of_core_eq rfl)))))
  · split
    · exact .refl s
    · next e rest he =>
      exact .after (keeps_settleFlow hA _) (.after (keeps_latch _ _)
        (.after (keeps_lotDepart _ _) ((keeps_fewerTrayArrivals (l := rest)
          (he ▸ List.sublist_cons_self e rest)).trans (.of_core_eq rfl))))

end Sys2Proof.Machine
end

section
/-! The commands of chapters 3 to 7 keep the invariants: lots, lids, trays, exposure and dispatch. -/

namespace Sys2Proof.Machine

variable {A : Part → Bool} {s₀ : State}

/-! ### The Lot Unit (chapter 3) -/

theorem keeps_writeProductOwn (hT : A .tables = true) (index mark : BitVec 8) (p : ProductFields) (s : State) :
    Keeps A s₀ s (writeProductOwn index mark p s).state := by
  have hset (o : Option Product) : Keeps A s₀ s (setProduct index.toNat o s) :=
    (keeps_tables (ps := s.stc.products.set index.toNat o) (ts := s.stc.transitions) hT
      (fun h => (List.length_set ..).trans h) fun h => h).trans (keeps_resum _)
  unfold writeProductOwn
  dsimp only
  split
  · exact .refl s
  split
  · exact .refl s
  split
  · exact hset _
  · exact hset _

theorem keeps_writeTransitionOwn (hT : A .tables = true) (prev next kind count : BitVec 8) (s : State) :
    Keeps A s₀ s (writeTransitionOwn prev next kind count s).state := by
  have hset (i : Nat) (e : Transition) : Keeps A s₀ s (setTransition i e s) :=
    (keeps_tables (ps := s.stc.products) (ts := s.stc.transitions.set i e) hT
      (fun h => h) fun h => (List.length_set ..).trans h).trans (keeps_resum _)
  unfold writeTransitionOwn
  split
  · exact .refl s
  split
  · exact .refl s
  · exact hset _ _

theorem closeOpenLot_openIdx (s : State) : (closeOpenLot s).lot.openIdx = none := by
  unfold closeOpenLot
  split
  · assumption
  · rw [show ∀ id (t : State), (announceClose id t).lot.openIdx = t.lot.openIdx by
      intro id t; unfold announceClose; dsimp only; split <;> simp]

/-- The LOT-CLOSEs that may wait behind an open lot are one fewer (R53): OPEN-LOT is taken with none waiting, and its own
close adds one. -/
theorem closeOpenLot_pendingCloses (s : State) :
    (closeOpenLot s).lot.pendingCloses.length ≤ s.lot.pendingCloses.length + 1 := by
  unfold closeOpenLot announceClose
  split
  · exact Nat.le_succ _
  · have hcloses (i : Nat) : (closeEntry i s).lot.pendingCloses = s.lot.pendingCloses := by rw [closeEntry_lot]
    dsimp only
    split <;> simp [hcloses]

theorem keeps_openLotSteps (hA : A .flow = true) (p : Product) (tank lot : Nat) {s : State}
    (hp : s.lot.pendingCloses = []) : Keeps A s₀ s (openLotSteps p tank lot s) := by
  have hclosed : Keeps A s₀ s (closeOpenLot s) := keeps_closeOpenLot s
  have hlen := closeOpenLot_pendingCloses s
  unfold openLotSteps
  dsimp only
  generalize closeOpenLot s = t at hclosed hlen ⊢
  split
  · exact hclosed
  · next i _ =>
    refine .after (keeps_settleFlow hA _) (.after (keeps_announceOpen _) (hclosed.trans
      ((keeps_lotTable (l := t.lot.table.set i (some (newLotRec s p tank lot))) fun h => (List.length_set ..).trans h).trans
        ((keeps_closes (o := some i) (l := t.lot.pendingCloses) fun _ => ?_).trans (.of_core_eq rfl)))))
    simpa [hp] using hlen

theorem keeps_openLotOwn (hA : A .flow = true) (index tank : BitVec 8) (lot : BitVec 24) (s : State) :
    Keeps A s₀ s (openLotOwn index tank lot s).state := by
  unfold openLotOwn
  split
  · exact .refl s
  split
  · exact .refl s
  split
  · exact .refl s
  split
  · exact .refl s
  split
  · exact .refl s
  split
  · exact .refl s
  split
  · exact .refl s
  · next hp => exact keeps_openLotSteps hA _ _ _ (by simpa using hp)

theorem keeps_closeLotOwn (hA : A .flow = true) (s : State) : Keeps A s₀ s (closeLotOwn s).state := by
  unfold closeLotOwn
  split
  · exact .refl s
  split
  · exact .refl s
  split
  · exact .refl s
  · exact .after (keeps_settleFlow hA _) (keeps_closeOpenLot s)

theorem readLotOwn_state (index : BitVec 8) (s : State) : (readLotOwn index s).state = s := by
  unfold readLotOwn; dsimp only; (repeat' split) <;> rfl

theorem keeps_lotOpenRepeat (hA : A .flow = true) (s : State) : Keeps A s₀ s (lotOpenRepeat s) := by
  unfold lotOpenRepeat
  split
  · exact .refl s
  · exact .after (keeps_settleFlow hA _) (.after (keeps_announceOpen _) (keeps_timeTo _ s))

/-- The pending LOT-CLOSEs that are left are the last of those there were. -/
theorem keeps_queueCloses {l : List Nat} {s : State} (hl : l.length ≤ s.lot.pendingCloses.length) :
    Keeps A s₀ s (queueCloses l s) := by
  have hleft (m : List Nat) (t : State) (hm : m.length ≤ t.lot.pendingCloses.length) :
      Keeps A s₀ t { t with lot.pendingCloses := m } :=
    keeps_closes (o := t.lot.openIdx) hm.trans
  induction l generalizing s with
  | nil => exact hleft [] s (Nat.zero_le _)
  | cons id rest ih =>
    unfold queueCloses
    split
    · exact .after (ih (by simpa using Nat.le_of_succ_le hl)) (keeps_pushMain _ s)
    · exact hleft _ s hl

theorem keeps_queuePendingLots (hA : A .flow = true) (s : State) : Keeps A s₀ s (queuePendingLots s) := by
  have hcloses : Keeps A s₀ s (queueCloses s.lot.pendingCloses s) := keeps_queueCloses (Nat.le_refl _)
  unfold queuePendingLots
  dsimp only
  split
  · exact .after (keeps_settleFlow hA _) (.after (keeps_announceOpen _) hcloses)
  · exact .after (keeps_settleFlow hA _) hcloses

theorem keeps_implicitClose (source lot : Nat) (l : List Nat) (s : State) :
    Keeps A s₀ s (implicitClose source lot l s) := by
  induction l generalizing s with
  | nil => exact .refl s
  | cons i is ih =>
    unfold implicitClose
    split
    · exact .after (ih _) (keeps_closeEntry i s)
    · exact ih s

theorem keeps_takeLotOpen (source : Nat) (p : LotOpenFields) (s : State) : Keeps A s₀ s (takeLotOpen source p s) := by
  have hclosed : Keeps A s₀ s (implicitClose source p.lot.toNat (List.range s.lot.table.length) s) :=
    keeps_implicitClose _ _ _ s
  unfold takeLotOpen openCopy
  dsimp only
  split
  · split
    · exact .after (keeps_updateLot _ _ _) hclosed
    · split
      · exact .after (keeps_lotTable fun h => (List.length_set ..).trans h) hclosed
      · exact .after (keeps_latch _ _) hclosed
  · exact .of_core_eq rfl

theorem keeps_takeLotClose (source : Nat) (lot : BitVec 24) (s : State) : Keeps A s₀ s (takeLotClose source lot s) := by
  unfold takeLotClose
  (repeat' split)
  · exact .refl s
  · exact keeps_closeEntry _ s
  · exact .of_core_eq rfl

/-! ### The Lid Unit (chapter 4) -/

theorem keeps_loadReelOwn (hL : A .lids = true) (reel : BitVec 16) (flavour : BitVec 8) (useBy lids : BitVec 16) (s : State) :
    Keeps A s₀ s (loadReelOwn reel flavour useBy lids s).state := by
  unfold loadReelOwn
  split
  · exact .refl s
  · next hr =>
    refine keeps_lid hL (fun h => h) fun h => ⟨h.1, fun r hr' => ?_⟩
    obtain rfl := Option.some.inj hr'
    simp only [Bool.or_eq_true, decide_eq_true_eq, not_or] at hr
    simp [lidMax]
    omega

theorem keeps_spliceOwn (hL : A .lids = true) (s : State) : Keeps A s₀ s (spliceOwn s).state := by
  unfold spliceOwn
  split
  · exact .refl s
  · exact keeps_lid hL (fun h => h) fun h => ⟨h.2, fun _ hr => by simp at hr⟩

/-! ### The Tray Unit (chapter 5) -/

theorem readTrayOwn_state (place : BitVec 8) (s : State) : (readTrayOwn place s).state = s := by
  unfold readTrayOwn readTrayAtTrayer readTrayAtChill readTrayAtDispatch; (repeat' split) <;> rfl

theorem keeps_closeTimeOut (hA : A .flow = true) (s : State) : Keeps A s₀ s (closeTimeOut s) := by
  unfold closeTimeOut
  split
  · exact .refl s
  · next f hf =>
    split
    · exact .refl s
    · exact .after (keeps_settleFlow hA _) (.after (keeps_closeTray true _) (.after (keeps_timeTo _ _)
        (keeps_forming fun _ he g hg => Option.some.inj hg ▸ he.forming f hf)))

section Sensors

variable (hA : A .flow = true)
include hA

theorem keeps_exitEvent (hN : A .nextSeq = true) (s : State) : Keeps A s₀ s (exitEvent s) := by
  unfold exitEvent exitAtTrayer exitAtChill
  split
  · exact .refl s
  · split
    · split
      · exact .of_core_eq rfl
      · next t rest ht =>
        exact .after (keeps_settleFlow hA _) (.after (keeps_closeHeldBack _) (.after (keeps_settleFlow hA _)
          (.after (keeps_releaseHead hN _ t _) (keeps_formed
            (fun h => by simp [ht] at h; omega) fun _ he x hx => he.formed x (by simp [ht, hx])))))
    · split
      · exact .of_core_eq rfl
      · next t rest ht =>
        exact .after (keeps_settleFlow hA _) (.after (keeps_releaseHead hN _ t _) (keeps_queue
          (fun h => by simp [ht] at h; omega) fun _ he x hx => he.queue x (by simp [ht, hx])))
    · exact .refl s

theorem keeps_infeedAtTry (hE : A .expected = true) (s : State) : Keeps A s₀ s (infeedAtTry s) := by
  have hplace (t : Tray) (u : State) (ht : ExposureFits s → t.exposure ≤ exposureMax) : Keeps A s u (placeTray t u) := by
    unfold placeTray
    split
    · exact keeps_placeInQueue ht u
    · exact keeps_placeInCell ht u
  have hpair : Keeps A s s (pairTray s) := by
    unfold pairTray
    split
    · exact .after (hplace _ _ fun _ => Nat.zero_le _) (.after (keeps_strayAdvance hE _) (.of_core_eq rfl))
    · next e rest he =>
      exact .after (hplace _ _ fun h => h.trayEntries e (by simp [he]))
        (.after (keeps_lotDepart _ _) (keeps_fewerTrayArrivals (he ▸ List.sublist_cons_self e rest)))
  unfold infeedAtTry
  split
  · exact .refl s
  split
  · exact .of_core_eq rfl
  · exact (hpair.trans (keeps_settleSince hA _ _)).rebase

end Sensors

/-! ### The Exposure Unit (chapter 6) -/

theorem readZoneOwn_state (index : BitVec 8) (s : State) : (readZoneOwn index s).state = s := by
  unfold readZoneOwn; (repeat' split) <;> rfl

section Probe

variable (hP : A .probe = true)
include hP

theorem keeps_badReading (s : State) : Keeps A s₀ s (badReading s) := by
  unfold badReading
  dsimp only
  (repeat' split)
  · exact .after (keeps_latch _ _) (keeps_exp hP)
  · exact keeps_exp hP
  · exact .after (keeps_latch _ _) (keeps_exp hP)
  · exact keeps_exp hP
  · exact keeps_exp hP
  · exact .after (keeps_latch _ _) (keeps_exp hP)
  · exact keeps_exp hP

theorem keeps_takeReading (width : Nat) (s : State) : Keeps A s₀ s (takeReading width s) := by
  unfold takeReading
  dsimp only
  split
  · exact .refl s
  · split
    · exact keeps_exp hP
    · exact .after (keeps_badReading hP _) (keeps_exp hP)

theorem keeps_takeMiss (s : State) : Keeps A s₀ s (takeMiss s) := by
  unfold takeMiss
  split
  · exact .refl s
  · next d _ =>
    split
    · exact .after (keeps_badReading hP _) (.trans (keeps_timeTo d s) (keeps_exp hP))
    · exact .refl s

end Probe

theorem sameShape_accrueRow (s : State) (before : Bool) (b : RowBody) :
    (accrueRow s before b).pots.length = b.pots.length ∧
      (b.exposure ≤ exposureMax → (accrueRow s before b).exposure ≤ exposureMax) := by
  unfold accrueRow
  split
  · exact ⟨rfl, id⟩
  · next r _ =>
    have h := RowBody.sameShape_classifyRow (some r) before { b with exposure := accrue b.exposure (lotIncrement s r) }
    exact ⟨h.1, fun _ => h.2.trans_le (Nat.min_le_left _ _)⟩

theorem accrueTray_exposure (s : State) {t : Tray} (h : t.exposure ≤ exposureMax) :
    (accrueTray s t).exposure ≤ exposureMax := by
  unfold accrueTray
  split
  · exact h
  · exact (classifyTray_exposure _ _).trans_le (Nat.min_le_left _ _)

theorem mem_accrueWindow {s : State} {r : Row} (h : some r ∈ accrueWindow s) :
    ∃ q before, some q ∈ s.idx.window ∧ r.body = accrueRow s before q.body := by
  obtain ⟨p, hp, heq⟩ := List.mem_mapIdx.1 h
  obtain ⟨q, hq, rfl⟩ := Option.map_eq_some_iff.1 heq
  exact ⟨q, _, hq ▸ List.getElem_mem hp, rfl⟩

theorem keeps_accrueStores (hW : A .window = true) (s : State) : Keeps A s₀ s (accrueStores s) := by
  have hwindow : Keeps A s₀ s { s with idx.window := accrueWindow s } :=
    keeps_window hW (fun _ h => by simp [accrueWindow, h])
      (fun _ h => ⟨by simpa [accrueWindow] using h.window, fun r hr => by
        obtain ⟨q, before, hq, hr⟩ := mem_accrueWindow hr
        rw [hr]
        exact (sameShape_accrueRow s before q.body).1.trans (h.rowPots q hq)⟩)
      fun _ h r hr => by
        obtain ⟨q, before, hq, hr⟩ := mem_accrueWindow hr
        rw [hr]
        exact (sameShape_accrueRow s before q.body).2 (h.rows q hq)
  have hrows := hwindow.trans (keeps_rowArrivals
    (l := s.hnd.rowArrivals.map (fun e => { e with body := accrueRow s true e.body }))
    (fun _ h => ⟨by simpa using h.rowArrivals, fun e he => by
      obtain ⟨d, hd, rfl⟩ := List.mem_map.1 he
      exact (sameShape_accrueRow s true d.body).1.trans (h.entryPots d hd)⟩)
    fun _ h e he => by
      obtain ⟨d, hd, rfl⟩ := List.mem_map.1 he
      exact (sameShape_accrueRow s true d.body).2 (h.rowEntries d hd))
  have htrays := hrows.trans (keeps_trayArrivals
    (l := s.hnd.trayArrivals.map (fun e => { e with tray := accrueTray s e.tray })) (fun h => (List.length_map _).trans_le h)
    fun _ h e he => by
      obtain ⟨d, hd, rfl⟩ := List.mem_map.1 he
      exact accrueTray_exposure s (h.trayEntries d hd))
  have hforming := htrays.trans (keeps_forming (o := s.tray.forming.map (fun f => { f with tray := accrueTray s f.tray }))
    fun _ h f hf => by
      obtain ⟨g, hg, rfl⟩ := Option.map_eq_some_iff.1 hf
      exact accrueTray_exposure s (h.forming g hg))
  have hformed := hforming.trans (keeps_formed (l := s.tray.formed.map (accrueTray s)) (fun h => (List.length_map _).trans_le h)
    fun _ h t ht => by
      obtain ⟨u, hu, rfl⟩ := List.mem_map.1 ht
      exact accrueTray_exposure s (h.formed u hu))
  have hqueue := hformed.trans (keeps_queue (l := s.tray.queue.map (accrueTray s)) (fun h => (List.length_map _).trans_le h)
    fun _ h t ht => by
      obtain ⟨u, hu, rfl⟩ := List.mem_map.1 ht
      exact accrueTray_exposure s (h.queue u hu))
  exact hqueue.trans (keeps_cells (l := accrueCells s) (fun h => (List.length_map _).trans h) fun _ h c hc => by
    obtain ⟨o, ho, hmap⟩ := List.mem_map.1 hc
    obtain ⟨d, rfl, rfl⟩ := Option.map_eq_some_iff.1 hmap
    exact accrueTray_exposure s (h.cells d ho))

theorem keeps_handOverAll (l : List Nat) (s : State) : Keeps A s₀ s (handOverAll l s) := by
  induction l generalizing s with
  | nil => exact .refl s
  | cons i is ih => exact .after (ih _) (keeps_handOver i s)

theorem keeps_exposureSecond (hW : A .window = true) (hP : A .probe = true) (s : State) :
    Keeps A s₀ s (exposureSecond s) := by
  unfold exposureSecond
  dsimp only
  split
  · exact .after (keeps_handOverAll _ _) (.after (keeps_exp hP) (keeps_accrueStores hW s))
  · exact .refl s

theorem keeps_cutOffSecond (s : State) : Keeps A s₀ s (cutOffSecond s) := by
  unfold cutOffSecond
  split
  · exact keeps_setActive s (List.length_map _)
  · exact .refl s

/-- The station second moves the clock, the exposures with their urgency, and the ACTIVE bank (R172). -/
theorem keeps_secondStep (hC : A .clock = true) (hW : A .window = true) (hP : A .probe = true) (s : State) :
    Keeps A s₀ s (secondStep s) :=
  .after (keeps_cutOffSecond _) (.after (keeps_exposureSecond hW hP _)
    ((keeps_clock (x := s.stc.clock + 1#32) hC).trans (.of_core_eq rfl)))

/-! ### The Dispatch Unit (chapter 7) -/

theorem standbyBank_set_length (s : State) (i : Nat) (o : Option OrderEntry) :
    ((standbyBank s).set i o).length = (standbyBank s).length := List.length_set ..

theorem keeps_writeOrderOwn (bank index mark : BitVec 8) (o : OrderFields) (s : State) :
    Keeps A s₀ s (writeOrderOwn bank index mark o s).state := by
  unfold writeOrderOwn
  dsimp only
  split
  · exact .refl s
  split
  · exact .refl s
  split
  · exact keeps_setStandby s (standbyBank_set_length s _ _)
  split
  · exact .refl s
  · exact keeps_setStandby s (standbyBank_set_length s _ _)

theorem readOrderOwn_state (bank index : BitVec 8) (s : State) : (readOrderOwn bank index s).state = s := by
  unfold readOrderOwn; dsimp only; (repeat' split) <;> rfl

theorem keeps_swapBookOwn (bank : BitVec 8) (s : State) : Keeps A s₀ s (swapBookOwn bank s).state := by
  unfold swapBookOwn
  split
  · exact .refl s
  split
  · exact .refl s
  · exact .after (keeps_setActive _ (List.length_map _)) (.of_core_eq rfl)

theorem keeps_retryTrayOwn (cell : BitVec 8) (s : State) : Keeps A s₀ s (retryTrayOwn cell s).state := by
  unfold retryTrayOwn
  dsimp only
  split
  · exact .refl s
  split
  · exact .refl s
  split
  · exact .refl s
  split
  · exact .refl s
  split
  · exact .refl s
  · exact keeps_updateCellTray _ (fun t => { t with retry := 0, dstate := .unasked }) s fun _ => rfl

theorem keeps_removeTrayOwn (hA : A .flow = true) (cell : BitVec 8) (s : State) :
    Keeps A s₀ s (removeTrayOwn cell s).state := by
  unfold removeTrayOwn
  dsimp only
  split
  · exact .refl s
  split
  · exact .refl s
  split
  · exact .refl s
  · exact .after (keeps_settleFlow hA _) (.after (keeps_trayCounts ..)
      (.after (keeps_emptyCell _ _) (keeps_unassign _ s)))

theorem keeps_queueAsk (j : Nat) (x : Slot) (t : Tray) (s : State) : Keeps A s₀ s (queueAsk j x t s) :=
  .after (keeps_setSlot _ _ _) ((keeps_pushMain _ s).trans (.of_core_eq rfl))

theorem keeps_routeUpdate (i : Nat) (s : State) : Keeps A s₀ s (routeUpdate i s) := by
  unfold routeUpdate
  (repeat' split)
  · exact .refl s
  · exact .refl s
  · exact keeps_updateCellTray i _ s fun _ => rfl

theorem keeps_beginSeries (j i : Nat) (t : Tray) (chamber : Nat) (s : State) : Keeps A s₀ s (beginSeries j i t chamber s) :=
  .after (keeps_updateCellTray i (fun y => { y with dstate := .asking }) _ fun _ => rfl) (.after (keeps_queueAsk _ _ _ _) (keeps_pushMain _ s))

theorem keeps_startSeries (s : State) : Keeps A s₀ s (startSeries s) := by
  have hprojected (i : Nat) : Keeps A s₀ s (routeUpdate i (projectCell i s)) :=
    .after (keeps_routeUpdate i _) (keeps_projectCell i s)
  unfold startSeries seriesFor
  split
  · split
    · next j i _ _ =>
      dsimp only
      split
      · exact hprojected i
      split
      · exact hprojected i
      split
      · exact .after (keeps_routeFails _ _ _) (hprojected i)
      · exact .after (keeps_beginSeries _ _ _ _ _) (hprojected i)
    · exact .refl s
  · exact .refl s

theorem keeps_answeredAttempt (j : Nat) (x : Slot) (s : State) : Keeps A s₀ s (answeredAttempt j x s) := by
  unfold answeredAttempt
  split
  · exact .after (keeps_routeFails _ _ _) (keeps_setSlot _ _ s)
  · exact keeps_setSlot _ _ s

theorem keeps_takeGrant (j : Nat) (x : Slot) (lane : Nat) (s : State) : Keeps A s₀ s (takeGrant j x lane s) :=
  .after (keeps_dspCounts ..) (.after (keeps_updateCellTray _ _ _ fun _ => rfl) (keeps_setSlot _ _ s))

theorem keeps_replyInSlot (j : Nat) (x : Slot) (a : Answer) (lane : Nat) (s : State) :
    Keeps A s₀ s (replyInSlot j x a lane s) := by
  unfold replyInSlot
  (repeat' split)
  · exact keeps_takeGrant _ _ _ s
  · exact .after (keeps_routeFails _ _ _) (keeps_setSlot _ _ s)
  · exact keeps_answeredAttempt _ _ s
  · exact .refl s
  · exact keeps_answeredAttempt _ _ s
  · exact .refl s

theorem keeps_takeReply (source : Nat) (trayId : BitVec 32) (a lane : BitVec 8) (s : State) :
    Keeps A s₀ s (takeReply source trayId a lane s) := by
  unfold takeReply
  dsimp only
  split
  · exact .of_core_eq rfl
  split
  · exact .of_core_eq rfl
  split
  · split
    · exact keeps_replyInSlot _ _ _ _ s
    · exact .refl s
  split
  · exact .refl s
  · exact .of_core_eq rfl

theorem keeps_answerTimeOut (slot : Nat) (s : State) : Keeps A s₀ s (answerTimeOut slot s) := by
  unfold answerTimeOut
  (repeat' split)
  · exact .refl s
  · exact .refl s
  · exact .refl s
  · exact .after (keeps_answeredAttempt _ _ _) (.of_core_eq rfl)

theorem keeps_repeatOut (slot : Nat) (s : State) : Keeps A s₀ s (repeatOut slot s) := by
  unfold repeatOut
  split
  · exact .refl s
  split
  · exact .refl s
  split
  · exact .refl s
  dsimp only
  split
  · exact keeps_timeTo _ s
  split
  · exact .after (keeps_queueAsk _ _ _ _) (keeps_timeTo _ s)
  · exact .after (keeps_setSlot _ _ _) (keeps_timeTo _ s)

theorem keeps_queueDueAsk (s : State) : Keeps A s₀ s (queueDueAsk s) := by
  unfold queueDueAsk
  (repeat' split)
  · exact .refl s
  · exact .refl s
  · exact .refl s
  · exact keeps_queueAsk _ _ _ s
  · exact .refl s

theorem keeps_grantOut (cell : Nat) (s : State) : Keeps A s₀ s (grantOut cell s) := by
  unfold grantOut
  (repeat' split)
  · exact .refl s
  · exact .refl s
  · exact .refl s
  · exact .after (keeps_updateCellTray _ _ _ fun _ => rfl) (.of_core_eq rfl)
  · exact .refl s

theorem keeps_driveShuttle (i : Nat) (s : State) : Keeps A s₀ s (driveShuttle i s) :=
  (keeps_updateCellTray i (fun x => { x with dstate := .releasing }) s fun _ => rfl).trans (.of_core_eq rfl)

theorem keeps_arbitrate (n : Nat) (s : State) : Keeps A s₀ s (arbitrate n s) := by
  induction n generalizing s with
  | zero => exact .refl s
  | succ n ih =>
    unfold arbitrate
    split
    · exact .refl s
    · dsimp only
      split
      · exact .after (keeps_driveShuttle _ _) (keeps_projectCell _ s)
      · exact .after (ih _) (keeps_projectCell _ s)

theorem keeps_beginRelease (s : State) : Keeps A s₀ s (beginRelease s) := by
  unfold beginRelease
  split
  · exact keeps_arbitrate 13 s
  · exact .refl s

theorem keeps_queuePass (f : Frame) (s : State) : Keeps A s₀ s (queuePass f s) := by
  unfold queuePass
  split
  · exact keeps_pushMain f s
  · exact .of_core_eq rfl

theorem keeps_shuttleEnd (hT : A .trace = true) (hA : A .flow = true) (s : State) : Keeps A s₀ s (shuttleEnd s) := by
  unfold shuttleEnd
  (repeat' split)
  · exact .of_core_eq rfl
  · exact .of_core_eq rfl
  · exact .after (keeps_settleFlow hA _) (.after (keeps_dspCounts ..) (.after (keeps_emptyCell _ _)
      (.after (keeps_queuePass _ _) (.after (keeps_writeTrace hT _ _) (.of_core_eq rfl)))))
  · exact .refl s

theorem keeps_shuttleTimeOut (hA : A .flow = true) (s : State) : Keeps A s₀ s (shuttleTimeOut s) := by
  unfold shuttleTimeOut
  dsimp only
  (repeat' split)
  · exact .refl s
  · exact .after (keeps_settleFlow hA _) (.after (keeps_enterFault hA _ _) (.of_core_eq rfl))
  · exact .of_core_eq rfl

theorem keeps_queuePendingPass (s : State) : Keeps A s₀ s (queuePendingPass s) := by
  unfold queuePendingPass
  (repeat' split)
  · exact .refl s
  · exact .after (keeps_pushMain _ _) (.of_core_eq rfl)
  · exact .refl s

end Sys2Proof.Machine
end

section
/-! The commands of chapters 8, 10 and 11 keep the invariants: the chamber and Station Control. -/

namespace Sys2Proof.Machine

variable {A : Part → Bool} {s₀ : State}

/-! ### The Admission Unit (chapter 8) -/

section Chamber

variable (hR : A .rooms = true)
include hR

theorem keeps_writeLaneOwn (lane use : BitVec 8) (capacity occupancy order : BitVec 16) (s : State) :
    Keeps A s₀ s (writeLaneOwn lane use capacity occupancy order s).state := by
  unfold writeLaneOwn
  dsimp only
  split
  · exact .refl s
  split
  · exact .refl s
  split
  · exact .refl s
  · exact .after (keeps_resum _) (keeps_updateLane hR _ _ s)

theorem keeps_drawdownOwn (lane : BitVec 8) (count : BitVec 16) (s : State) :
    Keeps A s₀ s (drawdownOwn lane count s).state := by
  unfold drawdownOwn
  dsimp only
  split
  · exact .refl s
  split
  · exact .refl s
  · dsimp only
    split
    · exact .after (keeps_serve hR _) (keeps_updateLane hR _ _ s)
    · exact keeps_updateLane hR _ _ s

theorem keeps_meetEntry (m : Manifest) (s : State) : Keeps A s₀ s (meetEntry m s) := by
  unfold meetEntry
  split
  · exact .refl s
  split
  · exact .refl s
  split
  · exact .refl s
  split
  · exact keeps_setAdmission hR _ _ s
  · dsimp only
    split
    · exact .after (keeps_serve hR _) (.trans (.after (keeps_setAdmission hR _ _ _) (keeps_updateLane hR _ _ s))
        (.of_core_eq rfl))
    · exact .after (keeps_serve hR _) ((keeps_setAdmission hR _ _ s).trans (.of_core_eq rfl))

theorem keeps_takeManifest (source : Nat) (p : ManifestFields) (s : State) :
    Keeps A s₀ s (takeManifest source p s) := by
  unfold takeManifest storeManifest
  split
  · exact .of_core_eq rfl
  · split
    · exact .after (keeps_meetEntry hR _ _) (keeps_manifests fun h => (List.length_set ..).trans h)
    · split
      · exact keeps_manifests fun h => (List.length_set ..).trans h
      · exact .after (keeps_latch _ _) (.of_core_eq rfl)

omit hR in
theorem keeps_manifestOut (index : Nat) (s : State) : Keeps A s₀ s (manifestOut index s) := by
  unfold manifestOut
  (repeat' split)
  · exact .refl s
  · exact .refl s
  · exact (keeps_manifests (l := s.adm.manifests.set index none) fun h => (List.length_set ..).trans h).trans (.of_core_eq rfl)

theorem keeps_takeAsk (source : Nat) (trayId : BitVec 32) (s : State) : Keeps A s₀ s (takeAsk source trayId s) := by
  have hanswer (a : Answer) (lane : Nat) (t : State) : Keeps A s₀ t (answer source trayId a lane t) := keeps_pushAnswer _ t
  unfold takeAsk askEntry askNew
  dsimp only
  split
  · exact .of_core_eq rfl
  split
  · exact hanswer _ _ s
  split
  · split
    · split
      · exact .after (hanswer _ _ _) (keeps_setAdmission hR _ _ s)
      · exact .after (hanswer _ _ _) (keeps_setAdmission hR _ _ s)
      · exact hanswer _ _ s
      · exact hanswer _ _ s
    · exact .refl s
  · split
    · exact hanswer _ _ s
    split
    · exact hanswer _ _ s
    split
    · exact hanswer _ _ s
    split
    · exact hanswer _ _ s
    · exact .after (keeps_serve hR _) (.after (hanswer _ _ _) ((keeps_setAdmission hR _ _ s).trans (.of_core_eq rfl)))

theorem keeps_pendingOut (index : Nat) (s : State) : Keeps A s₀ s (pendingOut index s) := by
  unfold pendingOut
  split
  · exact .refl s
  split
  · exact ((keeps_timeTo _ s).trans (keeps_removeEntry hR _ _ _)).trans (.of_core_eq rfl)
  · exact .refl s

theorem keeps_claimOut (index : Nat) (s : State) : Keeps A s₀ s (claimOut index s) := by
  unfold claimOut
  split
  · exact .refl s
  split
  · exact .after (keeps_serve hR _) (.after (keeps_latch _ _) (.after (keeps_discardReady hR _ _ _) (keeps_timeTo _ s)))
  · exact .refl s

theorem keeps_arrivalOut (hT : A .trace = true) (index : Nat) (s : State) : Keeps A s₀ s (arrivalOut index s) := by
  unfold arrivalOut
  split
  · exact .refl s
  split
  · exact .after (keeps_serve hR _) (.after (keeps_latch _ _)
      (.after (keeps_declareMissing hR hT _ _ _) (keeps_timeTo _ s)))
  · exact .refl s

omit hR in
theorem keeps_addNote (n : Note) (s : State) : Keeps A s₀ s (addNote n s) := by
  unfold addNote
  split
  · next h => exact keeps_notes fun _ => by simpa using h
  · exact (keeps_notes (l := s.adm.notes.tail ++ [n]) fun h => by
      rw [List.length_append, List.length_tail, List.length_singleton]; omega).trans (.of_core_eq rfl)

theorem keeps_takeChamberPass (p : TrayPassFields) (s : State) : Keeps A s₀ s (takeChamberPass p s) := by
  unfold takeChamberPass makeInbound
  dsimp only
  split
  · exact .of_core_eq rfl
  split
  · split
    · exact .after (keeps_setAdmission hR _ _ _) (.of_core_eq rfl)
    · exact .refl s
    · exact keeps_addNote _ s
  · exact keeps_addNote _ s

theorem keeps_takeTrayFrame (hE : A .expected = true) (hA : A .flow = true) (source : Nat) (p : TrayPassFields) (s : State) :
    Keeps A s₀ s (takeTrayFrame source p s) := by
  unfold takeTrayFrame
  split
  · exact keeps_takeChamberPass hR p s
  · exact keeps_takeTrayPass hE hA source p s

theorem keeps_infeedAtAdm (hT : A .trace = true) (s : State) : Keeps A s₀ s (infeedAtAdm s) := by
  unfold infeedAtAdm
  split
  · exact .refl s
  split
  · have hstray : Keeps A s₀ s { s with
        adm.laneSelect := 0, adm.strays := bump s.adm.strays 1, adm.notes := s.adm.notes.tail } :=
      (keeps_notes (l := s.adm.notes.tail) fun h => by rw [List.length_tail]; omega).trans (.of_core_eq rfl)
    unfold strayArrival traceStray
    dsimp only
    split
    · exact hstray.trans (keeps_writeTrace hT _ _)
    · exact .after (keeps_latch _ _) (hstray.trans (.of_core_eq rfl))
  split
  · exact .refl s
  · next e _ =>
    have hadmitted : Keeps A s₀ s (updateLane e.laneNo Lane.occupy { s with adm.laneSelect := e.laneNo }) :=
      .after (keeps_updateLane hR _ _ _) (.of_core_eq rfl)
    exact .after (keeps_serve hR _) ((hadmitted.trans ((keeps_writeTrace hT _ _).trans
      (keeps_removeEntry hR _ _ _))).trans (.of_core_eq rfl))

theorem keeps_infeedEvent (hT : A .trace = true) (hE : A .expected = true) (hA : A .flow = true) (s : State) :
    Keeps A s₀ s (infeedEvent s) := by
  unfold infeedEvent
  split
  · exact keeps_infeedAtTry hA hE s
  · exact keeps_infeedAtTry hA hE s
  · exact keeps_infeedAtAdm hR hT s
  · exact .refl s

theorem keeps_freeTraceOwn (hT : A .trace = true) (s : State) : Keeps A s₀ s (freeTraceOwn s).state := by
  unfold freeTraceOwn
  split
  · exact .refl s
  split
  · exact .refl s
  · exact .after (keeps_serve hR _) (keeps_trc hT fun h => by
      rw [List.length_tail]; omega)

end Chamber

theorem keeps_readTraceOwn (hT : A .trace = true) (s : State) : Keeps A s₀ s (readTraceOwn s).state := by
  unfold readTraceOwn
  split
  · exact .refl s
  · exact keeps_trc hT fun h => h

theorem readLaneOwn_state (lane : BitVec 8) (s : State) : (readLaneOwn lane s).state = s := by
  unfold readLaneOwn; split <;> rfl

theorem readAdmissionOwn_state (index : BitVec 8) (s : State) : (readAdmissionOwn index s).state = s := by
  unfold readAdmissionOwn; dsimp only; (repeat' split) <;> rfl

/-! ### Station Control (chapters 10 and 11) -/

theorem keeps_writeSettingOwn (hS : A .settings = true) (hP : A .peers = true) (number : BitVec 16) (value : BitVec 32)
    (s : State) : Keeps A s₀ s (writeSettingOwn number value s).state := by
  unfold writeSettingOwn
  dsimp only
  split
  · exact .refl s
  · next hm =>
    split
    · exact .refl s
    · next h => exact keeps_storeSetting hS hP (not_not.1 hm) h

theorem readSettingOwn_state (number : BitVec 16) (s : State) : (readSettingOwn number s).state = s := by
  unfold readSettingOwn; dsimp only; split <;> rfl

/-- RESUME's clearing moves the causes and the lane failures alone. -/
theorem clearCauses_eq (s : State) :
    clearCauses s = { s with stc.causes := (clearCauses s).stc.causes, lid := (clearCauses s).lid } := by
  unfold clearCauses; dsimp only; (repeat' split) <;> rfl

/-- Of LID's state RESUME clears the tripped set alone. -/
theorem clearCauses_lid (s : State) : (clearCauses s).lid = { s.lid with tripped := (clearCauses s).lid.tripped } := by
  unfold clearCauses; dsimp only; (repeat' split) <;> rfl

/-- The lane failures after RESUME leave the reels as they were. -/
theorem keeps_clearedLids (hL : A .lids = true) (u s : State) (hlid : s.lid = u.lid) :
    Keeps A s₀ s { s with lid := (clearCauses u).lid } := by
  rw [clearCauses_lid, ← hlid]
  exact keeps_lid hL (fun h => h) fun h => h

section Modes

variable (hA : A .flow = true)
include hA

theorem keeps_holdOwn (s : State) : Keeps A s₀ s (holdOwn s).state := by
  unfold holdOwn
  split
  · exact .after (keeps_settleFlow hA _) (keeps_addCause hA _ s)
  · exact .refl s

omit hA in
/-- RESUME's clearing in a mode that keeps no record of its causes, or with a cause left (R168). -/
theorem keeps_clearCauses (hL : A .lids = true) {s : State} (hm : s.mode ≠ .running)
    (hheld : s.mode = .held → (clearCauses s).stc.causes ≠ 0#8) : Keeps A s₀ s (clearCauses s) := by
  rw [clearCauses_eq]
  exact (keeps_causes (c := (clearCauses s).stc.causes) fun _ => ⟨fun h => absurd h hm, hheld⟩).trans
    (keeps_clearedLids hL s _ rfl)

/-- RESUME with no cause left runs the station (R168). -/
theorem keeps_enterRunning_clearCauses (hR : A .rooms = true) (hL : A .lids = true) {s : State} (hm : s.mode = .held)
    (hc : (clearCauses s).stc.causes = 0#8) : Keeps A s₀ s (enterRunning (clearCauses s)) := by
  have hrunning : Keeps A s₀ s { s with
      stc.mode := .running, stc.causes := (clearCauses s).stc.causes, lid := (clearCauses s).lid } :=
    (keeps_mode (m := .running) (c := (clearCauses s).stc.causes) hA (by simp) (by simp)
      (fun hs _ => settled_of_started (by rw [hm]; rfl) hs) fun _ => ⟨fun _ => hc, by simp⟩).trans
        (keeps_clearedLids hL s _ rfl)
  have heq : { clearCauses s with stc.mode := .running } =
      { s with stc.mode := .running, stc.causes := (clearCauses s).stc.causes, lid := (clearCauses s).lid } := by
    conv_lhs => rw [clearCauses_eq]
  exact .after (keeps_serve hR _) (.after (keeps_placeState _ _) (heq ▸ hrunning))

theorem keeps_resumeOwn (hR : A .rooms = true) (hL : A .lids = true) (s : State) : Keeps A s₀ s (resumeOwn s).state := by
  unfold resumeOwn
  split
  · exact .refl s
  · exact .refl s
  · exact .refl s
  · exact .refl s
  · next hm =>
    dsimp only
    split
    · next hc => exact .after (keeps_settleFlow hA _) (keeps_enterRunning_clearCauses hA hR hL hm hc)
    · next hc => exact keeps_clearCauses hL (by simp [hm]) fun _ => hc
  · next hm => exact keeps_clearCauses hL (by simp [hm]) (by simp [hm])
  · next hm => exact keeps_clearCauses hL (by simp [hm]) (by simp [hm])

theorem keeps_sanitiseOwn (hR : A .rooms = true) (s : State) : Keeps A s₀ s (sanitiseOwn s).state := by
  unfold sanitiseOwn
  split
  · next hm =>
    have hstarted : s.mode.started = true := by
      simp only [Bool.or_eq_true, decide_eq_true_eq] at hm
      rcases hm with hm | hm <;> simp [hm, Mode.started]
    have hdraining : Keeps A s₀ s (enterMode .draining { s with stc.drainAt := some (s.nowMs + s.drainMs) }) :=
      .after (keeps_enterMode hA _ (by simp) (by simp) (fun hs _ => settled_of_started hstarted hs)
        fun _ => ⟨by simp, by simp⟩) (.of_core_eq rfl)
    refine .after (keeps_settleFlow hA _) ?_
    unfold enterDraining
    dsimp only
    split
    · exact hdraining.trans (keeps_closeOpenLot _)
    · exact hdraining.trans (keeps_closeOnDrain _)
    · exact hdraining.trans ((keeps_table hR fun h => (List.length_map _).trans h).trans (.of_core_eq rfl))
    · exact hdraining
  · exact .refl s

theorem keeps_drainEnds (hL : A .lids = true) (s : State) : Keeps A s₀ s (drainEnds s) := by
  unfold drainEnds
  split
  · next h =>
    simp only [Bool.and_eq_true, decide_eq_true_eq] at h
    exact .after (keeps_settleFlow hA _) (keeps_enterSanitising hA hL s (by rw [h.1]; rfl))
  · exact .refl s

end Modes

/-! ### The drain timeout (R169) -/

theorem keeps_writeOffRows (hW : A .window = true) (l : List (Option Row)) (s : State) :
    Keeps A s₀ s (writeOffRows l s) := by
  induction l generalizing s with
  | nil => exact keeps_window hW (fun _ _ => rfl) (fun _ _ => ⟨Nat.zero_le _, by simp⟩) (by simp)
  | cons o rest ih =>
    cases o with
    | none => exact ih s
    | some r => exact .after (ih _) ((keeps_lotDepart r.body.lot s).trans (.of_core_eq rfl))

theorem keeps_removeRowEntries (l : List RowEntry) (s : State) : Keeps A s₀ s (removeRowEntries l s) := by
  induction l generalizing s with
  | nil => exact keeps_fewerRowArrivals (List.nil_sublist _)
  | cons e rest ih => exact .after (ih _) ((keeps_lotDepart e.body.lot s).trans (.of_core_eq rfl))

theorem keeps_removeTrayEntries (l : List TrayEntry) (s : State) : Keeps A s₀ s (removeTrayEntries l s) := by
  induction l generalizing s with
  | nil => exact keeps_fewerTrayArrivals (List.nil_sublist _)
  | cons e rest ih => exact .after (ih _) ((keeps_lotDepart e.tray.lot s).trans (.of_core_eq rfl))

theorem keeps_writeOffTrays (l : List Tray) (s : State) : Keeps A s₀ s (writeOffTrays l s) := by
  induction l generalizing s with
  | nil => exact .refl s
  | cons t rest ih => exact .after (ih _) ((keeps_lotDepart t.lot s).trans (.of_core_eq rfl))

theorem keeps_writeOffCell (i : Nat) (c : Cell) (s : State) : Keeps A s₀ s (writeOffCell i c s) := by
  unfold writeOffCell
  dsimp only
  split
  · exact .after (keeps_trayCounts ..) (.after (keeps_emptyCell _ _) (keeps_unassign _ s))
  · exact .after (keeps_trayCounts ..) (.after (keeps_emptyCell _ _) (.after (keeps_setSlot _ _ _) (keeps_unassign _ s)))

theorem keeps_writeOffCells (l : List Nat) (s : State) : Keeps A s₀ s (writeOffCells l s) := by
  induction l generalizing s with
  | nil => exact .refl s
  | cons i is ih =>
    unfold writeOffCells
    split
    · exact ih s
    · split
      · exact ih s
      · exact .after (ih _) (keeps_writeOffCell i _ s)

theorem keeps_endEntries (hR : A .rooms = true) (hT : A .trace = true) (l : List Nat) (s : State) :
    Keeps A s₀ s (endEntries l s) := by
  induction l generalizing s with
  | nil => exact .refl s
  | cons i is ih =>
    unfold endEntries
    split
    · exact ih s
    · split
      · exact .after (ih _) (keeps_discardReady hR i _ s)
      · split
        · exact .after (ih _) (keeps_declareMissing hR hT i _ s)
        · exact ih s

/-- What the roles with lots write off (R20, R39, R88, R125). -/
theorem keeps_writeOffAll_of_not_chamber (hW : A .window = true) {s : State} (hr : s.role ≠ .chamber) :
    Keeps A s₀ s (writeOffAll s) := by
  unfold writeOffAll
  dsimp only
  split
  · exact keeps_writeOffRows hW _ s
  · exact .after (keeps_removeRowEntries _ _) (keeps_writeOffRows hW _ s)
  · exact .trans (.after (keeps_writeOffTrays _ _) (.after (keeps_removeRowEntries _ _) (keeps_writeOffRows hW _ s)))
      ((keeps_forming (o := none) fun _ _ _ h => by cases h).trans
        (keeps_formed (l := []) (fun _ => Nat.zero_le _) fun _ _ _ h => by cases h))
  · exact .trans (.after (keeps_writeOffTrays _ _) (keeps_removeTrayEntries _ s))
      (keeps_queue (l := []) (fun _ => Nat.zero_le _) fun _ _ _ h => by cases h)
  · exact .after (keeps_writeOffCells _ _) (keeps_removeTrayEntries _ s)
  · next hchamber => exact absurd hchamber hr

theorem writeOffAll_of_chamber {s : State} (hr : s.role = .chamber) :
    writeOffAll s = endEntries (List.range s.adm.table.length) s := by
  rw [writeOffAll, hr]

theorem keeps_writeOffAll (hW : A .window = true) (hR : A .rooms = true) (hT : A .trace = true) (s : State) :
    Keeps A s₀ s (writeOffAll s) := by
  by_cases hr : s.role = .chamber
  · rw [writeOffAll_of_chamber hr]
    exact keeps_endEntries hR hT _ s
  · exact keeps_writeOffAll_of_not_chamber hW hr

/-- The write-offs leave the mode. -/
theorem writeOffAll_mode (s : State) : (writeOffAll s).mode = s.mode :=
  ((keeps_writeOffAll (A := except .flow) (s₀ := s) rfl rfl rfl s).same .flow rfl).1

theorem keeps_drainOut (hA : A .flow = true) (hW : A .window = true) (hR : A .rooms = true) (hT : A .trace = true)
    (hL : A .lids = true) (s : State) : Keeps A s₀ s (drainOut s) := by
  unfold drainOut
  split
  · exact .refl s
  · next d _ =>
    split
    · next hm =>
      have hmode : (writeOffAll (timeTo d { s with stc.drainAt := none })).mode = .draining :=
        (writeOffAll_mode _).trans hm
      have hwritten : Keeps A s₀ s (writeOffAll (timeTo d { s with stc.drainAt := none })) :=
        .after (keeps_writeOffAll hW hR hT _) (.of_core_eq rfl)
      dsimp only
      generalize writeOffAll (timeTo d { s with stc.drainAt := none }) = u at hmode hwritten ⊢
      have hlatched : Keeps A s₀ s (if 0 < recordsToWriteOff s then latch .writtenOff u else u) := by
        split
        · exact hwritten.trans (keeps_latch _ _)
        · exact hwritten
      have hstarted : (if 0 < recordsToWriteOff s then latch .writtenOff u else u).mode.started = true := by
        split
        · exact (congrArg Mode.started (show (latch .writtenOff u).mode = .draining from hmode)).trans rfl
        · exact (congrArg Mode.started hmode).trans rfl
      generalize (if 0 < recordsToWriteOff s then latch .writtenOff u else u) = v at hlatched hstarted ⊢
      refine .after (keeps_settleFlow hA _) ?_
      split
      · exact hlatched.trans (keeps_enterSanitising hA hL _ hstarted)
      · exact hlatched
    · exact .refl s

/-! ### END-SANITISE (R170) -/

theorem keeps_sanitiseTables (hP : A .peers = true) (s : State) : Keeps A s₀ s (sanitiseTables s) := by
  unfold sanitiseTables
  split
  · refine .after (keeps_forgetPeers hP _) ?_
    split
    · exact (keeps_lotTable (l := List.replicate 16 none) fun _ => List.length_replicate).trans
        (keeps_closes (o := none) (l := s.lot.pendingCloses) closes_of_no_open)
    · exact .refl s
  · exact .refl s

theorem sanitiseTables_stc (s : State) : (sanitiseTables s).stc = s.stc := by
  unfold sanitiseTables; (repeat' split) <;> rfl

theorem keeps_endSanitiseOwn (hA : A .flow = true) (hR : A .rooms = true) (hP : A .peers = true) (s : State) :
    Keeps A s₀ s (endSanitiseOwn s).state := by
  unfold endSanitiseOwn
  split
  · next hm =>
    have hflag : Keeps A s₀ s (if s.role = .filler then { s with lot.sanitised := true } else s) := by
      split
      · exact .of_core_eq rfl
      · exact .refl s
    have hstc : (if s.role = .filler then { s with lot.sanitised := true } else s).stc = s.stc := by split <;> rfl
    refine .after (keeps_settleFlow hA _) (.after (keeps_enterByCauses hA hR _ fun hs => ?_)
      (hflag.trans (keeps_sanitiseTables hP _)))
    refine settled_of_started ?_ hs
    rw [State.mode, sanitiseTables_stc, hstc]
    exact (congrArg Mode.started hm).trans rfl
  · exact .refl s

theorem keeps_restart {h : CmdHead} {s : State} (hr : s.port.restartPending = false) {t : State}
    (he : exec (.restart h) s = .next t) : Keeps A s₀ s t := by
  obtain rfl := Host.Outcome.next.inj he
  unfold portCommand portCheck
  rw [if_neg (by simp [hr])]
  dsimp only
  split
  · exact keeps_putResponse ..
  · exact .after (keeps_putResponse ..) (.of_core_eq rfl)

end Sys2Proof.Machine
end

section
/-! What every command keeps, and what each may move. -/

namespace Sys2Proof.Machine

/-- The commands that may move the station clock but for a reset (R172). -/
def movesClock : Instr → Bool
  | .stationSecond | .setClock _ _ => true
  | _ => false

/-- The commands that may move the plant day but for a reset (R172). -/
def movesDay : Instr → Bool
  | .setDay _ _ => true
  | _ => false

/-- The commands that may move the next sequence but for a reset (R26, R28). -/
def movesNextSeq : Instr → Bool
  | .forwardCount _ _ | .credit _ _ _ _ | .exitSensorEvent | .chillExitSensorEvent => true
  | _ => false

/-- The commands that may move the mode, the run permit or the room. -/
def movesFlow : Instr → Bool
  | .loadComplete _ | .start _ | .hold _ | .resume _ | .sanitise _ | .drainComplete | .drainTimeout | .endSanitise _
  | .openLot _ _ _ _ | .closeLot _ | .removeTray _ _ | .forwardCount _ _ | .reverseCount | .credit _ _ _ _ | .creditExpiry
  | .rowPass _ _ _ | .trayPass _ _ _ | .chamberTrayPass _ _ _ | .transitLimitExpiry | .lotOpenRepetition
  | .pendingLotFramesQueued | .exitSensorEvent | .chillExitSensorEvent | .trayCloseTime | .infeedSensorEvent
  | .chamberInfeedEvent | .shuttleDone | .shuttleTimeout | .stationStatePeriod | .pendingStationStatePlaced | .frameSent
  | .corruptedOwnFrame | .longArbitrationLoss => true
  | _ => false

/-- The commands that may move a chamber's lanes or its admission table (chapter 8). -/
def movesRooms : Instr → Bool
  | .loadComplete _ | .start _ | .resume _ | .endSanitise _ | .sanitise _ | .drainTimeout | .frameSent | .freeTrace _
  | .writeLane _ _ _ _ _ _ | .drawdown _ _ _ | .manifest _ _ _ | .admitAsk _ _ _ | .claimWindow _ | .arrivalWindow _
  | .pendingLapse _ | .trayPass _ _ _ | .chamberTrayPass _ _ _ | .infeedSensorEvent | .chamberInfeedEvent => true
  | _ => false

/-- What a command other than a reset may move. -/
def mayMove (c : Instr) : Part → Bool
  | .trace => movesTrace c
  | .lids => movesLids c
  | .probe => movesProbe c
  | .settings => movesSettings c
  | .tables => movesTables c
  | .window => movesWindow c
  | .expected => movesExpected c
  | .peers => movesPeers c
  | .clock => movesClock c
  | .day => movesDay c
  | .nextSeq => movesNextSeq c
  | .flow => movesFlow c
  | .rooms => movesRooms c

theorem Keeps.of_eq {A : Part → Bool} {s₀ s t : State} (h : t = s) : Keeps A s₀ s t := by
  rw [h]; exact .refl s

/-- A RESTART that waits is taken: what its reset leaves, whatever the port has delivered (R173, R174). -/
def Resets (s t : State) : Prop :=
  s.port.restartPending = true ∧ ∃ bytes, t = { restartReset s with port := { State.reset.port with delivered := bytes } }

theorem resets_restartReset {s : State} (h : s.port.restartPending = true) : Resets s (restartReset s) :=
  ⟨h, s.port.delivered, rfl⟩

/-- A port command takes a RESTART that waits, or keeps what its own rule keeps. -/
theorem portCommand_keeps {A : Part → Bool} {s₀ : State} {code n : Nat} {roles : Role → Bool} {enums : Bool}
    {own : State → Reply} {h : CmdHead} {s : State}
    (hown : s.mode ≠ .starting → roles s.role = true → Keeps A s₀ s (own s).state) :
    Keeps A s₀ s (portCommand code n false roles enums own h s) ∨
      Resets s (portCommand code n false roles enums own h s) := by
  by_cases hr : s.port.restartPending = true
  · right
    rw [portCommand, if_pos hr]
    exact resets_restartReset hr
  · exact .inl (keeps_portCommand (by simpa using hr) hown)

/-- Every command but a hard reset moves what it may and carries every invariant along, or takes a RESTART that waits. -/
theorem exec_keeps_or_resets {c : Instr} {s t : State} (hc : c ≠ .hardReset) (he : exec c s = .next t) :
    Keeps (mayMove c) s s t ∨ Resets s t := by
  cases c
  case hardReset => exact absurd rfl hc
  case restart h =>
    by_cases hr : s.port.restartPending = true
    · obtain rfl := Host.Outcome.next.inj he
      right
      rw [portCommand, if_pos hr]
      exact resets_restartReset hr
    · exact .inl (keeps_restart (by simpa using hr) he)
  all_goals obtain rfl := Host.Outcome.next.inj he
  case loadComplete image =>
    left
    split
    · next hm => exact .after (keeps_settleFlow rfl _) (keeps_completeLoad rfl rfl rfl rfl rfl _ hm)
    · exact .refl s
  case frameError code tag =>
    rw [frameErrorStep]
    split
    · exact .inr (resets_restartReset ‹_›)
    · exact .inl (.of_core_eq rfl)
  case unknownCommand code tag =>
    rw [unknownStep]
    split
    · exact .inl (.refl s)
    split
    · exact .inr (resets_restartReset ‹_›)
    · exact .inl (keeps_putResponse ..)
  case responseTransfer =>
    rw [responseStep]
    dsimp only
    split
    · exact .inr ⟨‹_›, _, rfl⟩
    · exact .inl (.of_core_eq rfl)
  case selectAsserted =>
    rw [selectStep]
    split
    · exact .inr (resets_restartReset ‹_›)
    · exact .inl (.refl s)
  case writeSetting h number value => exact portCommand_keeps fun _ _ => keeps_writeSettingOwn rfl rfl number value s
  case readSetting h number => exact portCommand_keeps fun _ _ => .of_eq (readSettingOwn_state number s)
  case start h =>
    refine portCommand_keeps fun _ _ => ?_
    unfold startOwn
    split
    · exact .refl s
    · next hm => exact keeps_startSteps rfl rfl rfl (not_not.1 hm)
  case hold h => exact portCommand_keeps fun _ _ => keeps_holdOwn rfl s
  case resume h => exact portCommand_keeps fun _ _ => keeps_resumeOwn rfl rfl rfl s
  case sanitise h => exact portCommand_keeps fun _ _ => keeps_sanitiseOwn rfl rfl s
  case drainComplete => exact .inl (keeps_drainEnds rfl rfl s)
  case drainTimeout => exact .inl (keeps_drainOut rfl rfl rfl rfl rfl s)
  case endSanitise h => exact portCommand_keeps fun _ _ => keeps_endSanitiseOwn rfl rfl rfl s
  case setClock h value => exact portCommand_keeps fun _ _ => keeps_clock rfl
  case setDay h value => exact portCommand_keeps fun _ _ => keeps_day rfl
  case readStatus h => exact portCommand_keeps fun _ _ => .refl s
  case readNotices h => exact portCommand_keeps fun _ _ => keeps_notices 0#32 s
  case readPeers h => exact portCommand_keeps fun _ _ => .refl s
  case forceReject h position lane => exact portCommand_keeps fun _ _ => keeps_forceRejectOwn rfl position lane s
  case readRow h position => exact portCommand_keeps fun _ _ => .of_eq (readRowOwn_state position s)
  case readArrival h index => exact portCommand_keeps fun _ _ => .of_eq (readArrivalOwn_state index s)
  case writeProduct h index mark p => exact portCommand_keeps fun _ _ => keeps_writeProductOwn rfl index mark p s
  case writeTransition h prev next kind count =>
    exact portCommand_keeps fun _ _ => keeps_writeTransitionOwn rfl prev next kind count s
  case openLot h index tank lot => exact portCommand_keeps fun _ _ => keeps_openLotOwn rfl index tank lot s
  case closeLot h => exact portCommand_keeps fun _ _ => keeps_closeLotOwn rfl s
  case readLot h index => exact portCommand_keeps fun _ _ => .of_eq (readLotOwn_state index s)
  case loadReel h reel flavour useBy lids =>
    exact portCommand_keeps fun _ _ => keeps_loadReelOwn rfl reel flavour useBy lids s
  case splice h => exact portCommand_keeps fun _ _ => keeps_spliceOwn rfl s
  case readReels h => exact portCommand_keeps fun _ _ => .refl s
  case readTray h place => exact portCommand_keeps fun _ _ => .of_eq (readTrayOwn_state place s)
  case readZone h index => exact portCommand_keeps fun _ _ => .of_eq (readZoneOwn_state index s)
  case writeOrder h bank index mark o => exact portCommand_keeps fun _ _ => keeps_writeOrderOwn bank index mark o s
  case readOrder h bank index => exact portCommand_keeps fun _ _ => .of_eq (readOrderOwn_state bank index s)
  case swapBook h bank => exact portCommand_keeps fun _ _ => keeps_swapBookOwn bank s
  case retryTray h cell => exact portCommand_keeps fun _ _ => keeps_retryTrayOwn cell s
  case removeTray h cell => exact portCommand_keeps fun _ _ => keeps_removeTrayOwn rfl cell s
  case readTrace h => exact portCommand_keeps fun _ _ => keeps_readTraceOwn rfl s
  case freeTrace h => exact portCommand_keeps fun _ _ => keeps_freeTraceOwn rfl rfl s
  case writeLane h lane use capacity occupancy order =>
    exact portCommand_keeps fun _ _ => keeps_writeLaneOwn rfl lane use capacity occupancy order s
  case readLane h lane => exact portCommand_keeps fun _ _ => .of_eq (readLaneOwn_state lane s)
  case readAdmission h index => exact portCommand_keeps fun _ _ => .of_eq (readAdmissionOwn_state index s)
  case drawdown h lane count => exact portCommand_keeps fun _ _ => keeps_drawdownOwn rfl lane count s
  case forwardCount presence bond => exact .inl (keeps_forwardStep ⟨rfl, rfl, rfl, rfl, rfl⟩ presence bond s)
  case reverseCount => exact .inl (keeps_reverseStep rfl rfl s)
  case rejectPulseEnd lane => exact .inl (keeps_pulseEnd lane s)
  case credit src tgt limit room => exact .inl (keeps_receive fun hm hs => keeps_takeCredit rfl rfl limit room hm hs)
  case creditExpiry => exact .inl (keeps_creditLapse rfl s)
  case creditRefresh => exact .inl (keeps_refreshCredit s)
  case rowPass src tgt p => exact .inl (keeps_receive fun _ _ => keeps_takeRowPass rfl rfl _ p s)
  case trayPass src tgt p => exact .inl (keeps_receive fun _ _ => keeps_takeTrayFrame rfl rfl rfl _ p s)
  case chamberTrayPass src tgt p => exact .inl (keeps_receive fun _ _ => keeps_takeTrayFrame rfl rfl rfl _ p s)
  case transitLimitExpiry => exact .inl (keeps_expireArrival rfl s)
  case lotOpen src tgt p => exact .inl (keeps_receive fun _ _ => keeps_takeLotOpen _ p s)
  case lotCloseFrame src tgt lot => exact .inl (keeps_receive fun _ _ => keeps_takeLotClose _ lot s)
  case lotOpenRepetition => exact .inl (keeps_lotOpenRepeat rfl s)
  case pendingLotFramesQueued => exact .inl (keeps_queuePendingLots rfl s)
  case exitSensorEvent => exact .inl (keeps_exitEvent rfl rfl s)
  case chillExitSensorEvent => exact .inl (keeps_exitEvent rfl rfl s)
  case trayCloseTime => exact .inl (keeps_closeTimeOut rfl s)
  case infeedSensorEvent => exact .inl (keeps_infeedEvent rfl rfl rfl rfl s)
  case chamberInfeedEvent => exact .inl (keeps_infeedEvent rfl rfl rfl rfl s)
  case reading width => exact .inl (keeps_takeReading rfl width s)
  case miss => exact .inl (keeps_takeMiss rfl s)
  case stationSecond => exact .inl (keeps_secondStep rfl rfl rfl s)
  case seriesStart => exact .inl (keeps_startSeries s)
  case admitReply src tgt trayId a lane => exact .inl (keeps_receive fun _ _ => keeps_takeReply _ trayId a lane s)
  case answerTimeout slot => exact .inl (keeps_answerTimeOut slot s)
  case repeatTimer slot => exact .inl (keeps_repeatOut slot s)
  case dueAskQueued => exact .inl (keeps_queueDueAsk s)
  case grantExpiry cell => exact .inl (keeps_grantOut cell s)
  case releaseBegin => exact .inl (keeps_beginRelease s)
  case shuttleDone => exact .inl (keeps_shuttleEnd rfl rfl s)
  case shuttleTimeout => exact .inl (keeps_shuttleTimeOut rfl s)
  case pendingTrayPassQueued => exact .inl (keeps_queuePendingPass s)
  case manifest src tgt p => exact .inl (keeps_receive fun _ _ => keeps_takeManifest rfl _ p s)
  case admitAsk src tgt trayId => exact .inl (keeps_receive fun _ _ => keeps_takeAsk rfl _ trayId s)
  case claimWindow index => exact .inl (keeps_claimOut rfl index s)
  case arrivalWindow index => exact .inl (keeps_arrivalOut rfl rfl index s)
  case manifestLifetime index => exact .inl (keeps_manifestOut index s)
  case pendingLapse index => exact .inl (keeps_pendingOut rfl index s)
  case stationState src tgt role mode => exact .inl (keeps_receive fun _ _ => keeps_takeStationState rfl _ role mode s)
  case peerTimeout station => exact .inl (keeps_peerOut rfl station s)
  case stationStatePeriod => exact .inl (keeps_stateFallsDue rfl s)
  case pendingStationStatePlaced => exact .inl (keeps_placePendingState rfl s)
  case badFrame endedRight bytes => exact .inl (keeps_takeBadFrame endedRight bytes s)
  case frameOffer => exact .inl (keeps_offerFrame s)
  case frameSent => exact .inl (keeps_sentFrame rfl rfl s)
  case lostArbitration => exact .inl (.of_core_eq rfl)
  case corruptedOwnFrame => exact .inl (keeps_corruptFrame rfl s)
  case longArbitrationLoss => exact .inl (keeps_waitTooLong rfl s)

/-- With no RESTART waiting a command other than a hard reset moves what it may and carries every invariant along. -/
theorem exec_keeps {c : Instr} {s t : State} (hc : c ≠ .hardReset) (hr : s.port.restartPending = false)
    (he : exec c s = .next t) : Keeps (mayMove c) s s t :=
  (exec_keeps_or_resets hc he).resolve_right fun h => absurd h.1 (by simp [hr])

end Sys2Proof.Machine
end

section
/-! The invariants after a reset and at every step (R129, R173). -/

namespace Sys2Proof.Machine

/-! ### Right after a hard reset -/

theorem not_mem_replicate_none {α : Type} {n : Nat} {x : α} (h : some x ∈ List.replicate n none) : False := by
  simpa using List.eq_of_mem_replicate h

theorem bounded_reset : Bounded State.reset where
  length := by decide
  window := Nat.zero_le _
  waiting _ := rfl
  rowPots _ h := by cases h
  entryPots _ h := by cases h
  pulses := rfl
  fails := rfl
  products := List.length_replicate
  transitions := by simp [State.reset, Stc.fresh, defaultTransitions]
  rowArrivals := Nat.zero_le _
  trayArrivals := Nat.zero_le _
  formed := Nat.zero_le _
  queue := Nat.zero_le _
  cells := rfl
  lots := rfl
  slots := rfl
  books := ⟨rfl, rfl⟩
  ring := Nat.zero_le _
  manifests := rfl
  admissions := rfl
  lanes := rfl
  notes := Nat.zero_le _
  answers := Nat.zero_le _
  mains := Nat.zero_le _
  peers := rfl
  room := Nat.zero_le _
  closes := Nat.zero_le _

theorem attentionFits_reset : AttentionFits State.reset := by unfold AttentionFits; decide

theorem causesFit_reset : CausesFit State.reset := ⟨by decide, by decide⟩

theorem reelsFit_reset : ReelsFit State.reset := ⟨fun _ h => (by cases h), fun _ h => (by cases h)⟩

theorem flowFits_reset : FlowFits State.reset where
  permit h := by cases h
  room _ := rfl

theorem exposureFits_reset : ExposureFits State.reset where
  rows _ h := by cases h
  rowEntries _ h := by cases h
  trayEntries _ h := by cases h
  forming _ h := by cases h
  formed _ h := by cases h
  queue _ h := by cases h
  cells _ h := (not_mem_replicate_none h).elim

theorem settingsFit_reset : SettingsFit State.reset where
  count := settingsOk_default.1
  ranges := settingsOk_default.2
  positions h := by cases h
  order h := by cases h

theorem countsFit_reset : CountsFit State.reset where
  perIndex := by decide
  position := by decide
  debt := Nat.zero_le _
  waiting _ := ⟨rfl, rfl⟩

theorem creditFits_reset : CreditFits State.reset where
  held _ := rfl
  waiting _ h := by cases h

theorem mem_default_lanes {l : Lane} (h : l ∈ State.reset.adm.lanes) : l = Lane.fresh .off 1 :=
  List.eq_of_mem_replicate h

theorem lane_mem {s : State} {n : Nat} {l : Lane} (h : s.lane n = some l) : l ∈ s.adm.lanes := by
  unfold State.lane at h
  split at h
  · cases h
  · exact List.mem_of_getElem? h

theorem reservationsFit_reset : ReservationsFit State.reset where
  lanes := rfl
  ring := Nat.zero_le _
  elsewhere _ _ h := List.eq_of_mem_replicate h
  laneNumbers _ h := (not_mem_replicate_none h).elim
  reserved n l h := by
    rw [mem_default_lanes (lane_mem h)]
    rfl
  capacity l h := by
    rw [mem_default_lanes h]
    decide
  outcomes := by decide

/-! ### One step -/

/-- Everything may move. -/
def anything : Part → Bool := fun _ => true

theorem Keeps.anything {A : Part → Bool} {s₀ s t : State} (h : Keeps A s₀ s t) : Keeps anything s₀ s t :=
  { h with same := fun p hp => by cases hp }

/-- A reset leaves the values after a hard reset, but for fields that fit as they did before it (R173). -/
theorem keeps_reset_of_resets {s t : State} (h : Resets s t) : Keeps anything s State.reset t := by
  obtain ⟨-, bytes, rfl⟩ := h
  exact { same := fun _ hp => (by cases hp), bounded := fun h₀ h => { h with ring := h₀.ring } }

theorem keeps_hardReset (s : State) : Keeps anything s State.reset (hardReset s) := .of_core_eq rfl

/-- A command carries every invariant along, from the state it is taken in or from the state after a reset. -/
theorem exec_carries {c : Instr} {s t : State} (h : exec c s = .next t) :
    Keeps anything s s t ∨ Keeps anything s State.reset t := by
  by_cases hc : c = .hardReset
  · subst hc
    obtain rfl := Host.Outcome.next.inj h
    exact .inr (keeps_hardReset s)
  · obtain hk | hr := exec_keeps_or_resets hc h
    · exact .inl hk.anything
    · exact .inr (keeps_reset_of_resets hr)

/-- A step is an idle one, which lets a millisecond pass or queues a command, or a command taken. -/
theorem step_cases {s t : State} (h : step s = .next t) :
    t.core = s.core ∨ ∃ c u, u.core = s.core ∧ u.trc = s.trc ∧ exec c u = .next t := by
  unfold step at h
  split at h
  · obtain rfl := Host.Outcome.next.inj h
    left
    unfold idle
    split <;> rfl
  · next c rest _ => exact .inr ⟨c, { s with pending := rest }, rfl, rfl, h⟩

/-- An invariant that holds right after a hard reset, that a change of the fields no invariant speaks of leaves alone, and
that every command carries along, holds after every step. -/
theorem step_invariant {P : State → Prop} (hreset : P State.reset) (hcore : ∀ s t : State, t.core = s.core → P s → P t)
    (hkeeps : ∀ s₀ s t : State, Keeps anything s₀ s t → P s₀ → P s → P t) (s t : State) (hs : P s) (h : step s = .next t) :
    P t := by
  obtain hidle | ⟨c, u, hu, -, he⟩ := step_cases h
  · exact hcore s t hidle hs
  · have hpu : P u := hcore s u hu hs
    obtain hk | hk := exec_carries he
    · exact hkeeps u u t hk hpu hpu
    · exact hkeeps u _ t hk hpu hreset

theorem keeps_core_eq {s t : State} (h : t.core = s.core) : Keeps anything s s t := .of_core_eq h

/-- Settles O58: the values after reset, block by block. -/
theorem invariantsHoldAtReset : Obligations.InvariantsHoldAtReset :=
  ⟨bounded_reset, attentionFits_reset, causesFit_reset, reelsFit_reset, flowFits_reset, exposureFits_reset,
    settingsFit_reset, countsFit_reset, reservationsFit_reset, creditFits_reset⟩

/-- Settles O53: every command carries the bounds along, and they hold after a reset. -/
theorem storesStayBounded : Obligations.StoresStayBounded :=
  step_invariant bounded_reset (fun _ _ h hs => (keeps_core_eq h).bounded hs hs) fun _ _ _ h h₀ hs => h.bounded h₀ hs

/-- Settles O55: every command carries the lid counts and the exposures along, and they hold after a reset. -/
theorem reelsAndExposuresStayInRange : Obligations.ReelsAndExposuresStayInRange :=
  ⟨step_invariant reelsFit_reset (fun _ _ h => (keeps_core_eq h).reels) fun _ _ _ h _ hs => h.reels hs,
    step_invariant exposureFits_reset (fun _ _ h hs => (keeps_core_eq h).exposures hs hs)
      fun _ _ _ h h₀ hs => h.exposures h₀ hs⟩

/-- Settles O56: every command carries the settings' ranges and the counts along, and they hold after a reset. -/
theorem settingsAndCountsStayInRange : Obligations.SettingsAndCountsStayInRange :=
  ⟨step_invariant settingsFit_reset (fun _ _ h => (keeps_core_eq h).settings) fun _ _ _ h _ hs => h.settings hs,
    step_invariant countsFit_reset (fun _ _ h => (keeps_core_eq h).counts) fun _ _ _ h _ hs => h.counts hs⟩

/-- Settles O60: each part is the same where the command may not move it. -/
theorem blocksMoveOnlyByTheirCommands : Obligations.BlocksMoveOnlyByTheirCommands := by
  unfold Obligations.BlocksMoveOnlyByTheirCommands
  intro c s t hc hr he
  have h := (exec_keeps hc hr he).same
  exact ⟨h .trace, h .lids, h .probe, h .settings, h .tables, h .window, h .expected, h .peers⟩

end Sys2Proof.Machine
end

section
/-! The run permit and the room fit the mode after every command (R19, R37, R84, R86). -/

namespace Sys2Proof.Machine

theorem flowFits_of_same {s t : State} (h : Part.flow.Same s t) (hs : FlowFits s) : FlowFits t := by
  obtain ⟨hmode, hpermit, hroom⟩ := h
  exact ⟨fun hp => by rw [State.mode, hmode]; exact hs.permit (hpermit ▸ hp),
    fun hm => by rw [hroom]; exact hs.room (by rwa [State.mode, hmode] at hm)⟩

theorem flowFits_of_keeps {s t : State} (h : Keeps (except .flow) s s t) : FlowFits s → FlowFits t :=
  flowFits_of_same (h.same .flow rfl)

/-- The settling after a stray advance fits too (R34). -/
theorem settleAdvance_flowFits (s : State) : FlowFits (settleAdvance s) where
  permit h := by
    have := (Bool.and_eq_true _ _).mp h
    simpa [permitMode, settleAdvance, updatePermit, State.mode] using this.1
  room h := by
    have hm : s.mode ≠ .running := by simpa [settleAdvance, updatePermit, State.mode] using h
    calc (placeCredit { s with hnd.room := roomOf s }).hnd.room = roomOf s := by rw [placeCredit_hnd]
      _ = 0 := by simp [roomOf, hm]

theorem settleSince_flowFits (s t : State) : FlowFits (settleSince s t) := by
  unfold settleSince
  split
  · exact settleFlow_flowFits t
  · exact settleAdvance_flowFits t

theorem flowFits_of_resets {s t : State} (h : Resets s t) : FlowFits t := by
  obtain ⟨-, bytes, rfl⟩ := h
  exact ⟨fun h => (by cases h), fun _ => rfl⟩

theorem portCommand_flowFits {code n : Nat} {always : Bool} {roles : Role → Bool} {enums : Bool} {own : State → Reply}
    {h : CmdHead} {s : State} (hown : FlowFits s → FlowFits (own s).state) (hs : FlowFits s) :
    FlowFits (portCommand code n always roles enums own h s) := by
  unfold portCommand
  split
  · exact flowFits_of_resets (resets_restartReset ‹_›)
  · split
    · exact ⟨hs.permit, hs.room⟩
    · exact ⟨(hown hs).permit, (hown hs).room⟩

theorem receive_flowFits {kind : FrameKind} {src tgt : BitVec 5} {block : State → State} {s : State}
    (h : FlowFits s → FlowFits (block s)) (hs : FlowFits s) : FlowFits (receive kind src tgt block s) := by
  obtain heq | heq | heq | ⟨-, -, heq⟩ := receive_cases kind src tgt block s <;> rw [heq]
  · exact hs
  · exact ⟨hs.permit, hs.room⟩
  · exact ⟨hs.permit, hs.room⟩
  · exact h hs

theorem startOwn_flowFits (s : State) (hs : FlowFits s) : FlowFits (startOwn s).state := by
  unfold startOwn startSteps
  split
  · exact hs
  split
  · exact settleFlow_flowFits _
  · exact settleFlow_flowFits _

theorem holdOwn_flowFits (s : State) (hs : FlowFits s) : FlowFits (holdOwn s).state := by
  unfold holdOwn
  split
  · exact settleFlow_flowFits _
  · exact hs

theorem clearCauses_flowFits (s : State) (hs : FlowFits s) : FlowFits (clearCauses s) := by
  rw [clearCauses_eq]
  exact ⟨hs.permit, hs.room⟩

theorem resumeOwn_flowFits (s : State) (hs : FlowFits s) : FlowFits (resumeOwn s).state := by
  unfold resumeOwn
  split
  · exact hs
  · exact hs
  · exact hs
  · exact hs
  · dsimp only
    split
    · exact settleFlow_flowFits _
    · exact clearCauses_flowFits s hs
  · exact clearCauses_flowFits s hs
  · exact clearCauses_flowFits s hs

theorem sanitiseOwn_flowFits (s : State) (hs : FlowFits s) : FlowFits (sanitiseOwn s).state := by
  unfold sanitiseOwn
  split
  · exact settleFlow_flowFits _
  · exact hs

theorem endSanitiseOwn_flowFits (s : State) (hs : FlowFits s) : FlowFits (endSanitiseOwn s).state := by
  unfold endSanitiseOwn
  split
  · exact settleFlow_flowFits _
  · exact hs

theorem openLotOwn_flowFits (index tank : BitVec 8) (lot : BitVec 24) (s : State) (hs : FlowFits s) :
    FlowFits (openLotOwn index tank lot s).state := by
  have hclosed : FlowFits (closeOpenLot s) := flowFits_of_keeps (keeps_closeOpenLot s) hs
  have hopen (p : Product) (tank lot : Nat) : FlowFits (openLotSteps p tank lot s) := by
    unfold openLotSteps
    dsimp only
    split
    · exact hclosed
    · exact settleFlow_flowFits _
  unfold openLotOwn
  split
  · exact hs
  split
  · exact hs
  split
  · exact hs
  split
  · exact hs
  split
  · exact hs
  split
  · exact hs
  split
  · exact hs
  · exact hopen _ _ _

theorem closeLotOwn_flowFits (s : State) (hs : FlowFits s) : FlowFits (closeLotOwn s).state := by
  unfold closeLotOwn
  split
  · exact hs
  split
  · exact hs
  split
  · exact hs
  · exact settleFlow_flowFits _

theorem removeTrayOwn_flowFits (cell : BitVec 8) (s : State) (hs : FlowFits s) :
    FlowFits (removeTrayOwn cell s).state := by
  unfold removeTrayOwn
  dsimp only
  split
  · exact hs
  split
  · exact hs
  split
  · exact hs
  · exact settleFlow_flowFits _

theorem forwardStep_flowFits (presence bond : BitVec 8) (s : State) (hs : FlowFits s) :
    FlowFits (forwardStep presence bond s) := by
  unfold forwardStep
  split
  · exact hs
  split
  · exact ⟨hs.permit, hs.room⟩
  split
  · exact ⟨hs.permit, hs.room⟩
  · exact settleFlow_flowFits _

theorem reverseStep_flowFits (s : State) (hs : FlowFits s) : FlowFits (reverseStep s) := by
  unfold reverseStep
  split
  · exact hs
  split
  · exact ⟨hs.permit, hs.room⟩
  · exact settleFlow_flowFits _

theorem takeCredit_flowFits (source : Nat) (limit : BitVec 16) (room : BitVec 8) (s : State) (hs : FlowFits s) :
    FlowFits (takeCredit source limit room s) := by
  unfold takeCredit
  split
  · exact hs
  · exact settleFlow_flowFits _

theorem creditLapse_flowFits (s : State) (hs : FlowFits s) : FlowFits (creditLapse s) := by
  unfold creditLapse
  split
  · exact hs
  · exact settleFlow_flowFits _

theorem dropPass_flowFits (s : State) (hs : FlowFits s) : FlowFits (dropPass s) := ⟨hs.permit, hs.room⟩

theorem creditViolation_flowFits (s : State) (hs : FlowFits s) : FlowFits (creditViolation s) := ⟨hs.permit, hs.room⟩

theorem takeRowPass_flowFits (source : Nat) (p : RowPassFields) (s : State) (hs : FlowFits s) :
    FlowFits (takeRowPass source p s) := by
  unfold takeRowPass
  split
  · exact dropPass_flowFits s hs
  split
  · exact dropPass_flowFits s hs
  split
  · exact dropPass_flowFits s hs
  split
  · exact creditViolation_flowFits s hs
  · exact settleFlow_flowFits _

theorem takeTrayFrame_flowFits (source : Nat) (p : TrayPassFields) (s : State) (hs : FlowFits s) :
    FlowFits (takeTrayFrame source p s) := by
  unfold takeTrayFrame takeTrayPass
  split
  · exact flowFits_of_keeps (keeps_takeChamberPass rfl p s) hs
  split
  · exact dropPass_flowFits s hs
  split
  · exact dropPass_flowFits s hs
  split
  · exact dropPass_flowFits s hs
  split
  · exact creditViolation_flowFits s hs
  · exact settleFlow_flowFits _

theorem expireArrival_flowFits (s : State) (hs : FlowFits s) : FlowFits (expireArrival s) := by
  unfold expireArrival
  split
  · split
    · exact hs
    · exact settleFlow_flowFits _
  · split
    · exact hs
    · exact settleFlow_flowFits _

theorem lotOpenRepeat_flowFits (s : State) (hs : FlowFits s) : FlowFits (lotOpenRepeat s) := by
  unfold lotOpenRepeat
  split
  · exact hs
  · exact settleFlow_flowFits _

theorem exitEvent_flowFits (s : State) (hs : FlowFits s) : FlowFits (exitEvent s) := by
  unfold exitEvent exitAtTrayer exitAtChill
  split
  · exact hs
  split
  · split
    · exact ⟨hs.permit, hs.room⟩
    · exact settleFlow_flowFits _
  · split
    · exact ⟨hs.permit, hs.room⟩
    · exact settleFlow_flowFits _
  · exact hs

theorem closeTimeOut_flowFits (s : State) (hs : FlowFits s) : FlowFits (closeTimeOut s) := by
  unfold closeTimeOut
  split
  · exact hs
  split
  · exact hs
  · exact settleFlow_flowFits _

theorem infeedAtTry_flowFits (s : State) (hs : FlowFits s) : FlowFits (infeedAtTry s) := by
  unfold infeedAtTry
  split
  · exact hs
  split
  · exact ⟨hs.permit, hs.room⟩
  · exact settleSince_flowFits _ _

theorem infeedEvent_flowFits (s : State) (hs : FlowFits s) : FlowFits (infeedEvent s) := by
  unfold infeedEvent
  split
  · exact infeedAtTry_flowFits s hs
  · exact infeedAtTry_flowFits s hs
  · exact flowFits_of_keeps (keeps_infeedAtAdm rfl rfl s) hs
  · exact hs

theorem shuttleEnd_flowFits (s : State) (hs : FlowFits s) : FlowFits (shuttleEnd s) := by
  unfold shuttleEnd
  split
  · split
    · exact ⟨hs.permit, hs.room⟩
    split
    · exact ⟨hs.permit, hs.room⟩
    · exact settleFlow_flowFits _
  · exact hs

theorem shuttleTimeOut_flowFits (s : State) (hs : FlowFits s) : FlowFits (shuttleTimeOut s) := by
  unfold shuttleTimeOut
  split
  · exact hs
  dsimp only
  split
  · exact settleFlow_flowFits _
  · exact ⟨hs.permit, hs.room⟩

theorem drainEnds_flowFits (s : State) (hs : FlowFits s) : FlowFits (drainEnds s) := by
  unfold drainEnds
  split
  · exact settleFlow_flowFits _
  · exact hs

theorem drainOut_flowFits (s : State) (hs : FlowFits s) : FlowFits (drainOut s) := by
  unfold drainOut
  split
  · exact hs
  split
  · exact settleFlow_flowFits _
  · exact hs

theorem stateFallsDue_flowFits (s : State) (hs : FlowFits s) : FlowFits (stateFallsDue s) := by
  unfold stateFallsDue
  split
  · exact hs
  · exact settleFlow_flowFits _

theorem placePendingState_flowFits (s : State) (hs : FlowFits s) : FlowFits (placePendingState s) := by
  unfold placePendingState
  split
  · exact hs
  split
  · exact settleFlow_flowFits _
  · exact hs

theorem sentFrame_flowFits (s : State) (hs : FlowFits s) : FlowFits (sentFrame s) := by
  unfold sentFrame
  split
  · exact hs
  · exact settleFlow_flowFits _

theorem transmitFailure_flowFits (s : State) (hs : FlowFits s) : FlowFits (transmitFailure s) := by
  unfold transmitFailure
  dsimp only
  split
  · exact settleFlow_flowFits _
  · exact ⟨hs.permit, hs.room⟩

theorem corruptFrame_flowFits (s : State) (hs : FlowFits s) : FlowFits (corruptFrame s) := by
  unfold corruptFrame
  split
  · exact hs
  · exact transmitFailure_flowFits _ ⟨hs.permit, hs.room⟩

theorem waitTooLong_flowFits (s : State) (hs : FlowFits s) : FlowFits (waitTooLong s) := by
  unfold waitTooLong
  split
  · exact hs
  · exact transmitFailure_flowFits _ ⟨hs.permit, hs.room⟩

/-- Every command leaves the permit and the room fitting the mode: it settles them at its end, or leaves them. -/
theorem exec_flowFits {c : Instr} {s t : State} (he : exec c s = .next t) (hs : FlowFits s) : FlowFits t := by
  by_cases hc : c = .hardReset
  · subst hc
    obtain rfl := Host.Outcome.next.inj he
    exact ⟨fun h => (by cases h), fun _ => rfl⟩
  by_cases hf : movesFlow c = false
  · obtain hk | hr := exec_keeps_or_resets hc he
    · exact flowFits_of_same (hk.same .flow hf) hs
    · exact flowFits_of_resets hr
  cases c
  all_goals try exact absurd rfl hf
  all_goals obtain rfl := Host.Outcome.next.inj he
  case loadComplete image =>
    split
    · exact settleFlow_flowFits _
    · exact hs
  case start h => exact portCommand_flowFits (startOwn_flowFits s) hs
  case hold h => exact portCommand_flowFits (holdOwn_flowFits s) hs
  case resume h => exact portCommand_flowFits (resumeOwn_flowFits s) hs
  case sanitise h => exact portCommand_flowFits (sanitiseOwn_flowFits s) hs
  case drainComplete => exact drainEnds_flowFits s hs
  case drainTimeout => exact drainOut_flowFits s hs
  case endSanitise h => exact portCommand_flowFits (endSanitiseOwn_flowFits s) hs
  case openLot h index tank lot => exact portCommand_flowFits (openLotOwn_flowFits index tank lot s) hs
  case closeLot h => exact portCommand_flowFits (closeLotOwn_flowFits s) hs
  case removeTray h cell => exact portCommand_flowFits (removeTrayOwn_flowFits cell s) hs
  case forwardCount presence bond => exact forwardStep_flowFits presence bond s hs
  case reverseCount => exact reverseStep_flowFits s hs
  case credit src tgt limit room => exact receive_flowFits (takeCredit_flowFits _ limit room s) hs
  case creditExpiry => exact creditLapse_flowFits s hs
  case rowPass src tgt p => exact receive_flowFits (takeRowPass_flowFits _ p s) hs
  case trayPass src tgt p => exact receive_flowFits (takeTrayFrame_flowFits _ p s) hs
  case chamberTrayPass src tgt p => exact receive_flowFits (takeTrayFrame_flowFits _ p s) hs
  case transitLimitExpiry => exact expireArrival_flowFits s hs
  case lotOpenRepetition => exact lotOpenRepeat_flowFits s hs
  case pendingLotFramesQueued => exact settleFlow_flowFits _
  case exitSensorEvent => exact exitEvent_flowFits s hs
  case chillExitSensorEvent => exact exitEvent_flowFits s hs
  case trayCloseTime => exact closeTimeOut_flowFits s hs
  case infeedSensorEvent => exact infeedEvent_flowFits s hs
  case chamberInfeedEvent => exact infeedEvent_flowFits s hs
  case shuttleDone => exact shuttleEnd_flowFits s hs
  case shuttleTimeout => exact shuttleTimeOut_flowFits s hs
  case stationStatePeriod => exact stateFallsDue_flowFits s hs
  case pendingStationStatePlaced => exact placePendingState_flowFits s hs
  case frameSent => exact sentFrame_flowFits s hs
  case corruptedOwnFrame => exact corruptFrame_flowFits s hs
  case longArbitrationLoss => exact waitTooLong_flowFits s hs

theorem step_flowFits (s t : State) (hs : FlowFits s) (h : step s = .next t) : FlowFits t := by
  obtain hidle | ⟨c, u, hu, -, he⟩ := step_cases h
  · exact flowFits_of_keeps (.of_core_eq hidle) hs
  · exact exec_flowFits he (flowFits_of_keeps (.of_core_eq hu) hs)

/-- Settles O54: every command carries the causes and the line along, and settles the flow where it moves it. -/
theorem causesPermitRoomAndAttentionFit : Obligations.CausesPermitRoomAndAttentionFit :=
  ⟨step_invariant causesFit_reset (fun _ _ h => (keeps_core_eq h).causes) fun _ _ _ h _ hs => h.causes hs,
    step_flowFits,
    step_invariant attentionFits_reset (fun _ _ h => (keeps_core_eq h).attention) fun _ _ _ h _ hs => h.attention hs⟩

end Sys2Proof.Machine
end

section
/-! What moves the next sequence, the clock and the plant day, and the trace ring (R26, R28, R127, R172). -/

namespace Sys2Proof.Machine

/-! ### The next sequence (R26, R28) -/

theorem nextSeq_of_keeps {s₀ s t : State} (h : Keeps (except .nextSeq) s₀ s t) : t.hnd.nextSeq = s.hnd.nextSeq :=
  h.same .nextSeq rfl

/-- A pass takes the next sequence, which the sending rule admitted; anything else leaves it (R26). -/
def PassTaken (s t : State) : Prop := t.hnd.nextSeq = s.hnd.nextSeq + 1#16 ∧ admitsNext s = true

theorem admitsNext_of_maySend {s : State} (h : maySend s = true) : admitsNext s = true := (Bool.and_eq_true _ _ ▸ h).1

theorem exitStage_nextSeq (s : State) : (exitStage s).hnd.nextSeq = s.hnd.nextSeq ∨ PassTaken s (exitStage s) := by
  unfold exitStage
  split
  · exact .inl rfl
  split
  · exact .inl (nextSeq_of_keeps (s₀ := s) (keeps_lotDepart _ s))
  split
  · split
    · exact .inl (nextSeq_of_keeps (s₀ := s) (keeps_writeOffRow _ s))
    · next r hr _ _ _ =>
      exact .inl (nextSeq_of_keeps (s₀ := s) (keeps_formRow (fun h => h.rows r (mem_of_slotAt hr)) s))
  · split
    · next hmay => exact .inr ⟨by simp [sendRow], admitsNext_of_maySend hmay⟩
    · exact .inl (nextSeq_of_keeps (s₀ := s) (keeps_writeOffRow _ s))

/-- After the exit stage an index event leaves the next sequence. -/
theorem indexEvent_nextSeq (presence bond : BitVec 8) {s : State} (hw : ¬ s.waiting) :
    (indexEvent presence bond s).hnd.nextSeq = (exitStage s).hnd.nextSeq := by
  have hexit : ¬ (exitStage s).waiting :=
    not_waiting_of_keeps (A := anything) (keeps_exitStage (s₀ := s) rfl s) hw
  have hadvance : Keeps (except .nextSeq) s (exitStage s) (advanceStage (exitStage s)) :=
    keeps_advanceStage rfl _ hexit
  have hfill : Keeps (except .nextSeq) s (exitStage s) (fillWindow presence s) :=
    .after (keeps_settleSince rfl _ _)
      (hadvance.trans (keeps_fillStage rfl rfl presence _ (not_waiting_of_keeps hadvance hexit)))
  exact nextSeq_of_keeps (.after (keeps_settleFlow rfl _) (.after (keeps_closeOnDrain _)
    (.after (keeps_treatStage rfl rfl rfl bond _) hfill)))

theorem forwardStep_nextSeq (presence bond : BitVec 8) (s : State) :
    (forwardStep presence bond s).hnd.nextSeq = s.hnd.nextSeq ∨ PassTaken s (forwardStep presence bond s) := by
  unfold forwardStep
  split
  · exact .inl rfl
  · next ht =>
    split
    · exact .inl rfl
    split
    · exact .inl rfl
    · have hw : ¬ ({ s with idx.posCount := 0 } : State).waiting := not_waiting_of_takesCounts (s := s) (by simpa using ht)
      have hexit := exitStage_nextSeq { s with idx.posCount := 0 }
      unfold PassTaken at hexit ⊢
      rw [indexEvent_nextSeq _ _ hw]
      exact hexit

theorem releaseHead_nextSeq (t : Tray) {s u : State} (hhnd : u.hnd = s.hnd) :
    (releaseHead (maySend s) t u).hnd.nextSeq = s.hnd.nextSeq ∨
      (releaseHead (maySend s) t u).hnd.nextSeq = s.hnd.nextSeq + 1#16 ∧ admitsNext s = true := by
  unfold releaseHead
  split
  · next hmay => exact .inr ⟨by simp [sendTray, hhnd], admitsNext_of_maySend hmay⟩
  · exact .inl (by simp [writeOffTray, hhnd])

theorem exitEvent_nextSeq (s : State) : (exitEvent s).hnd.nextSeq = s.hnd.nextSeq ∨ PassTaken s (exitEvent s) := by
  unfold exitEvent exitAtTrayer exitAtChill PassTaken
  split
  · exact .inl rfl
  split
  · split
    · exact .inl rfl
    · next t rest _ =>
      have hlater : Keeps (except .nextSeq) s (releaseHead (maySend s) t { s with tray.formed := rest })
          (settleFlow (closeHeldBack (settleFlow (releaseHead (maySend s) t { s with tray.formed := rest })))) :=
        .after (keeps_settleFlow rfl _) (.after (keeps_closeHeldBack _) (keeps_settleFlow rfl _))
      rw [nextSeq_of_keeps hlater]
      exact releaseHead_nextSeq t rfl
  · split
    · exact .inl rfl
    · next t rest _ =>
      have hlater : Keeps (except .nextSeq) s (releaseHead (maySend s) t { s with tray.queue := rest })
          (settleFlow (releaseHead (maySend s) t { s with tray.queue := rest })) := keeps_settleFlow rfl _
      rw [nextSeq_of_keeps hlater]
      exact releaseHead_nextSeq t rfl
  · exact .inl rfl

/-- What may move the next sequence, command by command. -/
theorem exec_nextSeq {c : Instr} {s t : State} (he : exec c s = .next t) :
    t.hnd.nextSeq = s.hnd.nextSeq ∨ t.mode = .starting ∨ (∃ src tgt limit room, c = .credit src tgt limit room) ∨
      PassTaken s t ∧ ((∃ presence bond, c = .forwardCount presence bond) ∨ c = .exitSensorEvent ∨
        c = .chillExitSensorEvent) := by
  by_cases hc : c = .hardReset
  · subst hc
    obtain rfl := Host.Outcome.next.inj he
    exact .inr (.inl rfl)
  by_cases hn : movesNextSeq c = false
  · obtain hk | ⟨-, bytes, rfl⟩ := exec_keeps_or_resets hc he
    · exact .inl (hk.same .nextSeq hn)
    · exact .inr (.inl rfl)
  cases c
  all_goals try exact absurd rfl hn
  case credit src tgt limit room => exact .inr (.inr (.inl ⟨src, tgt, limit, room, rfl⟩))
  all_goals obtain rfl := Host.Outcome.next.inj he
  case forwardCount presence bond =>
    exact (forwardStep_nextSeq presence bond s).imp_right fun h => .inr (.inr ⟨h, .inl ⟨presence, bond, rfl⟩⟩)
  case exitSensorEvent => exact (exitEvent_nextSeq s).imp_right fun h => .inr (.inr ⟨h, .inr (.inl rfl)⟩)
  case chillExitSensorEvent => exact (exitEvent_nextSeq s).imp_right fun h => .inr (.inr ⟨h, .inr (.inr rfl)⟩)

/-- Settles O59: the next sequence by what each command may move, the credit as every command carries it along. -/
theorem nextSequenceMovesOnlyUnderCredit : Obligations.NextSequenceMovesOnlyUnderCredit := by
  refine ⟨fun c s t he hmoved => ?_, step_invariant creditFits_reset (fun _ _ h => (keeps_core_eq h).credit)
    fun _ _ _ h _ hs => h.credit hs⟩
  obtain h | h | h | ⟨⟨hseq, hadmits⟩, hcommand⟩ := exec_nextSeq he
  · exact absurd h hmoved
  · exact .inl h
  · exact .inr (.inl h)
  · exact .inr (.inr ⟨hseq, hadmits, hcommand⟩)

/-! ### The clock and the plant day (R172) -/

theorem exec_setClock_eq (h : CmdHead) (v : BitVec 32) (s : State) :
    exec (.setClock h v) s =
      .next (portCommand 0x09 4 false anyRole true (fun t => accept { t with stc.clock := v }) h s) := rfl

theorem exec_setDay_eq (h : CmdHead) (v : BitVec 16) (s : State) :
    exec (.setDay h v) s =
      .next (portCommand 0x0A 2 false anyRole true (fun t => accept { t with stc.day := v }) h s) := rfl

/-- A port command outside a RESTART's reset: it is refused, changing the response place alone, or answered by its own rule. -/
theorem portCommand_stc {code n : Nat} {roles : Role → Bool} {enums : Bool} {own : State → Reply} {h : CmdHead} {s : State}
    (hr : s.port.restartPending = false) :
    (portCommand code n false roles enums own h s).stc = s.stc ∨
      (portCommand code n false roles enums own h s).stc = (own s).state.stc := by
  unfold portCommand
  rw [if_neg (by simp [hr])]
  split
  · exact .inl rfl
  · exact .inr rfl

theorem secondStep_clock (s : State) : (secondStep s).stc.clock = s.stc.clock + 1#32 := by
  have hlater : Keeps (except .clock) s
      (timeTo s.stc.secondAt { s with stc.clock := s.stc.clock + 1#32, stc.secondAt := s.stc.secondAt + 1000 })
      (secondStep s) :=
    .after (keeps_cutOffSecond _) (keeps_exposureSecond rfl rfl _)
  exact hlater.same .clock rfl

/-- What each command but a hard reset does to the clock. -/
theorem exec_clock {c : Instr} {s t : State} (hc : c ≠ .hardReset) (he : exec c s = .next t) :
    t.stc.clock = s.stc.clock ∨ c = .stationSecond ∧ t.stc.clock = s.stc.clock + 1#32 ∨
      ∃ h v, c = .setClock h v ∧ t.stc.clock = v := by
  obtain hk | ⟨hr, bytes, rfl⟩ := exec_keeps_or_resets hc he
  · by_cases hm : movesClock c = false
    · exact .inl (hk.same .clock hm)
    cases c
    all_goals try exact absurd rfl hm
    all_goals obtain rfl := Host.Outcome.next.inj he
    case stationSecond => exact .inr (.inl ⟨rfl, secondStep_clock s⟩)
    case setClock h v =>
      by_cases hr : s.port.restartPending = true
      · left
        rw [portCommand, if_pos hr]
        rfl
      · obtain heq | heq := portCommand_stc (code := 0x09) (n := 4) (roles := anyRole) (enums := true)
          (own := fun t => accept { t with stc.clock := v }) (h := h) (s := s) (by simpa using hr)
        · exact .inl (congrArg Stc.clock heq)
        · exact .inr (.inr ⟨h, v, rfl, congrArg Stc.clock heq⟩)
  · exact .inl rfl

/-- What each command but a hard reset does to the plant day. -/
theorem exec_day {c : Instr} {s t : State} (hc : c ≠ .hardReset) (he : exec c s = .next t) :
    t.stc.day = s.stc.day ∨ ∃ h v, c = .setDay h v ∧ t.stc.day = v := by
  obtain hk | ⟨hr, bytes, rfl⟩ := exec_keeps_or_resets hc he
  · by_cases hm : movesDay c = false
    · exact .inl (hk.same .day hm)
    cases c
    all_goals try exact absurd rfl hm
    case setDay h v =>
      obtain rfl := Host.Outcome.next.inj he
      by_cases hr : s.port.restartPending = true
      · left
        rw [portCommand, if_pos hr]
        rfl
      · obtain heq | heq := portCommand_stc (code := 0x0A) (n := 2) (roles := anyRole) (enums := true)
          (own := fun t => accept { t with stc.day := v }) (h := h) (s := s) (by simpa using hr)
        · exact .inl (congrArg Stc.day heq)
        · exact .inr ⟨h, v, rfl, congrArg Stc.day heq⟩
  · exact .inl rfl

/-- Settles O11: the two commands by their own rules, and every other command by what it may move. -/
theorem clockAndDayMoveOnlyAsCommanded : Obligations.ClockAndDayMoveOnlyAsCommanded :=
  ⟨⟨fun h v s hp => by rw [exec_setClock_eq, portCommand_own hp rfl rfl]; rfl,
      fun h v s hp => by rw [exec_setDay_eq, portCommand_own hp rfl rfl]; rfl⟩,
    fun _ _ _ hc he => ⟨exec_clock hc he, exec_day hc he⟩⟩

/-! ### The trace ring (R126, R127) -/

/-- What the ring held stays in its order, with any new entries after it. -/
def TraceKept (s t : State) : Prop := ∃ new, t.trc.entries = s.trc.entries ++ new

theorem TraceKept.of_eq {s t : State} (h : t.trc = s.trc) : TraceKept s t := ⟨[], by simp [h]⟩

theorem TraceKept.trans {s t u : State} (h : TraceKept s t) (k : TraceKept t u) : TraceKept s u := by
  obtain ⟨new, hnew⟩ := h
  obtain ⟨more, hmore⟩ := k
  exact ⟨new ++ more, by rw [hmore, hnew, List.append_assoc]⟩

theorem TraceKept.of_keeps {s₀ s t : State} (h : Keeps (except .trace) s₀ s t) : TraceKept s t := .of_eq (h.same .trace rfl)

theorem traceKept_writeTrace (e : TraceEntry) (s : State) : TraceKept s (writeTrace e s) := by
  unfold TraceKept
  rw [writeTrace_entries]
  split
  · exact ⟨[e], rfl⟩
  · exact ⟨[], (List.append_nil _).symm⟩

theorem traceKept_declareMissing (i : Nat) (e : Admission) (s : State) : TraceKept s (declareMissing i e s) :=
  (traceKept_writeTrace _ s).trans (.of_keeps (s₀ := s) ((keeps_endReservation rfl i e _).trans (.of_core_eq rfl)))

theorem traceKept_endEntries (l : List Nat) (s : State) : TraceKept s (endEntries l s) := by
  induction l generalizing s with
  | nil => exact .of_eq rfl
  | cons i is ih =>
    unfold endEntries
    split
    · exact ih s
    · split
      · exact (TraceKept.of_keeps (s₀ := s) (keeps_discardReady rfl i _ s)).trans (ih _)
      · split
        · exact (traceKept_declareMissing i _ s).trans (ih _)
        · exact ih s

/-- Of the write-offs at the drain timeout only a chamber's write to the ring. -/
theorem traceKept_writeOffAll (s : State) : TraceKept s (writeOffAll s) := by
  by_cases hr : s.role = .chamber
  · rw [writeOffAll_of_chamber hr]
    exact traceKept_endEntries _ s
  · exact .of_keeps (s₀ := s) (keeps_writeOffAll_of_not_chamber rfl hr)

theorem enterSanitising_trc (s : State) : (enterSanitising s).trc = s.trc := by
  unfold enterSanitising enterMode
  dsimp only
  split <;> simp

theorem serve_trc (s : State) : (serve s).trc = s.trc :=
  (keeps_serve (A := except .trace) (s₀ := s) rfl s).same .trace rfl

theorem traceKept_drainOut (s : State) : TraceKept s (drainOut s) := by
  unfold drainOut
  split
  · exact .of_eq rfl
  · next d _ =>
    split
    · have hwritten : TraceKept s (writeOffAll (timeTo d { s with stc.drainAt := none })) :=
        .trans (.of_eq rfl) (traceKept_writeOffAll _)
      dsimp only
      generalize writeOffAll (timeTo d { s with stc.drainAt := none }) = u at hwritten ⊢
      refine hwritten.trans (.trans (.of_eq (t := if 0 < recordsToWriteOff s then latch .writtenOff u else u) ?_) ?_)
      · split <;> rfl
      · generalize (if 0 < recordsToWriteOff s then latch .writtenOff u else u) = v
        refine .of_eq ((settleFlow_trc _).trans ?_)
        split
        · exact enterSanitising_trc v
        · rfl
    · exact .of_eq rfl

theorem traceKept_arrivalOut (index : Nat) (s : State) : TraceKept s (arrivalOut index s) := by
  unfold arrivalOut
  split
  · exact .of_eq rfl
  · next e _ =>
    split
    · have hmissing : TraceKept s (declareMissing index e (timeTo (e.claimSince + s.arrivalMs) s)) :=
        .trans (.of_eq rfl) (traceKept_declareMissing _ _ _)
      exact hmissing.trans (.of_keeps (s₀ := s) (.after (keeps_serve rfl _) (keeps_latch _ _)))
    · exact .of_eq rfl

theorem traceKept_infeedAtAdm (s : State) : TraceKept s (infeedAtAdm s) := by
  unfold infeedAtAdm
  split
  · exact .of_eq rfl
  split
  · unfold strayArrival traceStray
    dsimp only
    split
    · exact .trans (.of_eq rfl) (traceKept_writeTrace _ _)
    · exact .of_eq rfl
  split
  · exact .of_eq rfl
  · next e _ =>
    have hlane : TraceKept s (updateLane e.laneNo Lane.occupy { s with adm.laneSelect := e.laneNo }) := .of_eq (by simp)
    exact (hlane.trans (traceKept_writeTrace _ _)).trans
      (.of_keeps (s₀ := s) (.after (keeps_serve rfl _) ((keeps_removeEntry rfl _ e _).trans (.of_core_eq rfl))))

theorem traceKept_infeedEvent (s : State) : TraceKept s (infeedEvent s) := by
  unfold infeedEvent
  split
  · exact .of_keeps (s₀ := s) (keeps_infeedAtTry rfl rfl s)
  · exact .of_keeps (s₀ := s) (keeps_infeedAtTry rfl rfl s)
  · exact traceKept_infeedAtAdm s
  · exact .of_eq rfl

theorem traceKept_shuttleEnd (s : State) : TraceKept s (shuttleEnd s) := by
  unfold shuttleEnd
  split
  · split
    · exact .of_eq rfl
    split
    · exact .of_eq rfl
    · next i _ c _ =>
      have hwritten : TraceKept s
          (writeTrace (releaseEntry c.tray s.stc.clock) { s with dsp.release := none, dsp.shuttleAt := none }) :=
        .trans (.of_eq rfl) (traceKept_writeTrace _ _)
      exact hwritten.trans (.of_keeps (s₀ := s) (.after (keeps_settleFlow rfl _) (.after (keeps_dspCounts ..)
        (.after (keeps_emptyCell _ _) (keeps_queuePass _ _)))))
  · exact .of_eq rfl

/-- READ-TRACE leaves the entries: one that was unread is read. -/
theorem readTraceOwn_entries (s : State) : (readTraceOwn s).state.trc.entries = s.trc.entries := by
  unfold readTraceOwn
  split <;> rfl

/-- What FREE-TRACE does to the entries: nothing, or the oldest leaves after it has been read. -/
theorem freeTraceOwn_entries (s : State) :
    (freeTraceOwn s).state.trc.entries = s.trc.entries ∨
      1 ≤ s.trc.readCount ∧ (freeTraceOwn s).state.trc.entries = s.trc.entries.tail := by
  unfold freeTraceOwn
  split
  · exact .inl rfl
  split
  · exact .inl rfl
  · next hread => exact .inr ⟨by omega, congrArg Trc.entries (serve_trc _)⟩

theorem portCommand_trc {code n : Nat} {roles : Role → Bool} {enums : Bool} {own : State → Reply} {h : CmdHead} {s : State}
    (hr : s.port.restartPending = false) :
    (portCommand code n false roles enums own h s).trc = s.trc ∨
      (portCommand code n false roles enums own h s).trc = (own s).state.trc := by
  unfold portCommand
  rw [if_neg (by simp [hr])]
  split
  · exact .inl rfl
  · exact .inr rfl

/-- What each command but a hard reset does to the ring. -/
theorem exec_trace {c : Instr} {s t : State} (hc : c ≠ .hardReset) (he : exec c s = .next t) :
    TraceKept s t ∨ (∃ h, c = .freeTrace h) ∧ 1 ≤ s.trc.readCount ∧ t.trc.entries = s.trc.entries.tail := by
  by_cases hr : Resets s t
  · obtain ⟨-, bytes, rfl⟩ := hr
    exact .inl ⟨[], (List.append_nil _).symm⟩
  have hk := (exec_keeps_or_resets hc he).resolve_right hr
  by_cases hm : movesTrace c = false
  · exact .inl (.of_eq (hk.same .trace hm))
  cases c
  all_goals try exact absurd rfl hm
  all_goals obtain rfl := Host.Outcome.next.inj he
  case drainTimeout => exact .inl (traceKept_drainOut s)
  case arrivalWindow index => exact .inl (traceKept_arrivalOut index s)
  case infeedSensorEvent => exact .inl (traceKept_infeedEvent s)
  case chamberInfeedEvent => exact .inl (traceKept_infeedEvent s)
  case shuttleDone => exact .inl (traceKept_shuttleEnd s)
  all_goals
    have hpending : s.port.restartPending = false := by
      rw [← Bool.not_eq_true]
      intro hpending
      exact hr (by rw [portCommand, if_pos hpending]; exact resets_restartReset hpending)
  case readTrace h =>
    left
    obtain heq | heq := portCommand_trc (code := 0x35) (n := 0) (roles := traceRoles) (enums := true) (own := readTraceOwn)
      (h := h) hpending
    · exact .of_eq heq
    · exact ⟨[], by rw [heq, readTraceOwn_entries, List.append_nil]⟩
  case freeTrace h =>
    obtain heq | heq := portCommand_trc (code := 0x36) (n := 0) (roles := traceRoles) (enums := true) (own := freeTraceOwn)
      (h := h) hpending
    · exact .inl (.of_eq heq)
    · obtain hsame | ⟨hread, htail⟩ := freeTraceOwn_entries s
      · exact .inl ⟨[], by rw [heq, hsame, List.append_nil]⟩
      · exact .inr ⟨⟨h, rfl⟩, hread, by rw [heq, htail]⟩

theorem exec_readTrace_eq (h : CmdHead) (s : State) :
    exec (.readTrace h) s = .next (portCommand 0x35 0 false traceRoles true readTraceOwn h s) := rfl

theorem exec_freeTrace_eq (h : CmdHead) (s : State) :
    exec (.freeTrace h) s = .next (portCommand 0x36 0 false traceRoles true freeTraceOwn h s) := rfl

theorem traceRoles_of {r : Role} (h : r = .dispatch ∨ r = .chamber) : traceRoles r = true := by
  rcases h with rfl | rfl <;> rfl

/-- A station that runs no chamber serves nothing (R138). -/
theorem serve_of_not_chamber {s : State} (h : s.role ≠ .chamber) : serve s = s := by
  rw [serve, if_neg h]

/-- Settles O40: the two commands by their own rules, and every other command by what it may write to the ring. -/
theorem traceRingKeepsReadsAndFrees : Obligations.TraceRingKeepsReadsAndFrees := by
  refine ⟨fun h s hp hrole => ?_, fun _ _ _ hc he => exec_trace hc he⟩
  have hread {a : Reply} (ha : readTraceOwn s = a) :
      exec (.readTrace h) s = .next (putResponse h.tag 0x35#8 a.status a.data a.state) := by
    rw [exec_readTrace_eq, portCommand_own hp (traceRoles_of hrole) rfl, ha]
  have hfree {a : Reply} (ha : freeTraceOwn s = a) :
      exec (.freeTrace h) s = .next (putResponse h.tag 0x36#8 a.status a.data a.state) := by
    rw [exec_freeTrace_eq, portCommand_own hp (traceRoles_of hrole) rfl, ha]
  refine ⟨fun hall => hread (a := refuse .empty s) ?_, fun e he => hread (a := report _ _) ?_,
    fun hnone => hfree (a := refuse .empty s) ?_, fun hsome hunread => hfree (a := refuse .busy s) ?_,
    fun e rest hentries hone =>
      ⟨serve { s with trc.entries := rest, trc.readCount := s.trc.readCount - 1 },
        hfree (a := accept (serve { s with trc.entries := rest, trc.readCount := s.trc.readCount - 1 })) ?_,
        serve_trc _, fun hd => ?_⟩⟩
  · simp [readTraceOwn, List.getElem?_eq_none hall]
  · simp only [readTraceOwn, he]
    rfl
  · simp [freeTraceOwn, hnone]
  · simp [freeTraceOwn, hsome, hunread]
  · have hread' : s.trc.readCount ≠ 0 := by omega
    simp [freeTraceOwn, hentries, hread']
  · have hserve : serve { s with trc.entries := rest, trc.readCount := s.trc.readCount - 1 } =
        { s with trc.entries := rest, trc.readCount := s.trc.readCount - 1 } :=
      serve_of_not_chamber (show s.role ≠ .chamber by simp [hd])
    simp only [hserve]

end Sys2Proof.Machine
end

section
/-! A chamber's reservations (R131, R135, R138): what one entry and its lane do to the balance, and serving. -/

namespace Sys2Proof.Machine

/-! ### Counting over the table -/

theorem countP_set_add {α : Type} (p : α → Bool) {l : List α} {i : Nat} {a : α} (h : i < l.length) :
    (l.set i a).countP p + (p l[i]).toNat = l.countP p + (p a).toNat := by
  have hpos : p l[i] = true → 0 < l.countP p := fun hp => List.countP_pos_iff.2 ⟨l[i], List.getElem_mem h, hp⟩
  rw [List.countP_set h]
  cases hp : p l[i] with
  | false => cases p a <;> simp
  | true =>
    have := hpos hp
    cases p a <;> simp <;> omega

/-- The room an entry of the table holds in lane `n`. -/
def roomIn (n : Nat) (o : Option Admission) : Nat := (o.any (fun e => e.holdsRoom && e.laneNo = n)).toNat

/-- The room an entry of the table holds in any lane. -/
def roomHeld (o : Option Admission) : Nat := (o.any Admission.holdsRoom).toNat

theorem getElem_eq_slotAt {α : Type} {l : List (Option α)} {i : Nat} (h : i < l.length) : l[i] = slotAt l i := by
  simp [slotAt, h]

theorem lt_length_of_slotAt {α : Type} {l : List (Option α)} {i : Nat} {x : α} (h : slotAt l i = some x) : i < l.length := by
  by_contra hi
  simp [slotAt, List.getElem?_eq_none (Nat.not_lt.1 hi)] at h

section Set

variable {s t : State} {i : Nat} {new : Option Admission} (ht : t.adm.table = s.adm.table.set i new)
  (hi : i < s.adm.table.length)
include ht hi

theorem reservedFor_set (n : Nat) : reservedFor t n + roomIn n (s.admission i) = reservedFor s n + roomIn n new := by
  have h := countP_set_add (fun o : Option Admission => o.any (fun e => e.holdsRoom && e.laneNo = n)) (a := new) hi
  rw [getElem_eq_slotAt] at h
  simpa only [reservedFor, roomIn, State.admission, ht, List.countP_eq_length_filter] using h

theorem reservedTotal_set : reservedTotal t + roomHeld (s.admission i) = reservedTotal s + roomHeld new := by
  have h := countP_set_add (fun o : Option Admission => o.any Admission.holdsRoom) (a := new) hi
  rw [getElem_eq_slotAt] at h
  simpa only [reservedTotal, roomHeld, State.admission, ht, List.countP_eq_length_filter] using h

end Set

theorem reservedTotal_congr {s t : State} (h : t.adm.table = s.adm.table) : reservedTotal t = reservedTotal s := by
  simp [reservedTotal, h]

theorem reservedFor_congr {s t : State} (h : t.adm.table = s.adm.table) (n : Nat) : reservedFor t n = reservedFor s n := by
  simp [reservedFor, h]

/-! ### Lanes -/

theorem lane_congr {s t : State} (h : t.adm.lanes = s.adm.lanes) (n : Nat) : t.lane n = s.lane n := by
  simp [State.lane, h]

theorem lane_of_mem {s : State} {l : Lane} (h : l ∈ s.adm.lanes) : ∃ n, s.lane n = some l := by
  obtain ⟨k, hk⟩ := List.mem_iff_getElem?.1 h
  exact ⟨k + 1, by simpa [State.lane] using hk⟩

theorem lane_updateLane (n m : Nat) (f : Lane → Lane) (s : State) :
    (updateLane n f s).lane m = if m = n then (s.lane m).map f else s.lane m := by
  split
  · next hmn =>
    subst hmn
    cases hl : s.lane m with
    | none =>
      by_cases hm : m = 0
      · simp [hm, lane_zero]
      · simp only [State.lane, hm, if_false] at hl
        simp [State.lane, updateLane, hm, modifyAt_eq_modify, hl]
    | some l => exact lane_updateLane_same f hl
  · next hmn => exact lane_updateLane_of_ne hmn f s

theorem updateLane_lanes_length (n : Nat) (f : Lane → Lane) (s : State) :
    (updateLane n f s).adm.lanes.length = s.adm.lanes.length := by
  unfold updateLane
  split
  · rfl
  · exact modifyAt_length _ _ _

/-! ### The balance -/

theorem ReservationsFit.started {s : State} (h : ReservationsFit s) {i : Nat} {e : Admission}
    (he : s.admission i = some e) : s.role = .chamber ∧ ¬ s.waiting := by
  by_contra hnot
  have helse : s.role ≠ .chamber ∨ s.mode = .starting ∨ s.mode = .configuring := by
    unfold State.waiting at hnot
    tauto
  exact absurd (h.elsewhere helse _ (mem_of_slotAt he)) (by simp)

/-- Nothing the balance speaks of has moved. -/
theorem ReservationsFit.of_same {s t : State} (h : ReservationsFit s) (hrooms : Part.rooms.Same s t)
    (hring : t.trc.entries.length ≤ s.trc.entries.length) (hrole : t.role = s.role) (hw : t.waiting → s.waiting) :
    ReservationsFit t where
  lanes := by rw [hrooms.1]; exact h.lanes
  ring := hring.trans h.ring
  elsewhere he := by
    rw [hrooms.2]
    exact h.elsewhere (he.imp (fun hr => by rwa [hrole] at hr) hw)
  laneNumbers e he := h.laneNumbers e (hrooms.2 ▸ he)
  reserved n l hl := by
    rw [reservedFor_congr hrooms.2]
    exact h.reserved n l (lane_congr hrooms.1 n ▸ hl)
  capacity l hl := h.capacity l (hrooms.1 ▸ hl)
  outcomes := by
    have := h.outcomes
    rw [reservedTotal_congr hrooms.2]
    unfold traceFree at this ⊢
    omega

/-- Every part but a chamber's lanes with its table, the trace ring and the settings. -/
def outsideRooms : Part → Bool := fun p => p != .rooms && p != .trace && p != .settings

theorem ReservationsFit.of_keeps {s₀ s t : State} (h : ReservationsFit s) (k : Keeps outsideRooms s₀ s t) :
    ReservationsFit t :=
  h.of_same (k.same .rooms rfl) (by rw [show t.trc = s.trc from k.same .trace rfl])
    (role_of_settings (k.same .settings rfl)) k.waiting

/-- One entry of the table changes with one lane, and the lane's count follows the room the entry holds in it. -/
theorem ReservationsFit.update {s t : State} {i n : Nat} {new : Option Admission} {f : Lane → Lane} (h : ReservationsFit s)
    (hi : i < s.adm.table.length) (htable : t.adm.table = s.adm.table.set i new)
    (hlanes : t.adm.lanes = (updateLane n f s).adm.lanes) (hrole : t.role = s.role) (hw : t.waiting → s.waiting)
    (hnew : ∀ e, new = some e →
      (s.role = .chamber ∧ ¬ s.waiting) ∧ (e.holdsRoom = true → 1 ≤ e.laneNo ∧ e.laneNo ≤ 8))
    (hlane : ∀ l, s.lane n = some l →
      (f l).reserved + roomIn n (s.admission i) = l.reserved + roomIn n new ∧
        1 ≤ (f l).capacity ∧ (f l).occupancy + (f l).reserved ≤ (f l).capacity)
    (hothers : ∀ m, m ≠ n → roomIn m (s.admission i) = roomIn m new)
    (hring : t.trc.entries.length ≤ ringSize) (htotal : reservedTotal t ≤ traceFree t) : ReservationsFit t where
  lanes := by rw [hlanes, updateLane_lanes_length]; exact h.lanes
  ring := hring
  elsewhere he o ho := by
    rw [hrole] at he
    have hnone : new = none := by
      cases hn : new with
      | none => rfl
      | some e =>
        obtain ⟨hchamber, hstarted⟩ := (hnew e hn).1
        exact absurd (he.resolve_left (not_not.2 hchamber)) fun hwt => hstarted (hw hwt)
    rw [htable] at ho
    obtain hold | hset := List.mem_or_eq_of_mem_set ho
    · exact h.elsewhere (he.imp_right hw) o hold
    · rw [hset, hnone]
  laneNumbers e he hroom := by
    rw [htable] at he
    obtain hold | hset := List.mem_or_eq_of_mem_set he
    · exact h.laneNumbers e hold hroom
    · exact (hnew e hset.symm).2 hroom
  reserved m l hl := by
    have hcount := reservedFor_set htable hi m
    rw [lane_congr hlanes, lane_updateLane] at hl
    split at hl
    · next hmn =>
      subst hmn
      obtain ⟨l₀, hl₀, rfl⟩ := Option.map_eq_some_iff.1 hl
      have := (hlane l₀ hl₀).1
      have := h.reserved m l₀ hl₀
      omega
    · next hmn =>
      have := hothers m hmn
      have := h.reserved m l hl
      omega
  capacity l hl := by
    obtain ⟨m, hm⟩ := lane_of_mem hl
    rw [lane_congr hlanes, lane_updateLane] at hm
    split at hm
    · next hmn =>
      subst hmn
      obtain ⟨l₀, hl₀, rfl⟩ := Option.map_eq_some_iff.1 hm
      exact (hlane l₀ hl₀).2
    · exact h.capacity l (lane_mem hm)
  outcomes := htotal

/-- An entry changes, or comes or goes, without a change of the room held: the balance stays. -/
theorem ReservationsFit.update_entry {s t : State} {i : Nat} {new : Option Admission} (h : ReservationsFit s)
    (hi : i < s.adm.table.length) (htable : t.adm.table = s.adm.table.set i new) (hlanes : t.adm.lanes = s.adm.lanes)
    (htrc : t.trc = s.trc) (hrole : t.role = s.role) (hw : t.waiting → s.waiting)
    (hnew : ∀ e, new = some e →
      (s.role = .chamber ∧ ¬ s.waiting) ∧ (e.holdsRoom = true → 1 ≤ e.laneNo ∧ e.laneNo ≤ 8))
    (hroom : ∀ m, roomIn m (s.admission i) = roomIn m new) (hheld : roomHeld (s.admission i) = roomHeld new) :
    ReservationsFit t := by
  refine h.update (n := 0) (f := id) hi htable hlanes hrole hw hnew (fun l hl => by simp [lane_zero] at hl)
    (fun m _ => hroom m) (by rw [htrc]; exact h.ring) ?_
  have := reservedTotal_set htable hi
  have := h.outcomes
  unfold traceFree at this ⊢
  rw [htrc]
  omega

theorem roomIn_of_holdsRoom {e : Admission} (h : e.holdsRoom = true) (n : Nat) :
    roomIn n (some e) = if e.laneNo = n then 1 else 0 := by
  by_cases hn : e.laneNo = n <;> simp [roomIn, h, hn]

theorem roomHeld_of_holdsRoom {e : Admission} (h : e.holdsRoom = true) : roomHeld (some e) = 1 := by
  simp [roomHeld, h]

theorem roomIn_of_pending {e : Admission} (h : e.holdsRoom = false) (n : Nat) : roomIn n (some e) = 0 := by
  simp [roomIn, h]

theorem roomHeld_of_pending {e : Admission} (h : e.holdsRoom = false) : roomHeld (some e) = 0 := by
  simp [roomHeld, h]

theorem roomIn_none (n : Nat) : roomIn n none = 0 := rfl

theorem roomHeld_none : roomHeld none = 0 := rfl

/-- An entry that holds room leaves, its lane giving up one reservation, which an admitted tray takes, and at most one
trace entry is written for it. -/
theorem ReservationsFit.leave {s t : State} {i : Nat} {e : Admission} {f : Lane → Lane} (h : ReservationsFit s)
    (he : s.admission i = some e) (hroom : e.holdsRoom = true) (htable : t.adm.table = s.adm.table.set i none)
    (hlanes : t.adm.lanes = (updateLane e.laneNo f s).adm.lanes) (hrole : t.role = s.role) (hw : t.waiting → s.waiting)
    (hf : ∀ l, (f l).reserved = l.reserved - 1 ∧ (f l).capacity = l.capacity ∧ (f l).occupancy ≤ l.occupancy + 1)
    (hring : t.trc.entries.length ≤ s.trc.entries.length + 1) : ReservationsFit t := by
  have hi : i < s.adm.table.length := lt_length_of_slotAt he
  have hin := reservedFor_set htable hi e.laneNo
  have hall := reservedTotal_set htable hi
  rw [he, roomIn_of_holdsRoom hroom, if_pos rfl, roomIn_none] at hin
  rw [he, roomHeld_of_holdsRoom hroom, roomHeld_none] at hall
  have htotal := h.outcomes
  have hlength := h.ring
  unfold traceFree at htotal
  refine h.update hi htable hlanes hrole hw (fun _ hn => by cases hn) (fun l hl => ?_) (fun m hm => ?_) (by omega) ?_
  · obtain ⟨hreserved, hcapacity, hoccupancy⟩ := hf l
    have hcount := h.reserved e.laneNo l hl
    obtain ⟨hpos, hbound⟩ := h.capacity l (lane_mem hl)
    rw [he, roomIn_of_holdsRoom hroom, if_pos rfl, roomIn_none]
    omega
  · rw [he, roomIn_of_holdsRoom hroom, if_neg (Ne.symm hm), roomIn_none]
  · unfold traceFree
    omega

/-! ### Settling a lane -/

theorem Lane.settle_eq (l : Lane) : l.settle = { l with order := l.settle.order } := by
  unfold Lane.settle; split <;> rfl

theorem Lane.release_room (l : Lane) :
    l.release.reserved = l.reserved - 1 ∧ l.release.capacity = l.capacity ∧ l.release.occupancy = l.occupancy := by
  rw [Lane.release, Lane.settle_eq]
  exact ⟨rfl, rfl, rfl⟩

theorem Lane.occupy_room (l : Lane) :
    l.occupy.reserved = l.reserved - 1 ∧ l.occupy.capacity = l.capacity ∧ l.occupy.occupancy = l.occupancy + 1 := by
  rw [Lane.occupy, Lane.settle_eq]
  exact ⟨rfl, rfl, rfl⟩

/-! ### Placement (R132) -/

/-- The roomiest lane, where there is one, is available. -/
theorem roomiest_available {lanes : List Lane} {use : LaneUse} {i : Nat} (h : roomiest lanes use = some i) :
    ∃ l, lanes[i]? = some l ∧ l.available = true := by
  unfold roomiest at h
  revert h
  generalize List.range lanes.length = is
  suffices hfold : ∀ best : Option Nat, (∀ j, best = some j → ∃ l, lanes[j]? = some l ∧ l.available = true) →
      ∀ j, is.foldl (fun best i =>
        match lanes[i]? with
        | none => best
        | some l =>
          if l.use = use && l.available then
            match best.bind (fun j => lanes[j]?) with
            | none => some i
            | some b => if b.freeRoom < l.freeRoom then some i else best
          else best) best = some j → ∃ l, lanes[j]? = some l ∧ l.available = true from
    fun h => hfold none (fun _ hj => by cases hj) i h
  induction is with
  | nil => exact fun best hbest j hj => hbest j hj
  | cons k ks ih =>
    intro best hbest
    rw [List.foldl_cons]
    refine ih _ fun j hj => ?_
    split at hj
    · exact hbest j hj
    · next l hl =>
      split at hj
      · next huse =>
        have hk : ∃ l, lanes[k]? = some l ∧ l.available = true := ⟨l, hl, (Bool.and_eq_true _ _ ▸ huse).2⟩
        split at hj
        · exact Option.some.inj hj ▸ hk
        · split at hj
          · exact Option.some.inj hj ▸ hk
          · exact hbest j hj
      · exact hbest j hj

/-- A placement names a lane that has room or holds nothing at all (R132). -/
theorem placement_lane {lanes : List Lane} {quarantine : Bool} {order : Option Nat} {n : Nat}
    (h : placement lanes quarantine order = some n) :
    1 ≤ n ∧ ∃ l, lanes[n - 1]? = some l ∧ (l.available = true ∨ l.occupancy + l.reserved = 0) := by
  have hroomiest (u : LaneUse) (h : (roomiest lanes u).map (· + 1) = some n) :
      1 ≤ n ∧ ∃ l, lanes[n - 1]? = some l ∧ (l.available = true ∨ l.occupancy + l.reserved = 0) := by
    obtain ⟨i, hi, rfl⟩ := Option.map_eq_some_iff.1 h
    obtain ⟨l, hl, ha⟩ := roomiest_available hi
    exact ⟨Nat.succ_le_succ (Nat.zero_le _), l, hl, .inl ha⟩
  unfold placement at h
  split at h
  · split at h
    · next i _ =>
      split at h
      · next ha =>
        obtain rfl := Option.some.inj h
        obtain ⟨l, hl, ha⟩ := (Option.any_eq_true _ _).1 ha
        exact ⟨Nat.succ_le_succ (Nat.zero_le _), l, hl, .inl ha⟩
      · cases h
    · obtain ⟨i, hi, rfl⟩ := Option.map_eq_some_iff.1 h
      obtain ⟨hlt, hp, -⟩ := List.findIdx?_eq_some_iff_getElem.1 hi
      simp only [Bool.and_eq_true, decide_eq_true_eq] at hp
      exact ⟨Nat.succ_le_succ (Nat.zero_le _), lanes[i], by simp [hlt], .inr hp.2⟩
  · exact hroomiest _ h

/-! ### Serving (R138) -/

/-- The entries at the indices given are PENDING, or there is none. -/
def AllPending (l : List Nat) (s : State) : Prop := ∀ i ∈ l, ∀ e, s.admission i = some e → e.holdsRoom = false

theorem admission_setAdmission_of_ne {i j : Nat} (hij : i ≠ j) (o : Option Admission) (s : State) :
    (setAdmission i o s).admission j = s.admission j := by
  simp [State.admission, setAdmission, slotAt, hij]

theorem serveEntry_admission_of_ne {i j : Nat} (hij : i ≠ j) (s : State) : (serveEntry i s).admission j = s.admission j := by
  unfold serveEntry
  split
  · rfl
  split
  · rfl
  · dsimp only
    rw [admission_setAdmission_of_ne hij]
    simp [State.admission, updateLane]
    split <;> rfl

/-- A PENDING entry takes room in a lane that has some, a trace entry being free for its outcome. -/
theorem ReservationsFit.take {s : State} {i n : Nat} {e new : Admission} {l : Lane} {f : Lane → Lane} (h : ReservationsFit s)
    (he : s.admission i = some e) (hpending : e.holdsRoom = false) (hroom : new.holdsRoom = true) (hn : new.laneNo = n)
    (hl : s.lane n = some l) (hfree : l.occupancy + l.reserved < l.capacity)
    (hf : ∀ x, (f x).reserved = x.reserved + 1 ∧ (f x).capacity = x.capacity ∧ (f x).occupancy = x.occupancy)
    (htotal : reservedTotal s + 1 ≤ traceFree s) : ReservationsFit (setAdmission i (some new) (updateLane n f s)) := by
  have hi : i < s.adm.table.length := lt_length_of_slotAt he
  have htable : (setAdmission i (some new) (updateLane n f s)).adm.table = s.adm.table.set i (some new) := by
    simp only [setAdmission, updateLane]
    split <;> rfl
  have htrc : (setAdmission i (some new) (updateLane n f s)).trc = s.trc := by simp [setAdmission]
  have hn18 : 1 ≤ n ∧ n ≤ 8 := by
    have := h.lanes
    by_contra hout
    rw [(lane_eq_none_iff this n).2 (by omega)] at hl
    cases hl
  refine h.update hi htable rfl (role_of_stc (by simp [setAdmission]))
    (fun hw => by simpa [State.waiting, State.mode, setAdmission] using hw)
    (fun x hx => ⟨h.started he, fun _ => Option.some.inj hx ▸ hn.symm ▸ hn18⟩) (fun l' hl' => ?_) (fun m hm => ?_)
    (htrc ▸ h.ring) ?_
  · obtain rfl := Option.some.inj (hl.symm.trans hl')
    have := h.capacity l (lane_mem hl)
    have := hf l
    rw [he, roomIn_of_pending hpending, roomIn_of_holdsRoom hroom, if_pos hn]
    omega
  · rw [he, roomIn_of_pending hpending, roomIn_of_holdsRoom hroom, if_neg (by rw [hn]; exact Ne.symm hm)]
  · have hset := reservedTotal_set htable hi
    rw [he, roomHeld_of_pending hpending, roomHeld_of_holdsRoom hroom] at hset
    unfold traceFree at htotal ⊢
    rw [htrc]
    omega

theorem ReservationsFit.serveEntry {s : State} (h : ReservationsFit s) (hmay : mayServe s = true) {i : Nat}
    (hpending : ∀ e, s.admission i = some e → e.holdsRoom = false) : ReservationsFit (serveEntry i s) := by
  unfold Machine.serveEntry
  split
  · exact h
  · next e he =>
    split
    · exact h
    · next n hn =>
      obtain ⟨hn1, l, hl, hfree⟩ := placement_lane hn
      have hlane : s.lane n = some l := by rw [State.lane, if_neg (by omega)]; exact hl
      have hcapacity := h.capacity l (lane_mem hlane)
      have hroom : l.occupancy + l.reserved < l.capacity := by
        obtain ha | h0 := hfree
        · exact of_decide_eq_true ha
        · omega
      have htotal : reservedTotal s + 1 ≤ traceFree s := by
        simp only [mayServe, Bool.and_eq_true, decide_eq_true_eq] at hmay
        exact hmay.2
      exact h.take he (hpending e he) rfl rfl hlane hroom (fun _ => ⟨rfl, rfl, rfl⟩) htotal

theorem ReservationsFit.serveList {s : State} {l : List Nat} (h : ReservationsFit s) (hl : l.Nodup) (hp : AllPending l s) :
    ReservationsFit (serveList l s) := by
  induction l generalizing s with
  | nil => exact h
  | cons i is ih =>
    obtain ⟨hi, his⟩ := List.nodup_cons.1 hl
    unfold Machine.serveList
    split
    · next hmay =>
      refine ih (h.serveEntry hmay (hp i (List.mem_cons_self ..))) his fun j hj e he => ?_
      rw [serveEntry_admission_of_ne (by rintro rfl; exact hi hj)] at he
      exact hp j (List.mem_cons_of_mem _ hj) e he
    · exact h

theorem insertRanked_perm (before : Nat → Nat → Bool) (x : Nat) (l : List Nat) : (insertRanked before x l).Perm (x :: l) := by
  induction l with
  | nil => exact .refl _
  | cons y ys ih =>
    unfold insertRanked
    split
    · exact .refl _
    · exact (ih.cons y).trans (.swap x y ys)

/-- The ranking is an order of the indices of the PENDING entries. -/
theorem pendingRanked_perm (s : State) :
    (pendingRanked s).Perm
      ((List.range s.adm.table.length).filter (fun i => (s.admission i).any (fun e => e.state = .pending))) := by
  unfold pendingRanked
  generalize (List.range s.adm.table.length).filter (fun i => (s.admission i).any (fun e => e.state = .pending)) = l
  induction l with
  | nil => exact .refl _
  | cons i is ih => exact (insertRanked_perm _ i _).trans (ih.cons i)

theorem ReservationsFit.serve {s : State} (h : ReservationsFit s) : ReservationsFit (serve s) := by
  unfold Machine.serve
  split
  · refine h.serveList ((pendingRanked_perm s).nodup_iff.2 (List.nodup_range.filter _)) fun i hi e he => ?_
    have hpending := (List.mem_filter.1 ((pendingRanked_perm s).mem_iff.1 hi)).2
    rw [he] at hpending
    simpa [Admission.holdsRoom] using hpending
  · exact h

end Sys2Proof.Machine
end

section
/-! Every command leaves a chamber's reservations in balance (R131, R133 to R149). -/

namespace Sys2Proof.Machine

namespace ReservationsFit

/-! ### Before START nothing is held -/

theorem table_of_waiting {s : State} (h : ReservationsFit s) (hw : s.waiting) : ∀ o ∈ s.adm.table, o = none :=
  h.elsewhere (.inr hw)

theorem table_of_not_chamber {s : State} (h : ReservationsFit s) (hr : s.role ≠ .chamber) : ∀ o ∈ s.adm.table, o = none :=
  h.elsewhere (.inl hr)

/-- With no entry in the table only the lanes' own bounds and the ring's matter. -/
theorem of_empty {s : State} (hlen : s.adm.lanes.length = 8) (hring : s.trc.entries.length ≤ ringSize)
    (htable : ∀ o ∈ s.adm.table, o = none)
    (hlanes : ∀ l ∈ s.adm.lanes, l.reserved = 0 ∧ 1 ≤ l.capacity ∧ l.occupancy ≤ l.capacity) : ReservationsFit s where
  lanes := hlen
  ring := hring
  elsewhere _ := htable
  laneNumbers e he := absurd (htable _ he) (by simp)
  reserved n l hl := by
    have hnone : reservedFor s n = 0 :=
      List.length_eq_zero_iff.2 (List.filter_eq_nil_iff.2 fun o ho => by simp [htable o ho])
    rw [hnone]
    exact (hlanes l (lane_mem hl)).1
  capacity l hl := by
    have := hlanes l hl
    omega
  outcomes := by
    have hnone : reservedTotal s = 0 :=
      List.length_eq_zero_iff.2 (List.filter_eq_nil_iff.2 fun o ho => by simp [htable o ho])
    rw [hnone]
    exact Nat.zero_le _

theorem lanes_of_empty {s : State} (h : ReservationsFit s) (htable : ∀ o ∈ s.adm.table, o = none) {l : Lane}
    (hl : l ∈ s.adm.lanes) : l.reserved = 0 ∧ 1 ≤ l.capacity ∧ l.occupancy ≤ l.capacity := by
  obtain ⟨n, hn⟩ := lane_of_mem hl
  have hnone : reservedFor s n = 0 :=
    List.length_eq_zero_iff.2 (List.filter_eq_nil_iff.2 fun o ho => by simp [htable o ho])
  have := h.reserved n l hn
  have := h.capacity l hl
  omega

/-- With no entry in the table, whatever moves neither the lanes, nor the table, nor past the ring's bound. -/
theorem of_empty_same {s t : State} (h : ReservationsFit s) (htable : ∀ o ∈ s.adm.table, o = none)
    (hrooms : Part.rooms.Same s t) (hring : t.trc.entries.length ≤ ringSize) : ReservationsFit t :=
  of_empty (by rw [hrooms.1]; exact h.lanes) hring (hrooms.2 ▸ htable)
    fun _ hl => h.lanes_of_empty htable (hrooms.1 ▸ hl)

/-! ### Modes -/

theorem enterMode {s : State} {m : Mode} (h : ReservationsFit s) (hm : m ≠ .starting) (hm' : m ≠ .configuring) :
    ReservationsFit (enterMode m s) :=
  h.of_same ⟨by simp [Machine.enterMode], by simp [Machine.enterMode]⟩ (by simp [Machine.enterMode])
    (role_of_settings (by simp [Machine.enterMode]))
    fun hw => absurd hw (by simp [Machine.enterMode, State.waiting, State.mode, hm, hm'])

theorem enterRunning {s : State} (h : ReservationsFit s) : ReservationsFit (enterRunning s) :=
  (h.enterMode (m := .running) (by simp) (by simp)).serve

theorem enterByCauses {s : State} (h : ReservationsFit s) : ReservationsFit (enterByCauses s) := by
  unfold Machine.enterByCauses
  split
  · exact h.enterRunning
  · exact h.enterMode (m := .held) (by simp) (by simp)

theorem runIfClear {s : State} (h : ReservationsFit s) : ReservationsFit (runIfClear s) := by
  unfold Machine.runIfClear
  split
  · exact h.enterRunning
  · exact h

theorem settleFlow {s : State} (h : ReservationsFit s) : ReservationsFit (settleFlow s) :=
  h.of_keeps (s₀ := s) (keeps_settleFlow rfl s)

theorem enterSanitising {s : State} (h : ReservationsFit s) : ReservationsFit (enterSanitising s) := by
  have hmode : ReservationsFit (Machine.enterMode .sanitising { s with stc.drainAt := none }) :=
    enterMode (h.of_keeps (s₀ := s) (.of_core_eq rfl)) (by simp) (by simp)
  unfold Machine.enterSanitising
  dsimp only
  split
  · exact hmode.of_same ⟨rfl, rfl⟩ (Nat.le_refl _) rfl id
  · exact hmode.of_same ⟨rfl, rfl⟩ (Nat.le_refl _) rfl id
  · exact hmode.of_same ⟨rfl, rfl⟩ (Nat.le_refl _) rfl id
  · exact hmode.of_same ⟨rfl, rfl⟩ (Nat.le_refl _) rfl id
  · exact hmode

theorem latch {s : State} (h : ReservationsFit s) (n : Notice) : ReservationsFit (latch n s) :=
  h.of_keeps (s₀ := s) (keeps_latch n s)

theorem timeTo {s : State} (h : ReservationsFit s) (d : Nat) : ReservationsFit (timeTo d s) :=
  h.of_keeps (s₀ := s) (keeps_timeTo d s)

/-- PENDING entries leave the table at the entry to DRAINING: they hold no room (R147). -/
theorem removePending {s : State} (h : ReservationsFit s) : ReservationsFit (removePending s) := by
  have htable : (Machine.removePending s).adm.table = s.adm.table.map (fun o => o.filter (fun e => e.state ≠ .pending)) :=
    rfl
  have hcount (p : Admission → Bool) (hp : ∀ e, p e = true → e.holdsRoom = true) :
      ((s.adm.table.map (fun o => o.filter (fun e => e.state ≠ .pending))).filter (fun o => o.any p)).length =
        (s.adm.table.filter (fun o => o.any p)).length := by
    rw [← List.countP_eq_length_filter, ← List.countP_eq_length_filter, List.countP_map]
    refine List.countP_congr fun o _ => ?_
    cases o with
    | none => rfl
    | some e =>
      by_cases hs : e.state = .pending
      · have hnot : p e = false := by
          rw [← Bool.not_eq_true]
          intro he
          simpa [Admission.holdsRoom, hs] using hp e he
        simp [hs, hnot]
      · simp [hs]
  refine { lanes := h.lanes, ring := h.ring, elsewhere := fun he o ho => ?_, laneNumbers := fun e he => ?_,
           reserved := fun n l hl => ?_, capacity := h.capacity, outcomes := ?_ }
  · rw [htable] at ho
    obtain ⟨x, hx, rfl⟩ := List.mem_map.1 ho
    rw [h.elsewhere he x hx]
    rfl
  · rw [htable] at he
    obtain ⟨x, hx, hfilter⟩ := List.mem_map.1 he
    obtain ⟨rfl, -⟩ := Option.filter_eq_some_iff.1 hfilter
    exact h.laneNumbers e hx
  · refine (h.reserved n l hl).trans (Eq.symm ?_)
    exact hcount (fun e => e.holdsRoom && e.laneNo = n) fun e he => (Bool.and_eq_true _ _ ▸ he).1
  · exact (hcount Admission.holdsRoom fun _ he => he).trans_le h.outcomes

/-! ### Entries that leave -/

theorem dropManifest_adm (t : TrayId) (s : State) :
    (dropManifest t s).adm.table = s.adm.table ∧ (dropManifest t s).adm.lanes = s.adm.lanes := by
  unfold dropManifest
  split <;> exact ⟨rfl, rfl⟩

theorem removeEntry_adm (i : Nat) (e : Admission) (s : State) :
    (removeEntry i e s).adm.table = s.adm.table.set i none ∧ (removeEntry i e s).adm.lanes = s.adm.lanes :=
  dropManifest_adm e.tray (setAdmission i none s)

theorem updateLane_table (n : Nat) (f : Lane → Lane) (s : State) : (updateLane n f s).adm.table = s.adm.table := by
  unfold updateLane
  split <;> rfl

/-- Lanes follow lanes alone. -/
theorem updateLane_lanes_congr {s t : State} (h : t.adm.lanes = s.adm.lanes) (n : Nat) (f : Lane → Lane) :
    (updateLane n f t).adm.lanes = (updateLane n f s).adm.lanes := by
  unfold updateLane
  split
  · exact h
  · simp [h]

theorem role_of_keeps {A : Part → Bool} {s₀ s t : State} (hA : A .settings = false) (h : Keeps A s₀ s t) :
    t.role = s.role := role_of_settings (h.same .settings hA)

section Leave

variable {s : State} (h : ReservationsFit s) {i : Nat} {e : Admission} (he : s.admission i = some e)
include h he

theorem endReservation (hroom : e.holdsRoom = true) : ReservationsFit (endReservation i e s) := by
  have hkeeps : Keeps (fun p => p == .rooms) s s (Machine.endReservation i e s) := keeps_endReservation rfl i e s
  obtain ⟨htable, hlanes⟩ := removeEntry_adm i e (updateLane e.laneNo Lane.release s)
  exact h.leave he hroom (htable.trans (by rw [updateLane_table])) hlanes (role_of_keeps rfl hkeeps) hkeeps.waiting
    (fun l => by have := l.release_room; omega) (by rw [show _ = s.trc from hkeeps.same .trace rfl]; omega)

theorem discardReady (hroom : e.holdsRoom = true) : ReservationsFit (discardReady i e s) :=
  (h.endReservation he hroom).of_keeps (s₀ := s) (.of_core_eq rfl)

theorem declareMissing (hroom : e.holdsRoom = true) : ReservationsFit (declareMissing i e s) := by
  have hkeeps : Keeps (fun p => p == .rooms || p == .trace) s s (Machine.declareMissing i e s) :=
    keeps_declareMissing rfl rfl i e s
  have hwritten (x : TraceEntry) : (Machine.endReservation i e (writeTrace x s)).trc = (writeTrace x s).trc :=
    (keeps_endReservation (A := fun p => p == .rooms) (s₀ := s) rfl i e _).same .trace rfl
  have hadm (x : TraceEntry) := removeEntry_adm i e (updateLane e.laneNo Lane.release (writeTrace x s))
  refine h.leave he hroom ((hadm _).1.trans (by rw [updateLane_table, writeTrace_adm]))
    ((hadm _).2.trans (updateLane_lanes_congr (by rw [writeTrace_adm]) _ _)) (role_of_keeps rfl hkeeps) hkeeps.waiting
    (fun l => by have := l.release_room; omega) ?_
  refine (congrArg (fun x : Trc => x.entries.length) (hwritten _)).trans_le ?_
  rw [writeTrace_entries]
  split <;> simp

/-- A PENDING entry leaves: it held no room. -/
theorem removeEntry (hpending : e.holdsRoom = false) : ReservationsFit (removeEntry i e s) := by
  have hkeeps : Keeps (fun p => p == .rooms) s s (Machine.removeEntry i e s) := keeps_removeEntry rfl i e s
  obtain ⟨htable, hlanes⟩ := removeEntry_adm i e s
  exact h.update_entry (lt_length_of_slotAt he) htable hlanes (hkeeps.same .trace rfl) (role_of_keeps rfl hkeeps)
    hkeeps.waiting (fun _ hn => by cases hn) (fun m => by rw [he, roomIn_of_pending hpending, roomIn_none])
    (by rw [he, roomHeld_of_pending hpending, roomHeld_none])

/-- An entry is replaced by one that holds the room it held. -/
theorem setAdmission {x : Admission} (hroom : x.holdsRoom = e.holdsRoom) (hlane : x.laneNo = e.laneNo) :
    ReservationsFit (setAdmission i (some x) s) :=
  h.update_entry (lt_length_of_slotAt he) rfl rfl rfl rfl id
    (fun y hy => ⟨h.started he, fun hr => by
      obtain rfl := Option.some.inj hy
      rw [hlane]
      exact h.laneNumbers e (mem_of_slotAt he) (hroom.symm.trans hr)⟩)
    (fun m => by simp [he, roomIn, hroom, hlane]) (by simp [he, roomHeld, hroom])

end Leave

end ReservationsFit

end Sys2Proof.Machine
end

section
/-! Every command leaves a chamber's reservations in balance. -/

namespace Sys2Proof.Machine

theorem clampNat_bounds {lo hi : Nat} (h : lo ≤ hi) (v : Nat) : lo ≤ clampNat lo hi v ∧ clampNat lo hi v ≤ hi := by
  unfold clampNat
  split
  · omega
  split <;> omega

namespace ReservationsFit

theorem of_core {s t : State} (h : ReservationsFit s) (hcore : t.core = s.core) : ReservationsFit t :=
  h.of_keeps (s₀ := s) (.of_core_eq hcore)

/-! ### The load, WRITE-SETTING and START (R164 to R166) -/

/-- New settings and a new set of lanes, none of them reserved, where the table is empty. -/
theorem completeLoad (ws : List Half) {s : State} (h : ReservationsFit s) (hm : s.mode = .starting) :
    ReservationsFit (completeLoad ws s) := by
  have htable : (Machine.completeLoad ws s).adm.table = s.adm.table := by
    simp only [Machine.completeLoad, Machine.enterMode, resum, placeState_adm, updateAttention_adm]
    split <;> rfl
  have hlanes : (Machine.completeLoad ws s).adm.lanes =
      if imageGood ws then (List.range 8).map (imageLane ws) else defaultLanes := by
    simp only [Machine.completeLoad, Machine.enterMode, resum, placeState_adm, updateAttention_adm]
    split <;> rfl
  have htrc : (Machine.completeLoad ws s).trc = s.trc := by
    simp only [Machine.completeLoad, Machine.enterMode, resum, placeState_trc, updateAttention_trc]
    split <;> rfl
  refine of_empty ?_ (htrc ▸ h.ring) (htable ▸ h.table_of_waiting (.inl hm)) fun l hl => ?_
  · rw [hlanes]
    split
    · simp
    · rfl
  · rw [hlanes] at hl
    split at hl
    · obtain ⟨i, -, rfl⟩ := List.mem_map.1 hl
      exact ⟨rfl, (clampNat_bounds (by decide) _).1, Nat.zero_le _⟩
    · rw [List.eq_of_mem_replicate hl]
      decide

theorem startSteps {s : State} (h : ReservationsFit s) (hm : s.mode = .configuring) : ReservationsFit (startSteps s).state := by
  have hsettled : ReservationsFit (settleStart s) := by
    have hkeeps : Keeps (fun p => p == .settings) s s (settleStart s) := keeps_settleStart rfl hm
    exact h.of_same (hkeeps.same .rooms rfl) (by rw [show _ = s.trc from hkeeps.same .trace rfl]) (settleStart_role s)
      hkeeps.waiting
  unfold Machine.startSteps
  split
  · exact h.of_keeps (s₀ := s) (.after (keeps_settleFlow rfl _) (.after (keeps_latch _ _) (keeps_enterFault rfl _ _)))
  · exact hsettled.enterByCauses.settleFlow

theorem startOwn {s : State} (h : ReservationsFit s) : ReservationsFit (startOwn s).state := by
  unfold Machine.startOwn
  split
  · exact h
  · next hm => exact h.startSteps (not_not.1 hm)

theorem writeSettingOwn (number : BitVec 16) (value : BitVec 32) {s : State} (h : ReservationsFit s) :
    ReservationsFit (writeSettingOwn number value s).state := by
  by_cases hm : s.mode = .configuring
  · have hkeeps : Keeps (fun p => p == .settings || p == .peers) s s (Machine.writeSettingOwn number value s).state :=
      keeps_writeSettingOwn rfl rfl number value s
    exact h.of_empty_same (h.table_of_waiting (.inr hm)) (hkeeps.same .rooms rfl)
      (by rw [show _ = s.trc from hkeeps.same .trace rfl]; exact h.ring)
  · rw [Machine.writeSettingOwn, if_pos hm]
    exact h

/-! ### Modes (R167 to R170) -/

theorem clearCauses {s : State} (h : ReservationsFit s) : ReservationsFit (clearCauses s) := by
  rw [clearCauses_eq]
  exact h.of_same ⟨rfl, rfl⟩ (Nat.le_refl _) rfl id

theorem resumeOwn {s : State} (h : ReservationsFit s) : ReservationsFit (resumeOwn s).state := by
  unfold Machine.resumeOwn
  split
  · exact h
  · exact h
  · exact h
  · exact h
  · dsimp only
    split
    · exact h.clearCauses.enterRunning.settleFlow
    · exact h.clearCauses
  · exact h.clearCauses
  · exact h.clearCauses

theorem sanitiseOwn {s : State} (h : ReservationsFit s) : ReservationsFit (sanitiseOwn s).state := by
  have hdraining : ReservationsFit (Machine.enterMode .draining { s with stc.drainAt := some (s.nowMs + s.drainMs) }) :=
    enterMode (h.of_keeps (s₀ := s) (.of_core_eq rfl)) (by simp) (by simp)
  unfold Machine.sanitiseOwn
  split
  · refine settleFlow ?_
    unfold enterDraining
    dsimp only
    split
    · exact hdraining.of_keeps (s₀ := s) (keeps_closeOpenLot _)
    · exact hdraining.of_keeps (s₀ := s) (keeps_closeOnDrain _)
    · exact hdraining.removePending
    · exact hdraining
  · exact h

theorem endSanitiseOwn {s : State} (h : ReservationsFit s) : ReservationsFit (endSanitiseOwn s).state := by
  have hflag : ReservationsFit (if s.role = .filler then { s with lot.sanitised := true } else s) := by
    split
    · exact h.of_keeps (s₀ := s) (.of_core_eq rfl)
    · exact h
  unfold Machine.endSanitiseOwn
  split
  · exact ((hflag.of_keeps (s₀ := s) (keeps_sanitiseTables rfl _)).enterByCauses).settleFlow
  · exact h

theorem endEntries (l : List Nat) {s : State} (h : ReservationsFit s) : ReservationsFit (endEntries l s) := by
  induction l generalizing s with
  | nil => exact h
  | cons i is ih =>
    unfold Machine.endEntries
    split
    · exact ih h
    · next e he =>
      split
      · next hready => exact ih (h.discardReady he (by simp [Admission.holdsRoom, hready]))
      · split
        · next hclaimed => exact ih (h.declareMissing he (holdsRoom_of_claimed hclaimed))
        · exact ih h
where
  holdsRoom_of_claimed {e : Admission} (h : e.claimed = true) : e.holdsRoom = true := by
    simp only [Admission.claimed, Bool.or_eq_true, decide_eq_true_eq] at h
    rcases h with h | h <;> simp [Admission.holdsRoom, h]

theorem writeOffAll {s : State} (h : ReservationsFit s) : ReservationsFit (writeOffAll s) := by
  by_cases hr : s.role = .chamber
  · rw [writeOffAll_of_chamber hr]
    exact h.endEntries _
  · exact h.of_keeps (s₀ := s) (keeps_writeOffAll_of_not_chamber rfl hr)

theorem drainOut {s : State} (h : ReservationsFit s) : ReservationsFit (drainOut s) := by
  unfold Machine.drainOut
  split
  · exact h
  · next d _ =>
    split
    · have hwritten : ReservationsFit (Machine.writeOffAll (Machine.timeTo d { s with stc.drainAt := none })) :=
        writeOffAll (h.of_keeps (s₀ := s) (.of_core_eq rfl))
      dsimp only
      generalize Machine.writeOffAll (Machine.timeTo d { s with stc.drainAt := none }) = u at hwritten ⊢
      have hlatched : ReservationsFit (if 0 < recordsToWriteOff s then Machine.latch .writtenOff u else u) := by
        split
        · exact hwritten.latch _
        · exact hwritten
      generalize (if 0 < recordsToWriteOff s then Machine.latch .writtenOff u else u) = v at hlatched ⊢
      refine settleFlow ?_
      split
      · exact hlatched.enterSanitising
      · exact hlatched
    · exact h

theorem sentFrame {s : State} (h : ReservationsFit s) : ReservationsFit (sentFrame s) := by
  unfold Machine.sentFrame
  split
  · exact h
  · next o _ =>
    have hsent : ReservationsFit (startAnswerTimers o.frame (takeFromPlace o s)) :=
      h.of_keeps (s₀ := s) ((keeps_takeFromPlace o s).trans (keeps_startAnswerTimers _ _))
    dsimp only
    generalize startAnswerTimers o.frame (takeFromPlace o s) = t at hsent ⊢
    refine settleFlow (runIfClear (of_same hsent ⟨rfl, rfl⟩ (Nat.le_refl _) rfl id))

/-! ### The trace ring (R124, R127, R143) -/

theorem readTraceOwn {s : State} (h : ReservationsFit s) : ReservationsFit (readTraceOwn s).state := by
  unfold Machine.readTraceOwn
  split
  · exact h
  · exact h.of_same ⟨rfl, rfl⟩ (Nat.le_refl _) rfl id

theorem freeTraceOwn {s : State} (h : ReservationsFit s) : ReservationsFit (freeTraceOwn s).state := by
  unfold Machine.freeTraceOwn
  split
  · exact h
  split
  · exact h
  · exact serve (h.of_same ⟨rfl, rfl⟩ (by simp) rfl id)

/-- At DISPATCH the table is empty, so a release's trace entry takes no place that is reserved. -/
theorem shuttleEnd {s : State} (h : ReservationsFit s) : ReservationsFit (shuttleEnd s) := by
  have hkeeps : Keeps (fun p => p == .trace || p == .flow) s s (Machine.shuttleEnd s) := keeps_shuttleEnd rfl rfl s
  unfold Machine.shuttleEnd at hkeeps ⊢
  split at hkeeps
  · next hr =>
    rw [if_pos hr]
    split at hkeeps
    · exact h.of_keeps (s₀ := s) (.of_core_eq rfl)
    split at hkeeps
    · exact h.of_keeps (s₀ := s) (.of_core_eq rfl)
    · next i _ _ c _ =>
      have hlater : Keeps outsideRooms s
          (writeTrace (releaseEntry c.tray s.stc.clock) { s with dsp.release := none, dsp.shuttleAt := none })
          (endRelease i c s) :=
        .after (keeps_settleFlow rfl _) (.after (keeps_dspCounts ..) (.after (keeps_emptyCell _ _) (keeps_queuePass _ _)))
      refine h.of_empty_same (h.table_of_not_chamber (by simp [hr])) (hkeeps.same .rooms rfl) ?_
      rw [show _ = (writeTrace _ _).trc from hlater.same .trace rfl]
      exact writeTrace_bound _ _ h.ring
  · next hr =>
    rw [if_neg hr]
    exact h

/-- A stray's trace entry is written only into a place that no reservation needs (R143). -/
theorem traceStray (n : Note) {s : State} (h : ReservationsFit s) : ReservationsFit (traceStray n s) := by
  unfold Machine.traceStray
  split
  · next hfree =>
    have hlen : (writeTrace (.chamber n.tray .stray none n.lot s.stc.clock) s).trc.entries.length ≤
        s.trc.entries.length + 1 := by
      rw [writeTrace_entries]
      split <;> simp
    have hkeeps : Keeps (fun p => p == .trace) s s (writeTrace (.chamber n.tray .stray none n.lot s.stc.clock) s) :=
      keeps_writeTrace rfl _ s
    have hrooms : Part.rooms.Same s _ := hkeeps.same .rooms rfl
    exact {
      lanes := by rw [hrooms.1]; exact h.lanes
      ring := writeTrace_bound _ _ h.ring
      elsewhere := fun he => by
        rw [hrooms.2]
        exact h.elsewhere (he.imp (fun hr => by rwa [role_of_keeps rfl hkeeps] at hr) hkeeps.waiting)
      laneNumbers := fun e he => h.laneNumbers e (hrooms.2 ▸ he)
      reserved := fun m l hl => by
        rw [reservedFor_congr hrooms.2]
        exact h.reserved m l (lane_congr hrooms.1 m ▸ hl)
      capacity := fun l hl => h.capacity l (hrooms.1 ▸ hl)
      outcomes := by
        rw [reservedTotal_congr hrooms.2]
        unfold traceFree at hfree ⊢
        omega }
  · refine latch ?_ _
    exact of_core h rfl

/-! ### Lanes (R131, R145) -/

/-- A lane is rewritten with its reserved count kept. -/
theorem updateLane {s : State} {n : Nat} {f : Lane → Lane} (h : ReservationsFit s)
    (hf : ∀ l, s.lane n = some l →
      (f l).reserved = l.reserved ∧ 1 ≤ (f l).capacity ∧ (f l).occupancy + (f l).reserved ≤ (f l).capacity) :
    ReservationsFit (updateLane n f s) := by
  have hkeeps : Keeps (fun p => p == .rooms) s s (Machine.updateLane n f s) := keeps_updateLane rfl n f s
  have htable : (Machine.updateLane n f s).adm.table = s.adm.table := updateLane_table n f s
  refine { lanes := ?_, ring := ?_, elsewhere := fun he => ?_, laneNumbers := fun e he => ?_, reserved := fun m l hl => ?_,
           capacity := fun l hl => ?_, outcomes := ?_ }
  · rw [updateLane_lanes_length]
    exact h.lanes
  · rw [show _ = s.trc from hkeeps.same .trace rfl]
    exact h.ring
  · rw [htable]
    exact h.elsewhere (he.imp (fun hr => by rwa [role_of_keeps rfl hkeeps] at hr) hkeeps.waiting)
  · exact h.laneNumbers e (htable ▸ he)
  · rw [reservedFor_congr htable]
    rw [lane_updateLane] at hl
    split at hl
    · next hmn =>
      subst hmn
      obtain ⟨l₀, hl₀, rfl⟩ := Option.map_eq_some_iff.1 hl
      exact (hf l₀ hl₀).1.trans (h.reserved m l₀ hl₀)
    · exact h.reserved m l hl
  · obtain ⟨m, hm⟩ := lane_of_mem hl
    rw [lane_updateLane] at hm
    split at hm
    · next hmn =>
      subst hmn
      obtain ⟨l₀, hl₀, rfl⟩ := Option.map_eq_some_iff.1 hm
      exact (hf l₀ hl₀).2
    · exact h.capacity l (lane_mem hm)
  · rw [reservedTotal_congr htable, traceFree, show _ = s.trc from hkeeps.same .trace rfl]
    exact h.outcomes

theorem writeLaneOwn (lane use : BitVec 8) (capacity occupancy order : BitVec 16) {s : State} (h : ReservationsFit s) :
    ReservationsFit (writeLaneOwn lane use capacity occupancy order s).state := by
  unfold Machine.writeLaneOwn
  dsimp only
  split
  · exact h
  · next hm =>
    split
    · exact h
    split
    · exact h
    · refine of_keeps (s₀ := s) (updateLane h fun l hl => ?_) (keeps_resum _)
      have := h.lanes_of_empty (h.table_of_waiting (.inr (not_not.1 hm))) (lane_mem hl)
      have hcapacity := clampNat_bounds (lo := 1) (hi := 500) (by decide) capacity.toNat
      dsimp only [writtenLane]
      omega

theorem drawdownOwn (lane : BitVec 8) (count : BitVec 16) {s : State} (h : ReservationsFit s) :
    ReservationsFit (drawdownOwn lane count s).state := by
  have hdrawn : ReservationsFit (Machine.updateLane lane.toNat (drawnLane count.toNat) s) :=
    updateLane h fun l hl => by
      have := h.capacity l (lane_mem hl)
      rw [drawnLane_eq]
      dsimp only
      omega
  unfold Machine.drawdownOwn
  dsimp only
  split
  · exact h
  split
  · exact h
  · dsimp only
    split
    · exact hdrawn.serve
    · exact hdrawn

/-! ### Manifests, asks and windows (R133 to R141) -/

theorem meetEntry (m : Manifest) {s : State} (h : ReservationsFit s) : ReservationsFit (meetEntry m s) := by
  unfold Machine.meetEntry
  split
  · exact h
  · next i _ =>
    split
    · exact h
    · next e he =>
      split
      · exact h
      split
      · exact h.setAdmission he rfl rfl
      · dsimp only
        refine serve ?_
        split
        · next hroom =>
          have hleft : ReservationsFit (Machine.setAdmission i none (Machine.updateLane e.laneNo Lane.release s)) := by
            have hkeeps : Keeps (fun p => p == .rooms) s s
                (Machine.setAdmission i none (Machine.updateLane e.laneNo Lane.release s)) :=
              .after (keeps_setAdmission rfl _ _ _) (keeps_updateLane rfl _ _ s)
            exact h.leave he hroom (by simp [Machine.setAdmission, updateLane_table]) rfl (role_of_keeps rfl hkeeps)
              hkeeps.waiting (fun l => by have := l.release_room; omega)
              (by rw [show _ = s.trc from hkeeps.same .trace rfl]; omega)
          exact hleft.of_keeps (s₀ := s) (.of_core_eq rfl)
        · next hroom =>
          have hpending : e.holdsRoom = false := by simpa using hroom
          exact h.update_entry (lt_length_of_slotAt he) rfl rfl rfl rfl id (fun _ hn => by cases hn)
            (fun k => by rw [he, roomIn_of_pending hpending, roomIn_none])
            (by rw [he, roomHeld_of_pending hpending, roomHeld_none])

theorem takeManifest (source : Nat) (p : ManifestFields) {s : State} (h : ReservationsFit s) :
    ReservationsFit (takeManifest source p s) := by
  unfold Machine.takeManifest storeManifest
  split
  · exact h.of_keeps (s₀ := s) (.of_core_eq rfl)
  split
  · exact meetEntry _ (h.of_same ⟨rfl, rfl⟩ (Nat.le_refl _) rfl id)
  split
  · exact h.of_same ⟨rfl, rfl⟩ (Nat.le_refl _) rfl id
  · exact h.of_keeps (s₀ := s) (.after (keeps_latch _ _) (.of_core_eq rfl))

theorem answer {s : State} (h : ReservationsFit s) (target : Nat) (trayId : BitVec 32) (a : Answer) (lane : Nat) :
    ReservationsFit (answer target trayId a lane s) :=
  h.of_keeps (s₀ := s) (keeps_pushAnswer _ s)

theorem askEntry {s : State} (h : ReservationsFit s) {i : Nat} {e : Admission} (he : s.admission i = some e)
    (source : Nat) (trayId : BitVec 32) : ReservationsFit (askEntry i e source trayId s) := by
  unfold Machine.askEntry
  split
  · refine answer ?_ ..
    exact setAdmission h he rfl rfl
  · next hs =>
    refine answer ?_ ..
    exact setAdmission h he (by simp [Admission.holdsRoom, hs]) rfl
  · exact answer h ..
  · exact answer h ..

/-- A PENDING entry joins a free place of the table of a chamber that has been started. -/
theorem addPending {s t : State} (h : ReservationsFit s) (hr : s.role = .chamber) (hw : ¬ s.waiting) {i : Nat}
    (hi : lowestFree s.adm.table = some i) {e : Admission} (he : e.holdsRoom = false)
    (ht : t.core = (Machine.setAdmission i (some e) s).core) : ReservationsFit t := by
  obtain ⟨hlt, hnone, -⟩ := List.findIdx?_eq_some_iff_getElem.1 hi
  have hfree : s.admission i = none := by
    rw [getElem_eq_slotAt] at hnone
    exact Option.isNone_iff_eq_none.1 hnone
  have hset : ReservationsFit (Machine.setAdmission i (some e) s) :=
    h.update_entry hlt rfl rfl rfl rfl id
      (fun x hx => ⟨⟨hr, hw⟩, fun hroom => by obtain rfl := Option.some.inj hx; simp [he] at hroom⟩)
      (fun m => by rw [hfree, roomIn_of_pending he, roomIn_none]) (by rw [hfree, roomHeld_of_pending he, roomHeld_none])
  exact hset.of_keeps (s₀ := s) (.of_core_eq ht)

theorem takeAsk {s : State} (h : ReservationsFit s) (hr : s.role = .chamber) (hm : s.mode ≠ .starting) (source : Nat)
    (trayId : BitVec 32) : ReservationsFit (takeAsk source trayId s) := by
  unfold Machine.takeAsk askNew
  dsimp only
  split
  · exact h.of_keeps (s₀ := s) (.of_core_eq rfl)
  split
  · exact answer h ..
  · next hdeny =>
    have hw : ¬ s.waiting := by
      rintro (hs | hs)
      · exact hm hs
      · simp [deniesAsks, hs] at hdeny
    split
    · split
      · next e he => exact askEntry h he source trayId
      · exact h
    split
    · exact answer h ..
    split
    · exact answer h ..
    · next i hi =>
      split
      · exact answer h ..
      split
      · exact answer h ..
      · refine serve (answer ?_ ..)
        exact addPending h hr hw hi (e := pendingEntry _ s) rfl rfl

theorem pendingOut (index : Nat) {s : State} (h : ReservationsFit s) : ReservationsFit (pendingOut index s) := by
  unfold Machine.pendingOut
  split
  · exact h
  · next e he =>
    split
    · next hs =>
      exact (removeEntry (h.timeTo _) he (by simp [Admission.holdsRoom, hs])).of_keeps (s₀ := s) (.of_core_eq rfl)
    · exact h

theorem claimOut (index : Nat) {s : State} (h : ReservationsFit s) : ReservationsFit (claimOut index s) := by
  unfold Machine.claimOut
  split
  · exact h
  · next e he =>
    split
    · next hs => exact serve (latch (discardReady (h.timeTo _) he (by simp [Admission.holdsRoom, hs])) _)
    · exact h

theorem arrivalOut (index : Nat) {s : State} (h : ReservationsFit s) : ReservationsFit (arrivalOut index s) := by
  unfold Machine.arrivalOut
  split
  · exact h
  · next e he =>
    split
    · next hs => exact serve (latch (declareMissing (h.timeTo _) he (endEntries.holdsRoom_of_claimed hs)) _)
    · exact h

/-! ### The way in (R140 to R143) -/

theorem takeChamberPass (p : TrayPassFields) {s : State} (h : ReservationsFit s) : ReservationsFit (takeChamberPass p s) := by
  have hnote (n : Note) : ReservationsFit (addNote n s) := h.of_keeps (s₀ := s) (keeps_addNote n s)
  unfold Machine.takeChamberPass makeInbound
  dsimp only
  split
  · exact h.of_keeps (s₀ := s) (.of_core_eq rfl)
  split
  · next e i he hi =>
    rw [hi] at he
    split
    · next hs =>
      refine setAdmission ?_ (e := e) ?_ (by simp [Admission.holdsRoom, hs]) rfl
      · exact of_core h rfl
      · exact he
    · exact h
    · exact hnote _
  · exact hnote _

theorem admitTray {s : State} (h : ReservationsFit s) {i : Nat} {e : Admission} (he : s.admission i = some e)
    (hroom : e.holdsRoom = true) : ReservationsFit (admitTray i e s) := by
  refine serve ?_
  generalize TraceEntry.chamber e.tray .admitted e.lane ((manifestOf s e.tray).bind Manifest.lot) s.stc.clock = x
  have hleft : ReservationsFit (Machine.removeEntry i e
      (writeTrace x (Machine.updateLane e.laneNo Lane.occupy { s with adm.laneSelect := e.laneNo }))) := by
    have hkeeps : Keeps (fun p => p == .rooms || p == .trace) s s (Machine.removeEntry i e
        (writeTrace x (Machine.updateLane e.laneNo Lane.occupy { s with adm.laneSelect := e.laneNo }))) :=
      .after (keeps_removeEntry rfl i e _) (.after (keeps_writeTrace rfl x _)
        (.after (keeps_updateLane rfl _ _ _) (.of_core_eq rfl)))
    obtain ⟨htable, hlanes⟩ := removeEntry_adm i e
      (writeTrace x (Machine.updateLane e.laneNo Lane.occupy { s with adm.laneSelect := e.laneNo }))
    have hlane : (Machine.updateLane e.laneNo Lane.occupy { s with adm.laneSelect := e.laneNo }).adm.lanes =
        (Machine.updateLane e.laneNo Lane.occupy s).adm.lanes := by
      refine updateLane_lanes_congr ?_ _ _
      rfl
    refine h.leave he hroom (htable.trans (by rw [writeTrace_adm, updateLane_table]))
      (hlanes.trans (by rw [writeTrace_adm, hlane])) (role_of_keeps rfl hkeeps) hkeeps.waiting
      (fun l => by have := l.occupy_room; omega) ?_
    rw [show _ = (writeTrace x _).trc from
      (keeps_removeEntry (A := fun p => p == .rooms) (s₀ := s) rfl i e (writeTrace x _)).same .trace rfl, writeTrace_entries]
    split <;> simp
  exact hleft.of_keeps (s₀ := s) (.of_core_eq rfl)

theorem infeedAtAdm {s : State} (h : ReservationsFit s) (hinbound : ∀ i e, oldestInbound s = some i →
    s.admission i = some e → e.holdsRoom = true) : ReservationsFit (infeedAtAdm s) := by
  unfold Machine.infeedAtAdm
  split
  · exact h
  split
  · exact traceStray _ (h.of_same ⟨rfl, rfl⟩ (Nat.le_refl _) rfl id)
  · next i hi =>
    split
    · exact h
    · next e he => exact admitTray h he (hinbound i e hi he)

end ReservationsFit

end Sys2Proof.Machine
end

section
/-! O57: a chamber's reservations balance at every step. -/

namespace Sys2Proof.Machine

/-- The entry an infeed event admits is INBOUND (R141). -/
theorem oldestInbound_state {s : State} {i : Nat} (h : oldestInbound s = some i) {e : Admission}
    (he : s.admission i = some e) : e.state = .inbound := by
  unfold oldestInbound at h
  revert h
  generalize List.range s.adm.table.length = is
  suffices hfold : ∀ best : Option Nat, (∀ j x, best = some j → s.admission j = some x → x.state = .inbound) →
      is.foldl (fun best i =>
        match s.admission i with
        | none => best
        | some e =>
          match e.inbound with
          | none => best
          | some o =>
            if e.state = .inbound then
              match (best.bind s.admission).bind Admission.inbound with
              | none => some i
              | some b => if orderBefore o b then some i else best
            else best) best = some i → e.state = .inbound from
    fun h => hfold none (fun _ _ hj => by cases hj) h
  induction is with
  | nil => exact fun best hbest h => hbest i e h he
  | cons k ks ih =>
    intro best hbest
    rw [List.foldl_cons]
    refine ih _ fun j x hj hx => ?_
    split at hj
    · exact hbest j x hj hx
    · next y hy =>
      split at hj
      · exact hbest j x hj hx
      split at hj
      · next hstate =>
        have hk : k = j → x.state = .inbound := by
          rintro rfl
          obtain rfl := Option.some.inj (hy.symm.trans hx)
          exact hstate
        split at hj
        · exact hk (Option.some.inj hj)
        · split at hj
          · exact hk (Option.some.inj hj)
          · exact hbest j x hj hx
      · exact hbest j x hj hx

namespace ReservationsFit

theorem infeedEvent {s : State} (h : ReservationsFit s) : ReservationsFit (infeedEvent s) := by
  unfold Machine.infeedEvent
  split
  · exact h.of_keeps (s₀ := s) (keeps_infeedAtTry rfl rfl s)
  · exact h.of_keeps (s₀ := s) (keeps_infeedAtTry rfl rfl s)
  · exact infeedAtAdm h fun i e hi he => by simp [Admission.holdsRoom, oldestInbound_state hi he]
  · exact h

theorem takeTrayFrame (source : Nat) (p : TrayPassFields) {s : State} (h : ReservationsFit s) :
    ReservationsFit (takeTrayFrame source p s) := by
  unfold Machine.takeTrayFrame
  split
  · exact h.takeChamberPass p
  · exact h.of_keeps (s₀ := s) (keeps_takeTrayPass rfl rfl source p s)

/-- A RESTART that waits empties the table and keeps the trace entries (R173). -/
theorem of_resets {s t : State} (h : ReservationsFit s) (hr : Resets s t) : ReservationsFit t := by
  obtain ⟨-, bytes, rfl⟩ := hr
  exact of_empty rfl h.ring (fun o ho => List.eq_of_mem_replicate ho) fun l hl => by
    rw [mem_default_lanes hl]
    decide

theorem portCommand {code n : Nat} {roles : Role → Bool} {enums : Bool} {own : State → Reply} {h : CmdHead} {s : State}
    (hown : ReservationsFit s → ReservationsFit (own s).state) (hs : ReservationsFit s) :
    ReservationsFit (portCommand code n false roles enums own h s) := by
  unfold Machine.portCommand
  split
  · exact hs.of_resets (resets_restartReset ‹_›)
  · split
    · exact hs.of_core rfl
    · have hdone := hown hs
      generalize own s = r at hdone ⊢
      exact hdone.of_core rfl

theorem receive {kind : FrameKind} {src tgt : BitVec 5} {block : State → State} {s : State}
    (h : s.mode ≠ .starting → s.role.uses kind = true → ReservationsFit (block s)) (hs : ReservationsFit s) :
    ReservationsFit (receive kind src tgt block s) := by
  obtain heq | heq | heq | ⟨hm, huse, heq⟩ := receive_cases kind src tgt block s <;> rw [heq]
  · exact hs
  · exact hs.of_core rfl
  · exact hs.of_core rfl
  · exact h hm huse

/-- Every command leaves the reservations in balance: it moves neither the lanes, nor the table, nor the ring, nor the role,
or it is one of those below. -/
theorem exec {c : Instr} {s t : State} (he : exec c s = .next t) (hs : ReservationsFit s) : ReservationsFit t := by
  by_cases hc : c = .hardReset
  · subst hc
    obtain rfl := Host.Outcome.next.inj he
    exact reservationsFit_reset.of_core rfl
  by_cases hstays : movesRooms c = false ∧ movesTrace c = false ∧ movesSettings c = false
  · obtain ⟨hrooms, htrace, hsettings⟩ := hstays
    obtain hk | hr := exec_keeps_or_resets hc he
    · exact hs.of_same (hk.same .rooms hrooms) (by rw [show t.trc = s.trc from hk.same .trace htrace])
        (role_of_settings (hk.same .settings hsettings)) hk.waiting
    · exact hs.of_resets hr
  cases c
  all_goals try exact absurd ⟨rfl, rfl, rfl⟩ hstays
  all_goals obtain rfl := Host.Outcome.next.inj he
  case loadComplete image =>
    split
    · next hm => exact (hs.completeLoad _ hm).settleFlow
    · exact hs
  case writeSetting h number value => exact portCommand (writeSettingOwn number value) hs
  case start h => exact portCommand startOwn hs
  case resume h => exact portCommand resumeOwn hs
  case sanitise h => exact portCommand sanitiseOwn hs
  case drainTimeout => exact drainOut hs
  case endSanitise h => exact portCommand endSanitiseOwn hs
  case readTrace h => exact portCommand readTraceOwn hs
  case freeTrace h => exact portCommand freeTraceOwn hs
  case writeLane h lane use capacity occupancy order => exact portCommand (writeLaneOwn lane use capacity occupancy order) hs
  case drawdown h lane count => exact portCommand (drawdownOwn lane count) hs
  case trayPass src tgt p => exact receive (fun _ _ => takeTrayFrame _ p hs) hs
  case chamberTrayPass src tgt p => exact receive (fun _ _ => takeTrayFrame _ p hs) hs
  case infeedSensorEvent => exact infeedEvent hs
  case chamberInfeedEvent => exact infeedEvent hs
  case shuttleDone => exact shuttleEnd hs
  case manifest src tgt p => exact receive (fun _ _ => takeManifest _ p hs) hs
  case admitAsk src tgt trayId => exact receive (fun hm huse => takeAsk hs (chamber_of_uses huse) hm _ trayId) hs
  case claimWindow index => exact claimOut index hs
  case arrivalWindow index => exact arrivalOut index hs
  case pendingLapse index => exact pendingOut index hs
  case frameSent => exact sentFrame hs
where
  /-- ADMIT-ASK is for a chamber alone (R155). -/
  chamber_of_uses {r : Role} (h : r.uses .admitAsk = true) : r = .chamber := by
    cases r <;> simp_all [Role.uses]

end ReservationsFit

/-- Settles O57: every command leaves the lanes' counts, the table and the free trace entries in balance. -/
theorem chamberReservationsBalance : Obligations.ChamberReservationsBalance := by
  intro s t hs h
  obtain hidle | ⟨c, u, hu, -, he⟩ := step_cases h
  · exact hs.of_core hidle
  · exact (hs.of_core hu).exec he

end Sys2Proof.Machine
end

section
/-! Bytes: what the fields of a record read back (R179, R180). -/

namespace Sys2Proof.Machine

theorem foldl_beBytes (k a n : Nat) :
    (beBytes k n).foldl (fun m b => m * 256 + b.toNat) a = a * 256 ^ k + n % 256 ^ k := by
  induction k generalizing a with
  | zero => simp [beBytes, Nat.mod_one]
  | succ k ih =>
    rw [beBytes, List.foldl_cons, ih]
    have hsplit : n % 256 ^ (k + 1) = n % 256 ^ k + 256 ^ k * (n / 256 ^ k % 256) := by
      rw [pow_succ, Nat.mod_mul]
    have hbyte : (BitVec.ofNat 8 (n / 256 ^ k)).toNat = n / 256 ^ k % 256 := by simp
    rw [hsplit, hbyte]
    ring

theorem beNat_beBytes (k n : Nat) : beNat (beBytes k n) = n % 256 ^ k := by
  simpa [beNat] using foldl_beBytes k 0 n

@[simp] theorem beBytes_length (k n : Nat) : (beBytes k n).length = k := by
  induction k with
  | zero => rfl
  | succ k ih => simp [beBytes, ih]

theorem byteSum_append (a b : List Byte) : byteSum (a ++ b) = byteSum a + byteSum b := by
  have hfold (l : List Byte) (x : Byte) : l.foldl (· + ·) x = x + l.foldl (· + ·) 0#8 := by
    induction l generalizing x with
    | nil => simp
    | cons y ys ih =>
      rw [List.foldl_cons, List.foldl_cons, ih, ih (0#8 + y), BitVec.zero_add, BitVec.add_assoc]
  rw [byteSum, List.foldl_append, hfold]
  rfl

/-- The check byte brings the sum to 0 (R180). -/
theorem byteSum_withCheck (l : List Byte) : byteSum (withCheck l) = 0#8 := by
  have hone (b : Byte) : byteSum [b] = b := by simp [byteSum]
  rw [withCheck, byteSum_append, hone]
  bv_omega

@[simp] theorem withCheck_length (l : List Byte) : (withCheck l).length = l.length + 1 := by simp [withCheck]

end Sys2Proof.Machine

namespace Sys2Proof.Decode

open Machine

/-! ### Fields -/

/-- What lies before an offset is skipped. -/
theorem field_append (a rest : List Byte) (i k : Nat) : field (a ++ rest) (a.length + i) k = field rest i k := by
  rw [field, List.drop_length_add_append]
  rfl

theorem field_cons (b : Byte) (rest : List Byte) (i k : Nat) : field (b :: rest) (i + 1) k = field rest i k := rfl

theorem field_of_beBytes (k n : Nat) (rest : List Byte) : field (beBytes k n ++ rest) 0 k = n % 256 ^ k := by
  rw [field, List.drop_zero, List.take_left' (beBytes_length k n), beNat_beBytes]

/-- A field of whole bytes reads back the value laid out in it. -/
theorem field_bytesOf {w k : Nat} (h : 256 ^ k = 2 ^ w) (v : BitVec w) (rest : List Byte) :
    BitVec.ofNat w (field (bytesOf k v ++ rest) 0 k) = v := by
  rw [bytesOf, field_of_beBytes, h, Nat.mod_eq_of_lt v.isLt]
  simp

theorem field_byte (b : Byte) (rest : List Byte) : BitVec.ofNat 8 (field (b :: rest) 0 1) = b := by
  simp [field, beNat]

@[simp] theorem bytesOf_length {w : Nat} (k : Nat) (v : BitVec w) : (bytesOf k v).length = k := beBytes_length k _

/-- The last field of a record. -/
theorem field_bytesOf_last {w k : Nat} (h : 256 ^ k = 2 ^ w) (v : BitVec w) :
    BitVec.ofNat w (field (bytesOf k v) 0 k) = v := by
  simpa using field_bytesOf h v []

section Skip

variable {w : Nat} (v : BitVec w) (rest : List Byte) (i k : Nat)

theorem field_skip_one : field (bytesOf 1 v ++ rest) (i + 1) k = field rest i k := by
  simpa [Nat.add_comm] using field_append (bytesOf 1 v) rest i k

theorem field_skip_two : field (bytesOf 2 v ++ rest) (i + 2) k = field rest i k := by
  simpa [Nat.add_comm] using field_append (bytesOf 2 v) rest i k

theorem field_skip_three : field (bytesOf 3 v ++ rest) (i + 3) k = field rest i k := by
  simpa [Nat.add_comm] using field_append (bytesOf 3 v) rest i k

theorem field_skip_four : field (bytesOf 4 v ++ rest) (i + 4) k = field rest i k := by
  simpa [Nat.add_comm] using field_append (bytesOf 4 v) rest i k

end Skip

end Sys2Proof.Decode
end

section
/-! The commands of the station port: what each is answered with before its own rule (R175), and its record (R180). -/

namespace Sys2Proof.Machine

/-! ### Refusals -/

/-- A command's checks fail in their order (R175): its length, STARTING, its role. -/
def RefusedInOrder (code paramLen : Nat) (roles : Bool) (h : CmdHead) (s t : State) : Prop :=
  (h.paramLen.toNat ≠ paramLen → t = putResponse h.tag (BitVec.ofNat 8 code) .badValue [] s) ∧
    (h.paramLen.toNat = paramLen → s.mode = .starting → code ≠ 0x08 →
      t = putResponse h.tag (BitVec.ofNat 8 code) .badMode [] s) ∧
    (h.paramLen.toNat = paramLen → s.mode ≠ .starting → roles = false →
      t = putResponse h.tag (BitVec.ofNat 8 code) .badRole [] s)

theorem portCommand_refusedInOrder {code n : Nat} {always : Bool} {roles : Role → Bool} {enums : Bool} {own : State → Reply}
    {h : CmdHead} {s : State} (hr : s.port.restartPending = false) (halways : always = decide (code = 0x08))
    (hroles : ∀ r, roles r = commandRoles code r) :
    RefusedInOrder code n (commandRoles code s.role) h s (portCommand code n always roles enums own h s) := by
  have hcheck {st : Status} (hc : portCheck n always roles enums h s = some st) :
      portCommand code n always roles enums own h s = putResponse h.tag (BitVec.ofNat 8 code) st [] s := by
    simp [portCommand, hr, hc]
  refine ⟨fun hlen => hcheck ?_, fun hlen hm hcode => hcheck ?_, fun hlen hm hrole => hcheck ?_⟩
  · simp [portCheck, hlen]
  · simp [portCheck, hlen, hm, halways, hcode]
  · simp [portCheck, hlen, hm, hroles, hrole]

/-- Every port command is checked in the order of R175, against the length of its own parameters and its own roles. -/
theorem exec_refusedInOrder {c : Instr} {code : Nat} {h : CmdHead} {ps : List Byte} {s : State}
    (hc : Decode.portParams c = some (code, h, ps)) (hr : s.port.restartPending = false) :
    ∃ t, exec c s = .next t ∧ RefusedInOrder code ps.length (commandRoles code s.role) h s t := by
  cases c
  all_goals cases hc
  all_goals exact ⟨_, rfl, portCommand_refusedInOrder hr rfl fun r => by cases r <;> rfl⟩

end Sys2Proof.Machine
end

section
/-! The step, the resets, the transfers and the records of the port: O1 to O4, O51, O52. -/

namespace Sys2Proof.Machine

/-- Settles O1: the step's own equation. -/
theorem stepTakesFrontCommand : Obligations.StepTakesFrontCommand := by
  intro c rest s h
  rw [step, h]

theorem exec_restart_eq (h : CmdHead) (s : State) :
    exec (.restart h) s =
      .next (portCommand 0x08 0 true anyRole true (fun t => accept { t with port.restartPending := true }) h s) := rfl

theorem exec_selectAsserted_eq (s : State) : exec .selectAsserted s = .next (selectStep s) := rfl

/-- RESTART is answered in every mode, STARTING among them (R173, R175). -/
theorem restart_answered {h : CmdHead} {s : State} (hr : s.port.restartPending = false) (hlen : h.paramLen = 0#8) :
    exec (.restart h) s = .next (putResponse h.tag 0x08#8 .ok [] { s with port.restartPending := true }) := by
  simp [exec_restart_eq, portCommand, portCheck, hr, hlen, accept, anyRole]

/-- Settles O2: each reset is the one the manual describes, by its equation. -/
theorem resetsLeaveValuesAfterReset : Obligations.ResetsLeaveValuesAfterReset := by
  refine ⟨fun _ => rfl, fun h s hr hlen => restart_answered hr hlen, fun s hr => ⟨?_, ?_⟩, fun s hr => ?_⟩
  · rw [exec_responseTransfer_eq, responseStep]
    simp only [hr, if_true, restartReset_eq]
    rfl
  · rw [exec_selectAsserted_eq, selectStep, if_pos hr, restartReset_eq]
  · rw [exec_selectAsserted_eq, selectStep, if_neg (by simp [hr])]

theorem responseStep_of_none {s : State} (hr : s.port.restartPending = false) (hp : s.port.place = none) :
    responseStep s = { s with port.delivered := deliveredBytes none } := by
  simp [responseStep, hr, hp]

theorem responseStep_of_some {s : State} (hr : s.port.restartPending = false) {r : Response} (hp : s.port.place = some r) :
    responseStep s =
      { s with port.delivered := deliveredBytes (some r), port.place := some { r with fetched := true } } := by
  simp [responseStep, hr, hp]

/-- Settles O3: the transfers' own equations. -/
theorem transfersAreAnswered : Obligations.TransfersAreAnswered := by
  refine ⟨fun s hr => ⟨fun hp => ?_, fun r hp => ?_⟩, fun code tag s hr => ?_, fun tag code s hr hn hf => ?_,
    fun _ _ _ _ _ => ?_⟩
  · rw [exec_responseTransfer_eq, responseStep_of_none hr hp]
    rfl
  · rw [exec_responseTransfer_eq, responseStep_of_some hr hp]
    rfl
  · show Host.Outcome.next (frameErrorStep _ _ s) = _
    simp [frameErrorStep, hr, receivedByte]
  · show Host.Outcome.next (unknownStep _ _ s) = _
    have hcode : tag.toNat ≠ 255 := fun h => hf (BitVec.eq_of_toNat_eq h)
    simp [unknownStep, unassigned, fetchCode, hr, hn, hcode]
  · rfl

/-- Settles O4: every port command passes the same three checks, in their order. -/
theorem portCommandsRefusedInOrder : Obligations.PortCommandsRefusedInOrder := by
  intro c code h ps s hc hr
  obtain ⟨t, he, hlength, hmode, hrole⟩ := exec_refusedInOrder hc hr
  rw [he]
  exact ⟨fun hl => by rw [hlength hl], fun hl hm hcode => by rw [hmode hl hm hcode],
    fun hl hm hq => by rw [hrole hl hm hq]⟩

/-- Settles O52, each record evaluated byte by byte. -/
theorem writtenOutRecordsDecode : Obligations.WrittenOutRecordsDecode := by
  refine ⟨?_, ?_, ?_, ?_, ?_⟩ <;> decide

end Sys2Proof.Machine

namespace Sys2Proof.Decode

open Machine

/-! ### Reading a record back -/

/-- The parameters a command is sent with read back as the command (R180). -/
theorem command_of_portParams {c : Instr} {code : Nat} {h : CmdHead} {ps : List Byte}
    (hc : portParams c = some (code, h, ps)) : code < 255 ∧ command code h ps = some c := by
  cases c
  all_goals cases hc
  all_goals
    refine ⟨by decide, ?_⟩
    simp [command, productFields, orderFields, field_byte, field_bytesOf, field_bytesOf_last, field_cons, field_skip_two,
      field_skip_three, field_skip_four]

/-- A sound record of an assigned code spells its command (R174, R175). -/
theorem portTransfer_record {c : Instr} {code : Nat} {h : CmdHead} {ps : List Byte} (hcode : code < 255)
    (hlen : h.paramLen.toNat = ps.length) (hc : command code h ps = some c) :
    portTransfer true (withCheck ([BitVec.ofNat 8 code, h.tag, h.paramLen] ++ ps)) = c := by
  have hbytes : withCheck ([BitVec.ofNat 8 code, h.tag, h.paramLen] ++ ps) =
      BitVec.ofNat 8 code :: h.tag :: h.paramLen ::
        (ps ++ [0#8 - byteSum ([BitVec.ofNat 8 code, h.tag, h.paramLen] ++ ps)]) := rfl
  have hnat : (BitVec.ofNat 8 code).toNat = code := by
    rw [BitVec.toNat_ofNat]
    omega
  have hfetch : BitVec.ofNat 8 code ≠ 0xFF#8 := fun h => by
    rw [h] at hnat
    exact absurd hnat (by simp; omega)
  have hlength : field (withCheck ([BitVec.ofNat 8 code, h.tag, h.paramLen] ++ ps)) 2 1 = ps.length := by
    rw [hbytes, field_cons, field_cons]
    simpa [field, beNat] using hlen
  have hsound : transferSound true (withCheck ([BitVec.ofNat 8 code, h.tag, h.paramLen] ++ ps)) = true := by
    rw [transferSound, byteSum_withCheck, hlength]
    simp
  rw [portTransfer, hsound, hbytes]
  simp [hfetch, hnat, hc]

/-- Settles O51: the record passes the frame check and its parameters read back. -/
theorem portRecordsReadBack : Obligations.PortRecordsReadBack := by
  intro c bytes hrecord hlength
  obtain ⟨⟨code, h, ps⟩, hc, rfl⟩ := Option.map_eq_some_iff.1 hrecord
  obtain ⟨hcode, hcommand⟩ := command_of_portParams hc
  refine portTransfer_record hcode ?_ hcommand
  simpa [lengthRight, hc] using hlength

end Sys2Proof.Decode
end

section
/-! O50: a link frame reads back whole, and passes every check (R150, R153, R179). -/

namespace Sys2Proof.Machine

theorem payloadBytes_length (p : Payload) (h : ∀ x, p = .rowPass x → x.pots.length = 8) :
    (payloadBytes p).length = (payloadKind p).length := by
  have hpots (l : List (BitVec 16)) : (l.flatMap (fun w => beBytes 2 w.toNat)).length = 2 * l.length := by
    simp [List.length_flatMap, Nat.mul_comm]
  cases p with
  | rowPass x => simp [payloadBytes, payloadKind, FrameKind.length, byte, hpots, h x rfl]
  | _ => simp [payloadBytes, payloadKind, FrameKind.length, byte]

/-- The head reads back where each of its fields fits (R150). -/
theorem readHead_headBytes {h : Head} (hcls : h.cls < 4) (hkind : h.kind < 16) (hsource : h.source < 32)
    (htarget : h.target < 32) (hlength : h.length < 64) (rest : List Byte) : readHead (headBytes h ++ rest) = h := by
  have hn : beNat ((headBytes h ++ rest).take 3) =
      h.cls * 4194304 + h.kind * 262144 + h.source * 8192 + h.target * 256 + h.length := by
    rw [List.take_left' (by simp [headBytes]), headBytes, beNat_beBytes]
    omega
  obtain ⟨cls, kind, source, target, length⟩ := h
  simp only at hcls hkind hsource htarget hlength hn
  simp only [readHead, hn, Head.mk.injEq]
  omega

/-- The head LNK fills in (R150). -/
def frameHead (source : Nat) (f : Frame) : Head :=
  { cls := (payloadKind f.payload).cls, kind := (payloadKind f.payload).code, source, target := f.target
    length := (payloadKind f.payload).length }

theorem frameBytes_eq (source : Nat) (f : Frame) :
    frameBytes source f =
      (headBytes (frameHead source f) ++ payloadBytes f.payload) ++
        beBytes 2 (crc16 (headBytes (frameHead source f) ++ payloadBytes f.payload)).toNat := rfl

section Frame

variable {source : Nat} {f : Frame} (hsource : source < 32) (htarget : f.target < 32)
  (hpots : ∀ x, f.payload = .rowPass x → x.pots.length = 8)
include hsource htarget

theorem readHead_frameBytes : readHead (frameBytes source f) = frameHead source f := by
  rw [frameBytes_eq, List.append_assoc]
  refine readHead_headBytes ?_ ?_ hsource htarget ?_ _
  · show (payloadKind f.payload).cls < 4
    cases payloadKind f.payload <;> decide
  · show (payloadKind f.payload).code < 16
    cases payloadKind f.payload <;> decide
  · show (payloadKind f.payload).length < 64
    cases payloadKind f.payload <;> decide

include hpots

/-- A frame as laid out is sound: its CRC, its length and its end (R153). -/
theorem frameSound_frameBytes : frameSound true (frameBytes source f) = true := by
  have hbody : (headBytes (frameHead source f) ++ payloadBytes f.payload).length = (frameHead source f).length + 3 := by
    simp [frameHead, headBytes, payloadBytes_length _ hpots, Nat.add_comm]
  have hcrc (c : BitVec 16) : beNat (beBytes 2 c.toNat) = c.toNat := by
    rw [beNat_beBytes]
    exact Nat.mod_eq_of_lt c.isLt
  have hlen : (frameHead source f).length ≤ 40 := by
    show (payloadKind f.payload).length ≤ 40
    cases payloadKind f.payload <;> decide
  unfold frameSound
  dsimp only
  rw [readHead_frameBytes hsource htarget, frameBytes_eq, List.take_left' hbody, List.drop_left' hbody, hcrc, List.length_append, hbody]
  simp [hlen]

end Frame

/-- A station of the line is a source or a target that its 5 bits carry. -/
theorem toNat_station {n : Nat} (h : n < 32) : (BitVec.ofNat 5 n).toNat = n := by
  rw [BitVec.toNat_ofNat]
  exact Nat.mod_eq_of_lt h

theorem frameVerdict_frameBytes {src own : Nat} {f : Frame} (hs : 1 ≤ src ∧ src ≤ 30) (ho : 1 ≤ own ∧ own ≤ 30)
    (hpots : ∀ x, f.payload = .rowPass x → x.pots.length = 8)
    (ht : f.target = if (payloadKind f.payload).broadcast then 0 else own) :
    frameVerdict own true (frameBytes src f) = .good (payloadKind f.payload) := by
  have htarget : f.target ≤ 30 := by
    rw [ht]
    split <;> omega
  have hsrc : (BitVec.ofNat 5 src).toNat = src := toNat_station (by omega)
  have htgt : (BitVec.ofNat 5 f.target).toNat = f.target := toNat_station (by omega)
  have hhead : frameHead src f = kindHead (payloadKind f.payload) (BitVec.ofNat 5 src) (BitVec.ofNat 5 f.target) := by
    simp [frameHead, kindHead, hsrc, htgt]
  rw [frameVerdict, frameSound_frameBytes (by omega) (by omega) hpots, if_pos rfl,
    readHead_frameBytes (by omega) (by omega), hhead]
  refine headVerdict_kindHead (hsrc.symm ▸ hs) (htgt.symm ▸ htarget) ?_ ?_
  · rw [htgt, ht]
    split <;> simp_all
    omega
  · rw [htgt, ht]
    split <;> simp

end Sys2Proof.Machine

namespace Sys2Proof.Decode

open Machine

/-- A pot entry of a ROW-PASS reads back (R179). -/
theorem field_pots (pots : List (BitVec 16)) (i : Nat) (h : i < pots.length) :
    BitVec.ofNat 16 (field (pots.flatMap (fun w => bytesOf 2 w)) (2 * i) 2) = pots[i] := by
  induction pots generalizing i with
  | nil => cases h
  | cons w ws ih =>
    rw [List.flatMap_cons]
    cases i with
    | zero => exact field_bytesOf (by decide) w _
    | succ i =>
      rw [Nat.mul_succ, field_skip_two]
      exact ih i (Nat.lt_of_succ_lt_succ h)

theorem beBytes_toNat {w : Nat} (k : Nat) (v : BitVec w) : beBytes k v.toNat = bytesOf k v := rfl

theorem byte_toNat (b : BitVec 8) : byte b.toNat = bytesOf 1 b := rfl

/-- A payload reads back from its bytes (R179). -/
theorem payload_payloadBytes (p : Payload) (h : ∀ x, p = .rowPass x → x.pots.length = 8) :
    payload (payloadKind p) (payloadBytes p) = p := by
  have hread (x : RowPassFields) (hx : x.pots.length = 8) :
      (List.range 8).map (fun i => BitVec.ofNat 16 (field (x.pots.flatMap (fun w => bytesOf 2 w)) (2 * i) 2)) = x.pots := by
    refine List.ext_getElem (by simp [hx]) fun i hi hi' => ?_
    rw [List.getElem_map, List.getElem_range, field_pots x.pots i hi']
  have hskip (x : RowPassFields) (i : Nat) :
      field (bytesOf 2 x.seq ++ (bytesOf 3 x.lot ++ (bytesOf 3 x.exposure ++ (bytesOf 1 x.flags ++
        x.pots.flatMap (fun w => bytesOf 2 w))))) (9 + 2 * i) 2 = field (x.pots.flatMap (fun w => bytesOf 2 w)) (2 * i) 2 := by
    rw [show 9 + 2 * i = 2 * i + 1 + 3 + 3 + 2 by omega, field_skip_two, field_skip_three, field_skip_three, field_skip_one]
  cases p with
  | rowPass x =>
    simp [payload, payloadKind, payloadBytes, beBytes_toNat, byte_toNat, field_bytesOf, field_skip_two, field_skip_three,
      hskip, hread x (h x rfl)]
  | _ =>
    simp [payload, payloadKind, payloadBytes, beBytes_toNat, byte_toNat, field_bytesOf, field_bytesOf_last, field_skip_one,
      field_skip_two, field_skip_three, field_skip_four]

/-- A sound frame of a kind's own class and length spells the reception of its payload (R153). -/
theorem linkFrame_of_sound {bytes : List Byte} {k : FrameKind} (hk : FrameKind.ofCode (readHead bytes).kind = some k)
    (hsound : frameSound true bytes = true) (hcls : (readHead bytes).cls = k.cls)
    (hlength : (readHead bytes).length = k.length) :
    linkFrame true bytes =
      reception (.ofNat 5 (readHead bytes).source) (.ofNat 5 (readHead bytes).target)
        (payload k ((bytes.drop 3).take k.length)) := by
  simp [linkFrame, hk, hsound, hcls, hlength]

/-- Settles O50: the head, the CRC and the payload of a frame read back. -/
theorem linkFramesReadBack : Obligations.LinkFramesReadBack := by
  refine ⟨fun src f htarget hpots => ?_, fun src own f hs hs' ho ho' hpots ht =>
    frameVerdict_frameBytes ⟨hs, hs'⟩ ⟨ho, ho'⟩ hpots ht⟩
  have hhead := readHead_frameBytes src.isLt htarget
  have hpayload : ((frameBytes src.toNat f).drop 3).take (payloadKind f.payload).length = payloadBytes f.payload := by
    rw [frameBytes_eq, List.append_assoc, List.drop_left' (by simp [headBytes]),
      List.take_left' (payloadBytes_length _ hpots)]
  rw [linkFrame_of_sound (k := payloadKind f.payload) (by rw [hhead]; exact ofCode_code _)
    (frameSound_frameBytes src.isLt htarget hpots) (by rw [hhead]; rfl) (by rw [hhead]; rfl), hhead, hpayload,
    payload_payloadBytes _ hpots]
  exact congrArg (fun x => reception x _ _) (show BitVec.ofNat 5 src.toNat = src by simp)

end Sys2Proof.Decode
end

section
/-! O12: every reading command answers its record, or its refusal. -/

namespace Sys2Proof.Machine

/-! ### How a port command is answered -/

section Answers

variable {c : Instr} {code n : Nat} {roles : Role → Bool} {enums : Bool} {own : State → Reply} {h : CmdHead} {s : State}
  (hexec : exec c s = .next (portCommand code n false roles enums own h s))
include hexec

/-- A command that passes its checks is answered as its own rule says (R175). -/
theorem exec_answers (hp : PortReady h n s) (hq : roles s.role = true) (he : enums = true) {st : Status} {data : List Byte}
    {t : State} (hown : own s = { status := st, data, state := t }) :
    exec c s = .next (putResponse h.tag (BitVec.ofNat 8 code) st data t) := by
  rw [hexec, portCommand_own hp hq he, hown]

/-- An enumerated parameter of no assigned code is BAD-VALUE ahead of the command's own rule (R175). -/
theorem exec_unassigned (hp : PortReady h n s) (hq : roles s.role = true) (he : enums = false) :
    exec c s = .next (putResponse h.tag (BitVec.ofNat 8 code) .badValue [] s) := by
  have hcheck : portCheck n false roles enums h s = some .badValue := by
    simp [portCheck, hp.length, hp.decoding, hq, he]
  rw [hexec]
  simp [portCommand, hp.noRestart, hcheck]

theorem exec_other_role (hp : PortReady h n s) (hq : roles s.role = false) :
    exec c s = .next (putResponse h.tag (BitVec.ofNat 8 code) .badRole [] s) := by
  rw [hexec, portCommand_of_other_role hp hq]

theorem exec_starting (hr : s.port.restartPending = false) (hlen : h.paramLen.toNat = n) (hm : s.mode = .starting) :
    exec c s = .next (putResponse h.tag (BitVec.ofNat 8 code) .badMode [] s) := by
  rw [hexec, portCommand_of_starting hr hlen hm]

end Answers

theorem onlyRole_of_eq {q r : Role} (h : r = q) : onlyRole q r = true := (onlyRole_eq_true_iff q r).2 h

theorem onlyRole_of_ne {q r : Role} (h : r ≠ q) : onlyRole q r = false := (onlyRole_eq_false_iff q r).2 h

theorem trayRoles_iff (r : Role) : trayRoles r = true ↔ r = .trayer ∨ r = .chill ∨ r = .dispatch := by
  simp [trayRoles, or_assoc]

theorem arrivalRoles_iff (r : Role) :
    arrivalRoles r = true ↔ r = .lidder ∨ r = .trayer ∨ r = .chill ∨ r = .dispatch := by
  cases r <;> simp [arrivalRoles, Role.hasIncoming]

theorem holdsLots_iff (r : Role) : r.holdsLots = true ↔ r ≠ .chamber := by
  cases r <;> simp [Role.holdsLots]

/-! ### The own rule of each reading command -/

section Own

variable {p : BitVec 8} {s : State}

theorem readRowOwn_of_ge (h : s.windowLength ≤ p.toNat) : readRowOwn p s = refuse .badValue s := by
  simp [readRowOwn, h]

theorem readRowOwn_of_none (hp : p.toNat < s.windowLength) (h : s.rowAt p.toNat = none) :
    readRowOwn p s = refuse .empty s := by
  simp [readRowOwn, Nat.not_le.2 hp, h]

theorem readRowOwn_of_some (hp : p.toNat < s.windowLength) {r : Row} (h : s.rowAt p.toNat = some r) :
    readRowOwn p s = report (rowRecord s p.toNat r) s := by
  simp [readRowOwn, Nat.not_le.2 hp, h]

theorem readArrivalOwn_of_gt (h : 7 < p.toNat) : readArrivalOwn p s = refuse .badValue s := by
  simp [readArrivalOwn, h]

theorem readArrivalOwn_of_row (hp : p.toNat ≤ 7) (hr : s.role.isRow = true) :
    readArrivalOwn p s =
      (s.hnd.rowArrivals[p.toNat]?).elim (refuse .empty s) (fun e => report (rowArrivalRecord s e) s) := by
  cases hx : s.hnd.rowArrivals[p.toNat]? <;> simp [readArrivalOwn, Nat.not_lt.2 hp, hr, hx]

theorem readArrivalOwn_of_tray (hp : p.toNat ≤ 7) (hr : s.role.isRow = false) :
    readArrivalOwn p s =
      (s.hnd.trayArrivals[p.toNat]?).elim (refuse .empty s) (fun e => report (trayArrivalRecord s e) s) := by
  cases hx : s.hnd.trayArrivals[p.toNat]? <;> simp [readArrivalOwn, Nat.not_lt.2 hp, hr, hx]

theorem readLotOwn_of_gt (h : 15 < p.toNat) : readLotOwn p s = refuse .badValue s := by
  simp [readLotOwn, h]

theorem readLotOwn_of_none (hp : p.toNat ≤ 15) (h : slotAt s.lot.table p.toNat = none) :
    readLotOwn p s = refuse .empty s := by
  simp [readLotOwn, Nat.not_lt.2 hp, h]

theorem readLotOwn_of_some (hp : p.toNat ≤ 15) {r : LotRec} (h : slotAt s.lot.table p.toNat = some r) :
    readLotOwn p s = report (lotRecord r (decide (s.lot.openIdx = some p.toNat))) s := by
  simp [readLotOwn, Nat.not_lt.2 hp, h]

theorem readZoneOwn_of_gt (h : 15 < p.toNat) (hp : p ≠ 0xFF#8) : readZoneOwn p s = refuse .badValue s := by
  simp [readZoneOwn, zoneIndexGiven, hp, h]

theorem readZoneOwn_of_le (h : p.toNat ≤ 15) :
    readZoneOwn p s = report (zoneRecord s (slotAt s.lot.table p.toNat)) s := by
  have hp : p ≠ 0xFF#8 := by
    rintro rfl
    exact absurd h (by decide)
  simp [readZoneOwn, zoneIndexGiven, hp, Nat.not_lt.2 h]

theorem readZoneOwn_of_not_given (h : p = 0xFF#8) : readZoneOwn p s = report (zoneRecord s none) s := by
  simp [readZoneOwn, zoneIndexGiven, h]

theorem readTrayAtTrayer_of_gt (h : 16 < p.toNat) : readTrayAtTrayer p.toNat s = refuse .badValue s := by
  simp [readTrayAtTrayer, formedCapacity, h]

theorem readTrayAtTrayer_of_zero (h : p.toNat = 0) :
    readTrayAtTrayer p.toNat s =
      (s.tray.forming).elim (refuse .empty s) (fun f => report (trayRecord 0 f.tray (closeRemaining s.nowMs f.deadline) 0#32 0#32) s) := by
  cases hx : s.tray.forming <;> simp [readTrayAtTrayer, h, hx]

theorem readTrayAtTrayer_of_formed (h : 1 ≤ p.toNat) (h' : p.toNat ≤ 16) :
    readTrayAtTrayer p.toNat s =
      (s.tray.formed[p.toNat - 1]?).elim (refuse .empty s) (fun t => report (trayRecord p.toNat t 0 0#32 0#32) s) := by
  cases hx : s.tray.formed[p.toNat - 1]? <;> simp [readTrayAtTrayer, formedCapacity, Nat.not_lt.2 h', Nat.one_le_iff_ne_zero.1 h, hx]

theorem readTrayAtChill_of_out (h : p.toNat = 0 ∨ 48 < p.toNat) : readTrayAtChill p.toNat s = refuse .badValue s := by
  have hout : (decide (p.toNat = 0) || decide (queueCapacity < p.toNat)) = true := by
    rw [Bool.or_eq_true, decide_eq_true_iff, decide_eq_true_iff]
    exact h
  exact if_pos hout

theorem readTrayAtChill_of_place (h : 1 ≤ p.toNat) (h' : p.toNat ≤ 48) :
    readTrayAtChill p.toNat s =
      (s.tray.queue[p.toNat - 1]?).elim (refuse .empty s) (fun t => report (trayRecord p.toNat t 0 0#32 0#32) s) := by
  cases hx : s.tray.queue[p.toNat - 1]? <;> simp [readTrayAtChill, queueCapacity, Nat.not_lt.2 h', Nat.one_le_iff_ne_zero.1 h, hx]

theorem readTrayAtDispatch_of_out (h : p.toNat = 0 ∨ 12 < p.toNat) :
    readTrayAtDispatch p.toNat s = refuse .badValue s := by
  have hout : (decide (p.toNat = 0) || decide (12 < p.toNat)) = true := by
    rw [Bool.or_eq_true, decide_eq_true_iff, decide_eq_true_iff]
    exact h
  exact if_pos hout

theorem readTrayAtDispatch_of_place (h : 1 ≤ p.toNat) (h' : p.toNat ≤ 12) :
    readTrayAtDispatch p.toNat s =
      (s.cellAt (p.toNat - 1)).elim (refuse .empty s) (fun c => report (trayRecord p.toNat c.tray 0 c.arrivalTime c.arrivalOrder) s) := by
  cases hx : s.cellAt (p.toNat - 1) <;> simp [readTrayAtDispatch, Nat.not_lt.2 h', Nat.one_le_iff_ne_zero.1 h, hx]

theorem readTrayOwn_trayer (hr : s.role = .trayer) : readTrayOwn p s = readTrayAtTrayer p.toNat s := by
  rw [readTrayOwn, hr]

theorem readTrayOwn_chill (hr : s.role = .chill) : readTrayOwn p s = readTrayAtChill p.toNat s := by
  rw [readTrayOwn, hr]

theorem readTrayOwn_dispatch (hr : s.role = .dispatch) : readTrayOwn p s = readTrayAtDispatch p.toNat s := by
  rw [readTrayOwn, hr]

theorem readLaneOwn_of_some (hp : 1 ≤ p.toNat) {l : Lane} (h : s.adm.lanes[p.toNat - 1]? = some l) :
    readLaneOwn p s = report (laneRecord p.toNat l) s := by
  have hlane : s.lane p.toNat = some l := by simpa [State.lane, Nat.one_le_iff_ne_zero.1 hp] using h
  simp [readLaneOwn, hlane]

theorem readLaneOwn_of_out (hlen : s.adm.lanes.length = 8) (h : p.toNat = 0 ∨ 8 < p.toNat) :
    readLaneOwn p s = refuse .badValue s := by
  have hlane : s.lane p.toNat = none := (lane_eq_none_iff hlen _).2 (by omega)
  simp [readLaneOwn, hlane]

theorem readAdmissionOwn_of_gt (h : 15 < p.toNat) : readAdmissionOwn p s = refuse .badValue s := by
  simp [readAdmissionOwn, h]

theorem readAdmissionOwn_of_none (hp : p.toNat ≤ 15) (h : s.admission p.toNat = none) :
    readAdmissionOwn p s = refuse .empty s := by
  simp [readAdmissionOwn, Nat.not_lt.2 hp, h]

theorem readAdmissionOwn_of_some (hp : p.toNat ≤ 15) {e : Admission} (h : s.admission p.toNat = some e) :
    readAdmissionOwn p s = report (admissionRecord p.toNat e (manifestOf s e.tray)) s := by
  simp [readAdmissionOwn, Nat.not_lt.2 hp, h]

theorem readOrderOwn_of_gt {bank : BitVec 8} (h : 31 < p.toNat) : readOrderOwn bank p s = refuse .badValue s := by
  simp [readOrderOwn, h]

theorem readOrderOwn_of_none {bank : BitVec 8} (hp : p.toNat ≤ 31) (h : slotAt (chosenBank bank s) p.toNat = none) :
    readOrderOwn bank p s = refuse .empty s := by
  simp [readOrderOwn, Nat.not_lt.2 hp, h]

theorem readOrderOwn_of_some {bank : BitVec 8} (hp : p.toNat ≤ 31) {e : OrderEntry}
    (h : slotAt (chosenBank bank s) p.toNat = some e) :
    readOrderOwn bank p s = report (orderRecord (physicalBank bank s) e) s := by
  simp [readOrderOwn, Nat.not_lt.2 hp, h]

theorem readSettingOwn_of_out {number : BitVec 16} (h : number.toNat < 1 ∨ 54 < number.toNat) :
    readSettingOwn number s = refuse .badValue s := by
  have hout : (decide (number.toNat < 1) || decide (settingCount < number.toNat)) = true := by
    rw [Bool.or_eq_true, decide_eq_true_iff, decide_eq_true_iff]
    exact h
  exact if_pos hout

theorem readSettingOwn_of_setting {number : BitVec 16} (h : 1 ≤ number.toNat) (h' : number.toNat ≤ 54) :
    readSettingOwn number s = report (settingRecord (s.setting number.toNat)) s := by
  have hin : ¬(decide (number.toNat < 1) || decide (settingCount < number.toNat)) = true := by
    rw [Bool.or_eq_true, decide_eq_true_iff, decide_eq_true_iff, settingCount]
    omega
  exact if_neg hin

end Own

theorem bankAssigned_of_gt {bank : BitVec 8} (h : 1 < bank.toNat) : bankAssigned bank = false := by
  have h0 : bank ≠ 0#8 := by
    rintro rfl
    exact absurd h (by decide)
  have h1 : bank ≠ 1#8 := by
    rintro rfl
    exact absurd h (by decide)
  simp [bankAssigned, h0, h1]

/-! ### The refusals -/

section Refusals

variable {h : CmdHead} {p : BitVec 8} {s : State} (hp : PortReady h 1 s)
include hp

theorem readRow_refused (hr : s.role.isRow = true) :
    (s.windowLength ≤ p.toNat → exec (.readRow h p) s = .next (putResponse h.tag 0x11#8 .badValue [] s)) ∧
      (p.toNat < s.windowLength → s.rowAt p.toNat = none →
        exec (.readRow h p) s = .next (putResponse h.tag 0x11#8 .empty [] s)) :=
  ⟨fun hge => exec_answers rfl hp hr rfl (readRowOwn_of_ge hge),
    fun hlt hnone => exec_answers rfl hp hr rfl (readRowOwn_of_none hlt hnone)⟩

theorem readArrival_refused (hr : s.role = .lidder ∨ s.role = .trayer ∨ s.role = .chill ∨ s.role = .dispatch) :
    (7 < p.toNat → exec (.readArrival h p) s = .next (putResponse h.tag 0x12#8 .badValue [] s)) ∧
      (p.toNat ≤ 7 →
        (s.role.isRow = true → s.hnd.rowArrivals.length ≤ p.toNat →
          exec (.readArrival h p) s = .next (putResponse h.tag 0x12#8 .empty [] s)) ∧
          (s.role.isRow = false → s.hnd.trayArrivals.length ≤ p.toNat →
            exec (.readArrival h p) s = .next (putResponse h.tag 0x12#8 .empty [] s))) := by
  have hq := (arrivalRoles_iff s.role).2 hr
  refine ⟨fun hgt => exec_answers rfl hp hq rfl (readArrivalOwn_of_gt hgt),
    fun hle => ⟨fun hrow hlen => exec_answers rfl hp hq rfl ?_, fun hrow hlen => exec_answers rfl hp hq rfl ?_⟩⟩
  · rw [readArrivalOwn_of_row hle hrow, List.getElem?_eq_none hlen]
    rfl
  · rw [readArrivalOwn_of_tray hle hrow, List.getElem?_eq_none hlen]
    rfl

theorem readLot_refused (hr : s.role ≠ .chamber) :
    (15 < p.toNat → exec (.readLot h p) s = .next (putResponse h.tag 0x1C#8 .badValue [] s)) ∧
      (p.toNat ≤ 15 → slotAt s.lot.table p.toNat = none →
        exec (.readLot h p) s = .next (putResponse h.tag 0x1C#8 .empty [] s)) ∧
      (15 < p.toNat → p ≠ 0xFF#8 → exec (.readZone h p) s = .next (putResponse h.tag 0x29#8 .badValue [] s)) := by
  have hq := (holdsLots_iff s.role).2 hr
  exact ⟨fun hgt => exec_answers rfl hp hq rfl (readLotOwn_of_gt hgt),
    fun hle hnone => exec_answers rfl hp hq rfl (readLotOwn_of_none hle hnone),
    fun hgt hne => exec_answers rfl hp hq rfl (readZoneOwn_of_gt hgt hne)⟩

theorem readTray_refused_trayer (hr : s.role = .trayer) :
    (16 < p.toNat → exec (.readTray h p) s = .next (putResponse h.tag 0x28#8 .badValue [] s)) ∧
      (p.toNat = 0 → s.tray.forming = none → exec (.readTray h p) s = .next (putResponse h.tag 0x28#8 .empty [] s)) ∧
      (1 ≤ p.toNat → p.toNat ≤ 16 → s.tray.formed.length < p.toNat →
        exec (.readTray h p) s = .next (putResponse h.tag 0x28#8 .empty [] s)) := by
  have hq := (trayRoles_iff s.role).2 (.inl hr)
  refine ⟨fun hgt => exec_answers rfl hp hq rfl ?_, fun hzero hnone => exec_answers rfl hp hq rfl ?_,
    fun h1 h16 hlen => exec_answers rfl hp hq rfl ?_⟩
  · exact (readTrayOwn_trayer hr).trans (readTrayAtTrayer_of_gt hgt)
  · rw [readTrayOwn_trayer hr, readTrayAtTrayer_of_zero hzero, hnone]
    rfl
  · rw [readTrayOwn_trayer hr, readTrayAtTrayer_of_formed h1 h16, List.getElem?_eq_none (by omega)]
    rfl

theorem readTray_refused_chill (hr : s.role = .chill) :
    (p.toNat = 0 ∨ 48 < p.toNat → exec (.readTray h p) s = .next (putResponse h.tag 0x28#8 .badValue [] s)) ∧
      (1 ≤ p.toNat → p.toNat ≤ 48 → s.tray.queue.length < p.toNat →
        exec (.readTray h p) s = .next (putResponse h.tag 0x28#8 .empty [] s)) := by
  have hq := (trayRoles_iff s.role).2 (.inr (.inl hr))
  refine ⟨fun hout => exec_answers rfl hp hq rfl ?_, fun h1 h48 hlen => exec_answers rfl hp hq rfl ?_⟩
  · exact (readTrayOwn_chill hr).trans (readTrayAtChill_of_out hout)
  · rw [readTrayOwn_chill hr, readTrayAtChill_of_place h1 h48, List.getElem?_eq_none (by omega)]
    rfl

theorem readTray_refused_dispatch (hr : s.role = .dispatch) :
    (p.toNat = 0 ∨ 12 < p.toNat → exec (.readTray h p) s = .next (putResponse h.tag 0x28#8 .badValue [] s)) ∧
      (1 ≤ p.toNat → p.toNat ≤ 12 → s.cellAt (p.toNat - 1) = none →
        exec (.readTray h p) s = .next (putResponse h.tag 0x28#8 .empty [] s)) := by
  have hq := (trayRoles_iff s.role).2 (.inr (.inr hr))
  refine ⟨fun hout => exec_answers rfl hp hq rfl ?_, fun h1 h12 hnone => exec_answers rfl hp hq rfl ?_⟩
  · exact (readTrayOwn_dispatch hr).trans (readTrayAtDispatch_of_out hout)
  · rw [readTrayOwn_dispatch hr, readTrayAtDispatch_of_place h1 h12, hnone]
    rfl

theorem readChamber_refused (hr : s.role = .chamber) :
    (s.adm.lanes.length = 8 → p.toNat = 0 ∨ 8 < p.toNat →
      exec (.readLane h p) s = .next (putResponse h.tag 0x39#8 .badValue [] s)) ∧
      (15 < p.toNat → exec (.readAdmission h p) s = .next (putResponse h.tag 0x3A#8 .badValue [] s)) ∧
      (p.toNat ≤ 15 → s.admission p.toNat = none →
        exec (.readAdmission h p) s = .next (putResponse h.tag 0x3A#8 .empty [] s)) :=
  ⟨fun hlen hout => exec_answers rfl hp (onlyRole_of_eq hr) rfl (readLaneOwn_of_out hlen hout),
    fun hgt => exec_answers rfl hp (onlyRole_of_eq hr) rfl (readAdmissionOwn_of_gt hgt),
    fun hle hnone => exec_answers rfl hp (onlyRole_of_eq hr) rfl (readAdmissionOwn_of_none hle hnone)⟩

end Refusals

theorem readOrder_refused {h : CmdHead} {bank i : BitVec 8} {s : State} (hp : PortReady h 2 s) (hr : s.role = .dispatch) :
    (1 < bank.toNat ∨ 31 < i.toNat → exec (.readOrder h bank i) s = .next (putResponse h.tag 0x31#8 .badValue [] s)) ∧
      (i.toNat ≤ 31 →
        bank = 0#8 ∧ slotAt (standbyBank s) i.toNat = none ∨ bank = 1#8 ∧ slotAt (activeBank s) i.toNat = none →
        exec (.readOrder h bank i) s = .next (putResponse h.tag 0x31#8 .empty [] s)) := by
  refine ⟨fun hout => ?_, fun hle hnone => ?_⟩
  · by_cases hbank : 1 < bank.toNat
    · exact exec_unassigned rfl hp (onlyRole_of_eq hr) (bankAssigned_of_gt hbank)
    · cases hassigned : bankAssigned bank with
      | false => exact exec_unassigned rfl hp (onlyRole_of_eq hr) hassigned
      | true => exact exec_answers rfl hp (onlyRole_of_eq hr) hassigned (readOrderOwn_of_gt (hout.resolve_left hbank))
  · obtain ⟨rfl, hnone⟩ | ⟨rfl, hnone⟩ := hnone
    · exact exec_answers rfl hp (onlyRole_of_eq hr) rfl (readOrderOwn_of_none (bank := 0#8) hle hnone)
    · exact exec_answers rfl hp (onlyRole_of_eq hr) rfl (readOrderOwn_of_none (bank := 1#8) hle hnone)

/-! ### The records -/

theorem readTray_formed {h : CmdHead} {p : BitVec 8} {t : Tray} {s : State} (hp : PortReady h 1 s) (hr : s.role = .trayer)
    (h1 : 1 ≤ p.toNat) (h16 : p.toNat ≤ 16) (ht : s.tray.formed[p.toNat - 1]? = some t) :
    exec (.readTray h p) s = .next (putResponse h.tag 0x28#8 .ok (trayRecord p.toNat t 0 0#32 0#32) s) := by
  refine exec_answers rfl hp ((trayRoles_iff s.role).2 (.inl hr)) rfl ?_
  rw [readTrayOwn_trayer hr, readTrayAtTrayer_of_formed h1 h16, ht]
  rfl

theorem readTray_forming {h : CmdHead} {p : BitVec 8} {f : Forming} {s : State} (hp : PortReady h 1 s)
    (hr : s.role = .trayer) (h0 : p.toNat = 0) (hf : s.tray.forming = some f) :
    exec (.readTray h p) s =
      .next (putResponse h.tag 0x28#8 .ok (trayRecord 0 f.tray (closeRemaining s.nowMs f.deadline) 0#32 0#32) s) := by
  refine exec_answers rfl hp ((trayRoles_iff s.role).2 (.inl hr)) rfl ?_
  rw [readTrayOwn_trayer hr, readTrayAtTrayer_of_zero h0, hf]
  rfl

theorem readTray_queue {h : CmdHead} {p : BitVec 8} {t : Tray} {s : State} (hp : PortReady h 1 s) (hr : s.role = .chill)
    (h1 : 1 ≤ p.toNat) (h48 : p.toNat ≤ 48) (ht : s.tray.queue[p.toNat - 1]? = some t) :
    exec (.readTray h p) s = .next (putResponse h.tag 0x28#8 .ok (trayRecord p.toNat t 0 0#32 0#32) s) := by
  refine exec_answers rfl hp ((trayRoles_iff s.role).2 (.inr (.inl hr))) rfl ?_
  rw [readTrayOwn_chill hr, readTrayAtChill_of_place h1 h48, ht]
  rfl

theorem readTray_cell {h : CmdHead} {p : BitVec 8} {c : Cell} {s : State} (hp : PortReady h 1 s) (hr : s.role = .dispatch)
    (h1 : 1 ≤ p.toNat) (h12 : p.toNat ≤ 12) (hc : s.cellAt (p.toNat - 1) = some c) :
    exec (.readTray h p) s =
      .next (putResponse h.tag 0x28#8 .ok (trayRecord p.toNat c.tray 0 c.arrivalTime c.arrivalOrder) s) := by
  refine exec_answers rfl hp ((trayRoles_iff s.role).2 (.inr (.inr hr))) rfl ?_
  rw [readTrayOwn_dispatch hr, readTrayAtDispatch_of_place h1 h12, hc]
  rfl

theorem readArrival_row {h : CmdHead} {k : BitVec 8} {e : RowEntry} {s : State} (hp : PortReady h 1 s)
    (hr : s.role = .lidder ∨ s.role = .trayer) (hk : k.toNat ≤ 7) (he : s.hnd.rowArrivals[k.toNat]? = some e) :
    exec (.readArrival h k) s = .next (putResponse h.tag 0x12#8 .ok (rowArrivalRecord s e) s) := by
  have hrow : s.role.isRow = true := by obtain hr | hr := hr <;> rw [hr] <;> rfl
  refine exec_answers rfl hp ((arrivalRoles_iff s.role).2 (by tauto)) rfl ?_
  rw [readArrivalOwn_of_row hk hrow, he]
  rfl

theorem readArrival_tray {h : CmdHead} {k : BitVec 8} {e : TrayEntry} {s : State} (hp : PortReady h 1 s)
    (hr : s.role = .chill ∨ s.role = .dispatch) (hk : k.toNat ≤ 7) (he : s.hnd.trayArrivals[k.toNat]? = some e) :
    exec (.readArrival h k) s = .next (putResponse h.tag 0x12#8 .ok (trayArrivalRecord s e) s) := by
  have hrow : s.role.isRow = false := by obtain hr | hr := hr <;> rw [hr] <;> rfl
  refine exec_answers rfl hp ((arrivalRoles_iff s.role).2 (by tauto)) rfl ?_
  rw [readArrivalOwn_of_tray hk hrow, he]
  rfl

theorem readStatus_answers {h : CmdHead} {s : State} (hp : PortReady h 0 s) :
    exec (.readStatus h) s = .next (putResponse h.tag 0x0B#8 .ok (statusRecord s) s) :=
  exec_answers (own := fun t => report (statusRecord t) t) rfl hp rfl rfl rfl

theorem readPeers_answers {h : CmdHead} {s : State} (hp : PortReady h 0 s) :
    exec (.readPeers h) s = .next (putResponse h.tag 0x0D#8 .ok (peersRecord s) s) :=
  exec_answers (own := fun t => report (peersRecord t) t) rfl hp rfl rfl rfl

theorem readReels_answers {h : CmdHead} {s : State} (hp : PortReady h 0 s) (hr : s.role = .lidder) :
    exec (.readReels h) s = .next (putResponse h.tag 0x22#8 .ok (reelsRecord s) s) :=
  exec_answers (own := fun t => report (reelsRecord t) t) rfl hp (onlyRole_of_eq hr) rfl rfl

/-- Settles O12: the own rule of each reading command, case by case, behind the checks every command passes. -/
theorem readsAnswerTheirRecords : Obligations.ReadsAnswerTheirRecords := by
  refine ⟨fun h p s hp => ⟨readRow_refused hp, readArrival_refused hp, readLot_refused hp, readTray_refused_trayer hp,
      readTray_refused_chill hp, readTray_refused_dispatch hp, readChamber_refused hp⟩,
    fun h p t s hp hr h1 h16 ht => readTray_formed hp hr h1 h16 ht,
    fun h number s hp hout => exec_answers rfl hp rfl rfl (readSettingOwn_of_out hout),
    fun h bank i s hp hr => readOrder_refused hp hr,
    ⟨fun h number s hp h1 h54 => exec_answers rfl hp rfl rfl (readSettingOwn_of_setting h1 h54),
      fun h s hp => ⟨readStatus_answers hp, readPeers_answers hp, readReels_answers hp⟩,
      fun h p r s hp hr hlt hrow => exec_answers rfl hp hr rfl (readRowOwn_of_some hlt hrow),
      fun h k e s hp hr hk he => readArrival_row hp hr hk he,
      fun h k e s hp hr hk he => readArrival_tray hp hr hk he,
      fun h i r s hp hr hi hrec => exec_answers rfl hp ((holdsLots_iff _).2 hr) rfl (readLotOwn_of_some hi hrec)⟩,
    fun h p f s hp hr h0 hf => readTray_forming hp hr h0 hf,
    fun h p t s hp hr h1 h48 ht => readTray_queue hp hr h1 h48 ht,
    fun h p c s hp hr h1 h12 hc => readTray_cell hp hr h1 h12 hc,
    fun h i s hp hr => ⟨fun hi => exec_answers rfl hp ((holdsLots_iff _).2 hr) rfl (readZoneOwn_of_le hi),
      fun hi => exec_answers rfl hp ((holdsLots_iff _).2 hr) rfl (readZoneOwn_of_not_given hi)⟩,
    fun h bank i e s hp hr hi => ⟨?standby, ?active⟩,
    fun h i s hp hr => ⟨fun l h1 hl => exec_answers rfl hp (onlyRole_of_eq hr) rfl (readLaneOwn_of_some h1 hl),
      fun e hi he => exec_answers rfl hp (onlyRole_of_eq hr) rfl (readAdmissionOwn_of_some hi he)⟩⟩
  case standby =>
    rintro rfl he
    have hbank : physicalBank 0#8 s = if s.dsp.swap then 0 else 1 := by cases hs : s.dsp.swap <;> simp [physicalBank, hs]
    rw [← hbank]
    exact exec_answers rfl hp (onlyRole_of_eq hr) rfl (readOrderOwn_of_some (bank := 0#8) hi he)
  case active =>
    rintro rfl he
    have hbank : physicalBank 1#8 s = if s.dsp.swap then 1 else 0 := by cases hs : s.dsp.swap <;> simp [physicalBank, hs]
    rw [← hbank]
    exact exec_answers rfl hp (onlyRole_of_eq hr) rfl (readOrderOwn_of_some (bank := 1#8) hi he)

end Sys2Proof.Machine
end

section
/-! O33, O41, O35: WRITE-ORDER, WRITE-LANE, RETRY-TRAY and REMOVE-TRAY. -/

namespace Sys2Proof.Machine

/-! ### Places of a list -/

theorem slotAt_set_same {α : Type} {l : List (Option α)} {i : Nat} (h : i < l.length) (o : Option α) :
    slotAt (l.set i o) i = o := by
  simp [slotAt, h]

theorem slotAt_set_of_ne {α : Type} {l : List (Option α)} {i k : Nat} (h : k ≠ i) (o : Option α) :
    slotAt (l.set i o) k = slotAt l k := by
  simp [slotAt, Ne.symm h]

theorem slotAt_set_none {α : Type} (l : List (Option α)) (i : Nat) : slotAt (l.set i none) i = none := by
  by_cases h : i < l.length
  · exact slotAt_set_same h none
  · simp [slotAt, h]

theorem slotAt_of_length_le {α : Type} {l : List (Option α)} {i : Nat} (h : l.length ≤ i) : slotAt l i = none := by
  simp [slotAt, h]

/-! ### WRITE-ORDER (R110) -/

theorem standbyBank_setStandby (b : List (Option OrderEntry)) (s : State) : standbyBank (setStandby b s) = b := by
  cases hs : s.dsp.swap <;> simp [standbyBank, setStandby, hs]

theorem activeBank_setStandby (b : List (Option OrderEntry)) (s : State) :
    activeBank (setStandby b s) = activeBank s := by
  cases hs : s.dsp.swap <;> simp [activeBank, setStandby, hs]

theorem setStandby_slots (b : List (Option OrderEntry)) (s : State) : (setStandby b s).dsp.slots = s.dsp.slots := by
  unfold setStandby
  split <;> rfl

theorem standbyBank_length {s : State} (h0 : s.dsp.bank0.length = 32) (h1 : s.dsp.bank1.length = 32) :
    (standbyBank s).length = 32 := by
  unfold standbyBank
  split
  · exact h0
  · exact h1

section WriteOrder

variable {i : BitVec 8} {o : OrderFields} {s : State}

theorem writeOrderOwn_active (mark : BitVec 8) : writeOrderOwn 1#8 i mark o s = refuse .badMode s := rfl

theorem writeOrderOwn_of_gt (mark : BitVec 8) (h : 31 < i.toNat) : writeOrderOwn 0#8 i mark o s = refuse .badValue s := by
  simp [writeOrderOwn, h]

theorem writeOrderOwn_empty (h : i.toNat ≤ 31) :
    writeOrderOwn 0#8 i 1#8 o s = accept (setStandby ((standbyBank s).set i.toNat none) s) := by
  simp [writeOrderOwn, Nat.not_lt.2 h]

theorem writeOrderOwn_refused (h : i.toNat ≤ 31) (ho : orderRefused o = true) :
    writeOrderOwn 0#8 i 0#8 o s = refuse .badValue s := by
  simp [writeOrderOwn, Nat.not_lt.2 h, ho]

theorem writeOrderOwn_written (h : i.toNat ≤ 31) (ho : orderRefused o = false) :
    writeOrderOwn 0#8 i 0#8 o s =
      { status := if 999 < o.quantity.toNat ∨ o.quantity.toNat < o.assigned.toNat then .clamped else .ok, data := [],
        state := setStandby ((standbyBank s).set i.toNat (some (writtenOrder o))) s } := by
  simp [writeOrderOwn, Nat.not_lt.2 h, ho, orderClamped]

end WriteOrder

/-- Settles O33: the STANDBY bank is set at the index given, and the rest stands. -/
theorem writeOrderFillsStandbyBank : Obligations.WriteOrderFillsStandbyBank := by
  intro h i o s hp hr
  have hq := onlyRole_of_eq hr
  refine ⟨exec_answers rfl hp hq rfl (writeOrderOwn_active _), exec_answers rfl hp hq rfl (writeOrderOwn_active _),
    fun hi => ⟨exec_answers rfl hp hq rfl (writeOrderOwn_of_gt _ hi), exec_answers rfl hp hq rfl (writeOrderOwn_of_gt _ hi)⟩,
    fun hi h0 h1 => ?_⟩
  have hle : i.toNat ≤ 31 := Nat.le_of_lt_succ hi
  have hlen : i.toNat < (standbyBank s).length := by rwa [standbyBank_length h0 h1]
  refine ⟨⟨_, exec_answers rfl hp hq rfl (writeOrderOwn_empty hle), ?_, activeBank_setStandby _ s, setStandby_tray _ s⟩,
    fun ho => exec_answers rfl hp hq rfl (writeOrderOwn_refused hle ho),
    fun ho => ⟨_, writtenOrder o, exec_answers rfl hp hq rfl (writeOrderOwn_written hle ho), ?_, rfl, rfl, rfl, rfl, rfl, rfl,
      rfl, rfl, rfl, rfl, fun k hk => ?_, activeBank_setStandby _ s, setStandby_tray _ s, setStandby_slots _ s⟩⟩
  · rw [standbyBank_setStandby, slotAt_set_none]
  · rw [standbyBank_setStandby, slotAt_set_same hlen]
  · rw [standbyBank_setStandby, slotAt_set_of_ne hk]

/-! ### WRITE-LANE (R131) -/

theorem orderTaken_iff {s : State} {n : Nat} {order : BitVec 16} :
    orderTaken s n order = true ↔
      order ≠ 0#16 ∧ ∃ k l, k ≠ n ∧ s.lane k = some l ∧ l.use = .orders ∧ l.order = some order.toNat := by
  have horder : order.toNat ≠ 0 ↔ order ≠ 0#16 := not_congr (toNat_eq_zero_iff order)
  unfold orderTaken
  rw [Bool.and_eq_true, decide_eq_true_iff, horder, List.any_eq_true]
  refine and_congr_right fun _ => ⟨?_, ?_⟩
  · rintro ⟨i, -, hi⟩
    rw [Bool.and_eq_true, decide_eq_true_iff] at hi
    obtain ⟨hne, hlane⟩ := hi
    obtain ⟨l, hl, hheld⟩ := (Option.any_eq_true _ _).1 hlane
    rw [Bool.and_eq_true, decide_eq_true_iff, decide_eq_true_iff] at hheld
    exact ⟨i + 1, l, hne, hl, hheld⟩
  · rintro ⟨k, l, hne, hl, huse, hheld⟩
    have hk := ne_zero_of_lane_eq_some hl
    rw [State.lane, if_neg hk] at hl
    have hlt := (List.getElem?_eq_some_iff.1 hl).1
    refine ⟨k - 1, List.mem_range.2 hlt, ?_⟩
    rw [Nat.sub_add_cancel (Nat.one_le_iff_ne_zero.2 hk), hl]
    simp [hne, huse, hheld]

theorem laneUse_ofCode {use : BitVec 8} (h : use.toNat ≤ 3) :
    ∃ u, LaneUse.ofCode use.toNat = some u ∧ u.code = use.toNat := by
  obtain h | h | h | h : use.toNat = 0 ∨ use.toNat = 1 ∨ use.toNat = 2 ∨ use.toNat = 3 := by omega
  all_goals
    rw [h]
    exact ⟨_, rfl, rfl⟩

theorem laneUse_ofCode_of_gt {use : BitVec 8} (h : 3 < use.toNat) : LaneUse.ofCode use.toNat = none := by
  obtain ⟨k, hk⟩ : ∃ k, use.toNat = k + 4 := ⟨use.toNat - 4, by omega⟩
  rw [hk]
  rfl

section WriteLane

variable {lane use : BitVec 8} {capacity occupancy order : BitVec 16} {s : State}

theorem writeLaneOwn_of_mode (hm : s.mode ≠ .configuring) :
    writeLaneOwn lane use capacity occupancy order s = refuse .badMode s := by
  simp [writeLaneOwn, hm]

theorem writeLaneOwn_of_out (hm : s.mode = .configuring) (h : lane.toNat < 1 ∨ 8 < lane.toNat) :
    writeLaneOwn lane use capacity occupancy order s = refuse .badValue s := by
  have hout : (decide (lane.toNat < 1) || decide (8 < lane.toNat)) = true := by
    rwa [Bool.or_eq_true, decide_eq_true_iff, decide_eq_true_iff]
  rw [writeLaneOwn, if_neg (not_not.2 hm), if_pos hout]

theorem writeLaneOwn_of_taken (hm : s.mode = .configuring) (h1 : 1 ≤ lane.toNat) (h8 : lane.toNat ≤ 8)
    (ht : orderTaken s lane.toNat order = true) :
    writeLaneOwn lane use capacity occupancy order s = refuse .badValue s := by
  simp [writeLaneOwn, hm, Nat.not_lt.2 h1, Nat.not_lt.2 h8, ht]

theorem writeLaneOwn_written {u : LaneUse} (hu : LaneUse.ofCode use.toNat = some u) (hm : s.mode = .configuring)
    (h1 : 1 ≤ lane.toNat) (h8 : lane.toNat ≤ 8) (ht : orderTaken s lane.toNat order = false) :
    writeLaneOwn lane use capacity occupancy order s =
      { status :=
          if capacity.toNat < 1 ∨ 500 < capacity.toNat ∨ capacity.toNat < occupancy.toNat then .clamped else .ok
        data := []
        state := resum (updateLane lane.toNat (fun l => writtenLane l u capacity occupancy order) s) } := by
  simp [writeLaneOwn, hm, Nat.not_lt.2 h1, Nat.not_lt.2 h8, ht, hu, laneClamped, or_assoc]

end WriteLane

/-- The order a lane keeps (R131). -/
theorem keptOrder_eq (u : LaneUse) (order : BitVec 16) :
    keptOrder u order = if u = .orders ∧ order ≠ 0#16 then some order.toNat else none := by
  have horder : order.toNat = 0 ↔ order = 0#16 := toNat_eq_zero_iff order
  unfold keptOrder optId
  by_cases hu : u = .orders <;> by_cases ho : order = 0#16 <;> simp [hu, ho, horder]

theorem clampNat_eq (lo hi v : Nat) (h : lo ≤ hi) : clampNat lo hi v = max lo (min hi v) := by
  unfold clampNat
  split
  · omega
  split <;> omega

theorem resum_workingSum (s : State) :
    (resum s).stc.workingSum = wordSum (storeWords (resum s).stc.settings (resum s).stc.products (resum s).stc.transitions
      (resum s).adm.lanes) := by
  simp only [resum]

/-- Settles O41: one lane is rewritten and the sum worked out again. -/
theorem writeLaneSetsLane : Obligations.WriteLaneSetsLane := by
  refine ⟨fun h lane use capacity occupancy order s hp hr => ⟨fun hu => ?_, fun hu hm => ?_⟩,
    fun h lane use capacity occupancy order s hp hr hm hu hlanes => ?_⟩
  · exact exec_unassigned rfl hp (onlyRole_of_eq hr) (by rw [laneUse_ofCode_of_gt hu]; rfl)
  · obtain ⟨u, hcode, -⟩ := laneUse_ofCode hu
    exact exec_answers rfl hp (onlyRole_of_eq hr) (by rw [hcode]; rfl) (writeLaneOwn_of_mode hm)
  obtain ⟨u, hcode, hu'⟩ := laneUse_ofCode hu
  have henum : (LaneUse.ofCode use.toNat).isSome = true := by rw [hcode]; rfl
  have hq := onlyRole_of_eq hr
  refine ⟨fun hout => exec_answers rfl hp hq henum (writeLaneOwn_of_out hm hout), fun h1 h8 => ⟨fun ho hheld => ?_,
    fun hfree => ?_⟩⟩
  · exact exec_answers rfl hp hq henum (writeLaneOwn_of_taken hm h1 h8 (orderTaken_iff.2 ⟨ho, hheld⟩))
  · have hnot : orderTaken s lane.toNat order = false := by
      rw [← Bool.not_eq_true, orderTaken_iff]
      rintro ⟨ho, k, l, hk, hl, huse, horder⟩
      exact (hfree.resolve_left ho) k l hk hl huse horder
    obtain ⟨old, hold⟩ : ∃ old, s.lane lane.toNat = some old :=
      Option.ne_none_iff_exists'.1 fun hnone => absurd ((lane_eq_none_iff hlanes _).1 hnone) (by omega)
    have hexec := exec_answers (c := .writeLane h lane use capacity occupancy order) rfl hp hq henum
      (writeLaneOwn_written hcode hm h1 h8 hnot)
    exact ⟨_, old, writtenLane old u capacity occupancy order, hexec, hold, lane_updateLane_same _ hold, hu',
      clampNat_eq 1 500 _ (by decide), rfl, rfl, keptOrder_eq u order, fun k hk => lane_updateLane_of_ne hk _ s,
      resum_workingSum _, ReservationsFit.updateLane_table _ _ s, updateLane_lot _ _ s, updateLane_lnk _ _ s⟩

/-! ### RETRY-TRAY and REMOVE-TRAY (R121) -/

theorem cellAt_updateCell_same {i : Nat} {s : State} {c : Cell} (h : s.cellAt i = some c) (f : Cell → Cell) :
    (updateCell i f s).cellAt i = some (f c) := by
  unfold State.cellAt at h ⊢
  rw [updateCell, slotAt_modifyAt_map, if_pos rfl, h]
  rfl

theorem cellAt_updateCell_of_ne {i k : Nat} (hk : k ≠ i) (f : Cell → Cell) (s : State) :
    (updateCell i f s).cellAt k = s.cellAt k := by
  unfold State.cellAt
  rw [updateCell, slotAt_modifyAt_map, if_neg hk]

theorem cellAt_of_tray {s t : State} (h : t.tray = s.tray) (i : Nat) : t.cellAt i = s.cellAt i := by
  simp [State.cellAt, h]

theorem activeBank_of_dsp {s t : State} (h : t.dsp = s.dsp) : activeBank t = activeBank s := by
  simp [activeBank, h]

theorem emptyCell_eq {i : Nat} {s : State} {c : Cell} (h : s.cellAt i = some c) :
    emptyCell i s = lotDepart c.tray.lot { s with tray.cells := s.tray.cells.set i none } := by
  rw [emptyCell, h]

/-- What a lot change does to the lot table depends on the lot block alone. -/
theorem updateNamed_lot {s t : State} (h : t.lot = s.lot) (o : Option Nat) (f : LotRec → LotRec) :
    (updateNamed o f t).lot = (updateNamed o f s).lot := by
  cases o with
  | none => exact h
  | some id => simp [updateNamed, updateLot, h]

theorem setActive_slots (b : List (Option OrderEntry)) (s : State) : (setActive b s).dsp.slots = s.dsp.slots := by
  unfold setActive
  split <;> rfl

theorem unassign_slots (o : Option Nat) (s : State) : (unassign o s).dsp.slots = s.dsp.slots := by
  unfold unassign
  split
  · rfl
  · exact setActive_slots _ s

/-- What the removal of a tray leaves before the flow is settled (R121). -/
def trayRemoved (i : Nat) (t : Tray) (s : State) : State :=
  { emptyCell i (unassign t.order s) with tray.lost := bump (emptyCell i (unassign t.order s)).tray.lost 1 }

theorem removeTray_eq (i : Nat) (t : Tray) (s : State) : removeTray i t s = settleFlow (trayRemoved i t s) := rfl

section Removed

variable {i : Nat} {c : Cell} {s : State} (h : s.cellAt i = some c)
include h

theorem emptyCell_unassign_eq :
    emptyCell i (unassign c.tray.order s) =
      lotDepart c.tray.lot
        { unassign c.tray.order s with tray.cells := (unassign c.tray.order s).tray.cells.set i none } :=
  emptyCell_eq (by rwa [cellAt_of_tray (unassign_tray _ s)])

theorem trayRemoved_cells : (trayRemoved i c.tray s).tray.cells = s.tray.cells.set i none := by
  show (emptyCell i (unassign c.tray.order s)).tray.cells = _
  rw [emptyCell_unassign_eq h, lotDepart_tray]
  show (unassign c.tray.order s).tray.cells.set i none = _
  rw [unassign_tray]

theorem trayRemoved_lost : (trayRemoved i c.tray s).tray.lost = bump s.tray.lost 1 := by
  show bump (emptyCell i (unassign c.tray.order s)).tray.lost 1 = _
  rw [emptyCell_unassign_eq h, lotDepart_tray]
  show bump (unassign c.tray.order s).tray.lost 1 = _
  rw [unassign_tray]

theorem trayRemoved_lot : (trayRemoved i c.tray s).lot = (lotDepart c.tray.lot s).lot := by
  show (emptyCell i (unassign c.tray.order s)).lot = _
  rw [emptyCell_unassign_eq h]
  refine updateNamed_lot ?_ c.tray.lot LotRec.depart
  exact unassign_lot _ s

theorem trayRemoved_dsp : (trayRemoved i c.tray s).dsp = (unassign c.tray.order s).dsp := by
  show (emptyCell i (unassign c.tray.order s)).dsp = _
  rw [emptyCell_unassign_eq h, lotDepart_dsp]

theorem trayRemoved_stc : (trayRemoved i c.tray s).stc = s.stc := by
  show (emptyCell i (unassign c.tray.order s)).stc = _
  rw [emptyCell_unassign_eq h, lotDepart_stc]
  exact unassign_stc _ s

end Removed

section Own

variable {cell : BitVec 8} {s : State}

theorem busy_iff (t : Tray) : t.busy = true ↔ t.dstate = .asking ∨ t.dstate = .releasing := by
  simp [Tray.busy]

theorem unnamed_iff (t : Tray) : t.unnamed = true ↔ t.id = { origin := 0, seq := 0 } := by
  simp [Tray.unnamed]

theorem cellNumber_out (h : cell.toNat < 1 ∨ 12 < cell.toNat) :
    (decide (cell.toNat < 1) || decide (12 < cell.toNat)) = true := by
  rwa [Bool.or_eq_true, decide_eq_true_iff, decide_eq_true_iff]

theorem retryTrayOwn_of_out (h : cell.toNat < 1 ∨ 12 < cell.toNat) : retryTrayOwn cell s = refuse .badValue s :=
  if_pos (cellNumber_out h)

theorem removeTrayOwn_of_out (h : cell.toNat < 1 ∨ 12 < cell.toNat) : removeTrayOwn cell s = refuse .badValue s :=
  if_pos (cellNumber_out h)

section Cell

variable (h1 : 1 ≤ cell.toNat) (h12 : cell.toNat ≤ 12)
include h1 h12

theorem retryTrayOwn_of_none (h : s.cellAt (cell.toNat - 1) = none) : retryTrayOwn cell s = refuse .empty s := by
  simp [retryTrayOwn, Nat.not_lt.2 h1, Nat.not_lt.2 h12, h]

theorem removeTrayOwn_of_none (h : s.cellAt (cell.toNat - 1) = none) : removeTrayOwn cell s = refuse .empty s := by
  simp [removeTrayOwn, Nat.not_lt.2 h1, Nat.not_lt.2 h12, h]

variable {c : Cell} (h : s.cellAt (cell.toNat - 1) = some c)
include h

theorem retryTrayOwn_of_some :
    retryTrayOwn cell s =
      if c.tray.busy then refuse .busy s
      else if c.tray.unnamed then refuse .badValue s
      else if c.tray.dstate ≠ .routeHeld then refuse .busy s
      else accept (updateCellTray (cell.toNat - 1) (fun t => { t with retry := 0, dstate := .unasked }) s) := by
  simp [retryTrayOwn, Nat.not_lt.2 h1, Nat.not_lt.2 h12, h]

theorem removeTrayOwn_of_some :
    removeTrayOwn cell s =
      if c.tray.busy then refuse .busy s else accept (removeTray (cell.toNat - 1) c.tray s) := by
  simp [removeTrayOwn, Nat.not_lt.2 h1, Nat.not_lt.2 h12, h]

end Cell

end Own

/-- Settles O35: the two own rules, case by case, and the two updates of a cell. -/
theorem retryAndRemoveTray : Obligations.RetryAndRemoveTray := by
  intro h cell s hrun hlen retry remove i
  refine ⟨fun hm => ⟨exec_starting rfl hrun hlen hm, exec_starting rfl hrun hlen hm⟩,
    fun hm hr => ⟨exec_other_role rfl ⟨hrun, hlen, hm⟩ (onlyRole_of_ne hr),
      exec_other_role rfl ⟨hrun, hlen, hm⟩ (onlyRole_of_ne hr)⟩, fun hm hr => ?_⟩
  have hp : PortReady h 1 s := ⟨hrun, hlen, hm⟩
  have hq := onlyRole_of_eq hr
  refine ⟨fun hout => ⟨exec_answers rfl hp hq rfl (retryTrayOwn_of_out hout),
      exec_answers rfl hp hq rfl (removeTrayOwn_of_out hout)⟩,
    fun h1 h12 => ⟨fun hnone => ⟨exec_answers rfl hp hq rfl (retryTrayOwn_of_none h1 h12 hnone),
      exec_answers rfl hp hq rfl (removeTrayOwn_of_none h1 h12 hnone)⟩, fun c hc => ⟨fun hbusy => ?busy,
      fun hasking hreleasing => ?free⟩⟩⟩
  case busy =>
    have hb := (busy_iff c.tray).2 hbusy
    exact ⟨exec_answers rfl hp hq rfl ((retryTrayOwn_of_some h1 h12 hc).trans (if_pos hb)),
      exec_answers rfl hp hq rfl ((removeTrayOwn_of_some h1 h12 hc).trans (if_pos hb))⟩
  case free =>
    have hb : ¬ c.tray.busy = true := fun hb => ((busy_iff c.tray).1 hb).elim hasking hreleasing
    have hretry := (retryTrayOwn_of_some h1 h12 hc).trans (if_neg hb)
    refine ⟨fun hid => exec_answers rfl hp hq rfl (hretry.trans (if_pos ((unnamed_iff _).2 hid))),
      fun hid hstate => exec_answers rfl hp hq rfl
        ((hretry.trans (if_neg (mt (unnamed_iff _).1 hid))).trans (if_pos hstate)), fun hid hstate => ?_, ?_⟩
    · have hown := (hretry.trans (if_neg (mt (unnamed_iff _).1 hid))).trans (if_neg (not_not.2 hstate))
      exact ⟨_, exec_answers rfl hp hq rfl hown, cellAt_updateCell_same hc _, fun k hk => cellAt_updateCell_of_ne hk _ s,
        rfl⟩
    · have hown := (removeTrayOwn_of_some h1 h12 hc).trans (if_neg hb)
      refine ⟨_, exec_answers rfl hp hq rfl hown, ?_, fun k hk => ?_, ?_, ?_, ?_, ?_, ?_, settleFlow_room _,
        settleFlow_permit _⟩
      · rw [removeTray_eq, cellAt_of_tray (settleFlow_tray _), State.cellAt, trayRemoved_cells hc, slotAt_set_none]
      · rw [removeTray_eq, cellAt_of_tray (settleFlow_tray _), State.cellAt, trayRemoved_cells hc, slotAt_set_of_ne hk]
        rfl
      · rw [removeTray_eq, settleFlow_tray, trayRemoved_lost hc]
        rfl
      · rw [removeTray_eq, settleFlow_lot, trayRemoved_lot hc]
      · rw [removeTray_eq, activeBank_of_dsp (settleFlow_dsp _), activeBank_of_dsp (trayRemoved_dsp hc)]
      · rw [removeTray_eq, settleFlow_stc, trayRemoved_stc hc]
      · rw [removeTray_eq, settleFlow_dsp, trayRemoved_dsp hc, unassign_slots]

end Sys2Proof.Machine
end

section
/-! O22, O23, O24: OPEN-LOT, CLOSE-LOT and the announcements of lots. -/

namespace Sys2Proof.Machine

/-! ### Choosing an index by going through a list -/

/-- What a choice ends on is what it started from, or an index of the list at which it was taken. -/
theorem foldl_choice {f : Option Nat → Nat → Option Nat} {P : Nat → Prop}
    (hstep : ∀ best k i, f best k = some i → best = some i ∨ k = i ∧ P i) {is : List Nat} {best : Option Nat} {i : Nat}
    (h : is.foldl f best = some i) : best = some i ∨ i ∈ is ∧ P i := by
  induction is generalizing best with
  | nil => exact .inl h
  | cons k ks ih =>
    obtain hnow | ⟨hmem, hp⟩ := ih h
    · obtain hbefore | ⟨rfl, hp⟩ := hstep best k i hnow
      · exact .inl hbefore
      · exact .inr ⟨List.mem_cons_self .., hp⟩
    · exact .inr ⟨List.mem_cons_of_mem _ hmem, hp⟩

/-! ### The place of a new lot record (R46) -/

theorem lowestFree_lt {α : Type} {l : List (Option α)} {i : Nat} (h : lowestFree l = some i) : i < l.length :=
  (List.findIdx?_eq_some_iff_getElem.1 h).1

theorem oldestRetired_lt {l : List (Option LotRec)} {i : Nat} (h : oldestRetired l = some i) : i < l.length := by
  have hchoice := foldl_choice (P := fun _ => True) (fun best k i hstep => ?_) h
  · obtain hnone | ⟨hmem, -⟩ := hchoice
    · cases hnone
    · exact List.mem_range.1 hmem
  · split at hstep
    · exact .inl hstep
    split at hstep
    · split at hstep
      · exact .inr ⟨Option.some.inj hstep, trivial⟩
      split at hstep
      · exact .inr ⟨Option.some.inj hstep, trivial⟩
      · exact .inl hstep
    · exact .inl hstep

theorem findPlace_lt {l : List (Option LotRec)} {i : Nat} (h : findPlace l = some i) : i < l.length := by
  unfold findPlace at h
  split at h
  · next j hj => exact Option.some.inj h ▸ lowestFree_lt hj
  · exact oldestRetired_lt h

/-! ### Closing and announcing (R48, R51 to R53) -/

theorem mainHasRoom_one_iff (s : State) : mainHasRoom s 1 = true ↔ s.lnk.mainQ.length < 16 := by
  simp [mainHasRoom, mainCapacity]

theorem closeEntry_of_opened {s : State} {i : Nat} {r : LotRec} (h : slotAt s.lot.table i = some r)
    (hs : r.state = .opened) :
    closeEntry i s =
      { s with
        lot.table := s.lot.table.set i (some (r.close s.lot.closeCounter s.stc.clock))
        lot.closeCounter := s.lot.closeCounter + 1#32 } := by
  rw [closeEntry, h]
  exact if_pos hs

/-- The lot block after the open lot is closed, its LOT-CLOSE not yet announced (R51). -/
def closedLots (i : Nat) (r : LotRec) (s : State) : Lot :=
  { s.lot with
    table := s.lot.table.set i (some (r.close s.lot.closeCounter s.stc.clock))
    closeCounter := s.lot.closeCounter + 1#32, openIdx := none, pendingOpen := false, repeatAt := none }

section Close

variable {s : State} {i : Nat} {r : LotRec} (hopen : s.lot.openIdx = some i) (hr : slotAt s.lot.table i = some r)
  (hs : r.state = .opened)
include hopen hr hs

theorem closeOpenLot_eq : closeOpenLot s = announceClose r.id { s with lot := closedLots i r s } := by
  rw [closeOpenLot, hopen]
  dsimp only
  rw [closeEntry_of_opened hr hs, hr]
  rfl

variable (hnone : s.lot.pendingCloses = [])
include hnone

theorem closeOpenLot_of_room (hroom : s.lnk.mainQ.length < 16) :
    closeOpenLot s =
      { s with
        lot := closedLots i r s
        lnk.mainQ := s.lnk.mainQ ++ [frameTo 0 (.lotClose (BitVec.ofNat 24 r.id))] } := by
  have hpush := (mainHasRoom_one_iff { s with lot := closedLots i r s }).2 hroom
  have hcloses : (closedLots i r s).pendingCloses = [] := hnone
  rw [closeOpenLot_eq hopen hr hs, announceClose, pushMain_room _ _ hpush]
  exact if_pos (by rw [hpush]; simp only [hcloses, List.isEmpty_nil, Bool.and_self])

theorem closeOpenLot_of_full (hfull : 16 ≤ s.lnk.mainQ.length) :
    closeOpenLot s = { s with lot := { closedLots i r s with pendingCloses := [r.id] } } := by
  have hpush : mainHasRoom { s with lot := closedLots i r s } 1 ≠ true := fun h =>
    absurd ((mainHasRoom_one_iff _).1 h) (Nat.not_lt.2 hfull)
  have hcloses : (closedLots i r s).pendingCloses = [] := hnone
  rw [closeOpenLot_eq hopen hr hs, announceClose, if_neg (by simp [hpush])]
  simp only [hcloses, List.nil_append]

end Close

/-- Announcing the open lot moves the LOT-OPEN's own fields and the main queue (R53). -/
theorem announceOpen_lot (s : State) :
    (announceOpen s).lot =
      { s.lot with pendingOpen := (announceOpen s).lot.pendingOpen, repeatAt := (announceOpen s).lot.repeatAt } := by
  unfold announceOpen
  split
  · rfl
  split
  · simp
  · rfl

theorem announceOpen_of_room {s : State} {r : LotRec} (hr : openLotRec s = some r) (hnone : s.lot.pendingCloses = [])
    (hroom : s.lnk.mainQ.length < 16) :
    announceOpen s =
      { s with
        lot.pendingOpen := false
        lot.repeatAt := some (s.nowMs + 5000)
        lnk.mainQ := s.lnk.mainQ ++ [frameTo 0 (.lotOpen (writeLotOpen r))] } := by
  have hpush := (mainHasRoom_one_iff s).2 hroom
  rw [announceOpen, hr]
  dsimp only
  rw [if_pos (by simp [hnone, hpush]), pushMain_room _ _ hpush]

theorem openLotRec_of {s : State} {j : Nat} {r : LotRec} (hopen : s.lot.openIdx = some j)
    (hr : slotAt s.lot.table j = some r) : openLotRec s = some r := by
  simp [openLotRec, hopen, hr]

/-- The pending LOT-CLOSEs have joined the main queue (R53). -/
def closesQueued (l : List Nat) (s : State) : State :=
  { s with
    lot.pendingCloses := []
    lnk.mainQ := s.lnk.mainQ ++ l.map (fun id => frameTo 0 (.lotClose (BitVec.ofNat 24 id))) }

/-- With room for all of them the pending LOT-CLOSEs are queued, oldest first (R53). -/
theorem queueCloses_of_room {l : List Nat} {s : State} (h : s.lnk.mainQ.length + l.length ≤ 16) :
    queueCloses l s = closesQueued l s := by
  induction l generalizing s with
  | nil => simp [queueCloses, closesQueued]
  | cons id rest ih =>
    rw [List.length_cons] at h
    have hpush := (mainHasRoom_one_iff s).2 (by omega)
    rw [queueCloses, if_pos hpush, pushMain_room _ _ hpush, ih (by simp; omega)]
    simp [closesQueued]

/-! ### OPEN-LOT (R50, R51) -/

theorem closeOpenLot_table (s : State) : (closeOpenLot s).lot.table = tableAfterClose s := by
  have hannounce (id : Nat) (t : State) : (announceClose id t).lot.table = t.lot.table := by
    unfold announceClose
    split
    · rw [pushMain_lot]
    · rfl
  cases hopen : s.lot.openIdx with
  | none => simp only [closeOpenLot, tableAfterClose, hopen]
  | some i =>
    simp only [closeOpenLot, tableAfterClose, hopen]
    exact hannounce _ _

/-- The state an OPEN-LOT leaves before the announcement: the new lot at place `j` is the open lot (R51). -/
def lotOpened (j : Nat) (p : Product) (tank lot : Nat) (s : State) : State :=
  { closeOpenLot s with
    lot.table := (closeOpenLot s).lot.table.set j (some (newLotRec s p tank lot))
    lot.openIdx := some j
    lot.prevClass := some p.cls
    lot.sanitised := false }

theorem openLotSteps_eq {p : Product} {tank lot : Nat} {s : State} {j : Nat} (h : findPlace (tableAfterClose s) = some j) :
    openLotSteps p tank lot s = settleFlow (announceOpen (lotOpened j p tank lot s)) := by
  rw [openLotSteps]
  dsimp only
  rw [closeOpenLot_table, h]
  simp only [lotOpened, closeOpenLot_table]

section Opened

variable (j : Nat) (p : Product) (tank lot : Nat) (s : State)

theorem openLotSteps_lot :
    (settleFlow (announceOpen (lotOpened j p tank lot s))).lot =
      { (lotOpened j p tank lot s).lot with
        pendingOpen := (announceOpen (lotOpened j p tank lot s)).lot.pendingOpen
        repeatAt := (announceOpen (lotOpened j p tank lot s)).lot.repeatAt } := by
  rw [settleFlow_lot]
  exact announceOpen_lot _

theorem openLotSteps_frame :
    let t := settleFlow (announceOpen (lotOpened j p tank lot s))
    t.idx = s.idx ∧ t.tray = s.tray ∧ t.stc = s.stc := by
  refine ⟨?_, ?_, ?_⟩
  · rw [settleFlow_idx, announceOpen_idx]
    exact closeOpenLot_idx s
  · rw [settleFlow_tray, announceOpen_tray]
    exact closeOpenLot_tray s
  · rw [settleFlow_stc, announceOpen_stc]
    exact closeOpenLot_stc s

end Opened

section Checks

variable {i tank : BitVec 8} {lot : BitVec 24} {s : State}

theorem openLotOwn_of_mode (h : s.mode ≠ .running) (h' : s.mode ≠ .held) : openLotOwn i tank lot s = refuse .badMode s := by
  simp [openLotOwn, h, h']

variable (hm : s.mode = .running ∨ s.mode = .held)
include hm

theorem openLotOwn_of_no_product (h : slotAt s.stc.products i.toNat = none) :
    openLotOwn i tank lot s = refuse .badValue s := by
  obtain hm | hm := hm <;> simp [openLotOwn, hm, h]

/-- With a product the checks of R50 follow in their order. -/
theorem openLotOwn_of_product {p : Product} (h : slotAt s.stc.products i.toNat = some p) :
    openLotOwn i tank lot s =
      if decide (1 ≤ tank.toNat ∧ tank.toNat ≤ 16 ∧ lot.toNat ≠ 0) = false then refuse .badValue s
      else if (findLot s lot.toNat).isSome = true then refuse .duplicate s
      else if findPlace (tableAfterClose s) = none then refuse .full s
      else if transitionFor s p.cls = .sanitise ∧ s.lot.sanitised = false then refuse .barred s
      else if s.lot.pendingCloses ≠ [] then refuse .busy s
      else accept (openLotSteps p tank.toNat lot.toNat s) := by
  have hvalue : ((decide (tank.toNat < 1) || decide (16 < tank.toNat) || decide (lot.toNat = 0)) = true) ↔
      decide (1 ≤ tank.toNat ∧ tank.toNat ≤ 16 ∧ lot.toNat ≠ 0) = false := by
    rw [Bool.or_eq_true, Bool.or_eq_true, decide_eq_true_iff, decide_eq_true_iff, decide_eq_true_iff, decide_eq_false_iff_not]
    omega
  have hmode : ¬ (decide (s.mode ≠ .running) && decide (s.mode ≠ .held)) = true := by
    obtain hm | hm := hm <;> simp [hm]
  have hsanitise : ((decide (transitionFor s p.cls = .sanitise) && !s.lot.sanitised) = true) ↔
      transitionFor s p.cls = .sanitise ∧ s.lot.sanitised = false := by simp
  have hcloses : ((!s.lot.pendingCloses.isEmpty) = true) ↔ s.lot.pendingCloses ≠ [] := by simp
  rw [openLotOwn, if_neg hmode, h]
  simp only [hvalue, hsanitise, hcloses, Option.isNone_iff_eq_none]

end Checks

/-- Settles O22: the checks one by one, then the new record at its place. -/
theorem openLotChecksAndOpens : Obligations.OpenLotChecksAndOpens := by
  intro h i tank lot s hp hr refused good
  have hq := onlyRole_of_eq hr
  refine ⟨fun hm hm' => exec_answers rfl hp hq rfl (openLotOwn_of_mode hm hm'), fun hm => ⟨fun hbad => ?_,
    fun p hproduct hgood => ?_⟩⟩
  · cases hproduct : slotAt s.stc.products i.toNat with
    | none => exact exec_answers rfl hp hq rfl (openLotOwn_of_no_product hm hproduct)
    | some p =>
      have hgood : good = false := hbad.resolve_left (by simp [hproduct])
      exact exec_answers rfl hp hq rfl ((openLotOwn_of_product hm hproduct).trans (if_pos hgood))
  have hvalue := (openLotOwn_of_product (lot := lot) (tank := tank) hm hproduct).trans (if_neg (by
    show ¬ good = false
    simp [hgood]))
  refine ⟨fun hdup => exec_answers rfl hp hq rfl (hvalue.trans (if_pos hdup)), fun hnew => ?_⟩
  have hdup := hvalue.trans (if_neg (by simp [hnew]))
  refine ⟨fun hfull => exec_answers rfl hp hq rfl (hdup.trans (if_pos hfull)), fun hplace => ?_⟩
  have hfull := hdup.trans (if_neg hplace)
  refine ⟨fun htrans hsan => exec_answers rfl hp hq rfl (hfull.trans (if_pos ⟨htrans, hsan⟩)), fun hallowed => ?_⟩
  have hbarred := hfull.trans (if_neg (fun ⟨htrans, hsan⟩ => hallowed.elim (absurd htrans) (by simp [hsan])))
  refine ⟨fun hcloses => exec_answers rfl hp hq rfl (hbarred.trans (if_pos hcloses)), fun hcloses => ?_⟩
  have hopens := hbarred.trans (if_neg (not_not.2 hcloses))
  obtain ⟨j, hj⟩ := Option.ne_none_iff_exists'.1 hplace
  rw [openLotSteps_eq hj] at hopens
  have hlot := openLotSteps_lot j p tank.toNat lot.toNat s
  have hlt : j < (closeOpenLot s).lot.table.length := by
    rw [closeOpenLot_table]
    exact findPlace_lt hj
  refine ⟨_, j, newLotRec s p tank.toNat lot.toNat, exec_answers rfl hp hq rfl hopens, ?_, ?_, rfl, rfl, rfl, rfl, rfl, rfl,
    rfl, rfl, rfl, rfl, rfl, rfl, rfl, rfl, rfl, rfl, ?_, ?_, openLotSteps_frame j p tank.toNat lot.toNat s⟩
  · rw [hlot]
    rfl
  · rw [hlot]
    exact slotAt_set_same hlt _
  · rw [hlot]
    rfl
  · rw [hlot]
    rfl

/-! ### CLOSE-LOT (R52) -/

section CloseLot

variable {s : State}

theorem closeLotOwn_of_mode (h : s.mode ≠ .running) (h' : s.mode ≠ .held) : closeLotOwn s = refuse .badMode s := by
  simp [closeLotOwn, h, h']

theorem closeLotOwn_of_none (hm : s.mode = .running ∨ s.mode = .held) (h : s.lot.openIdx = none) :
    closeLotOwn s = refuse .empty s := by
  obtain hm | hm := hm <;> simp [closeLotOwn, hm, h]

theorem closeLotOwn_of_busy (hm : s.mode = .running ∨ s.mode = .held) (h : s.lot.openIdx ≠ none)
    (hc : s.lot.pendingCloses ≠ []) : closeLotOwn s = refuse .busy s := by
  obtain hm | hm := hm <;> simp [closeLotOwn, hm, h, hc]

theorem closeLotOwn_of_open (hm : s.mode = .running ∨ s.mode = .held) (h : s.lot.openIdx ≠ none)
    (hc : s.lot.pendingCloses = []) : closeLotOwn s = accept (settleFlow (closeOpenLot s)) := by
  obtain hm | hm := hm <;> simp [closeLotOwn, hm, h, hc]

end CloseLot

/-- Settles O23: the open lot's record is closed at its entry, and its frame queued or kept. -/
theorem closeLotClosesOpenLot : Obligations.CloseLotClosesOpenLot := by
  intro h s hrun hlen refused
  refine ⟨fun hm => exec_starting rfl hrun hlen hm,
    fun hm hr => exec_other_role rfl ⟨hrun, hlen, hm⟩ (onlyRole_of_ne hr), fun hr => ⟨fun hm hm' => ?_, fun hm => ?_⟩⟩
  · by_cases hs : s.mode = .starting
    · exact exec_starting rfl hrun hlen hs
    · exact exec_answers rfl ⟨hrun, hlen, hs⟩ (onlyRole_of_eq hr) rfl (closeLotOwn_of_mode hm hm')
  have hp : PortReady h 0 s := ⟨hrun, hlen, fun hs => by simp [hs] at hm⟩
  have hq := onlyRole_of_eq hr
  refine ⟨fun hnone => exec_answers rfl hp hq rfl (closeLotOwn_of_none hm hnone),
    fun hopen hc => exec_answers rfl hp hq rfl (closeLotOwn_of_busy hm hopen hc),
    fun j r hopen hrec hstate hc => ⟨settleFlow (closeOpenLot s),
      exec_answers rfl hp hq rfl (closeLotOwn_of_open hm (by simp [hopen]) hc), ?_⟩⟩
  rw [settleFlow_lot, settleFlow_mainQ, settleFlow_stc, settleFlow_idx]
  have hlt := lt_length_of_slotAt hrec
  have hsame : slotAt (closedLots j r s).table j = some (r.close s.lot.closeCounter s.stc.clock) := slotAt_set_same hlt _
  have hother : ∀ k, k ≠ j → slotAt (closedLots j r s).table k = slotAt s.lot.table k := fun k hk => slotAt_set_of_ne hk _
  obtain hroom | hfull := Nat.lt_or_ge s.lnk.mainQ.length 16
  · rw [closeOpenLot_of_room hopen hrec hstate hc hroom]
    exact ⟨rfl, rfl, rfl, fun _ => ⟨rfl, hc⟩, fun hf => absurd hroom (Nat.not_lt.2 hf), hsame, rfl, hother, rfl, rfl, rfl, rfl⟩
  · rw [closeOpenLot_of_full hopen hrec hstate hc hfull]
    exact ⟨rfl, rfl, rfl, fun hroom => absurd hroom (Nat.not_lt.2 hfull), fun _ => ⟨rfl, rfl⟩, hsame, rfl, hother, rfl, rfl,
      rfl, rfl⟩

/-! ### The announcements (R53) -/

theorem exec_lotOpenRepetition_of {s : State} {d : Nat} (h : s.lot.repeatAt = some d) :
    exec .lotOpenRepetition s = .next (settleFlow (announceOpen (timeTo d s))) := by
  show Host.Outcome.next (lotOpenRepeat s) = _
  rw [lotOpenRepeat, h]

/-- Settles O24: the frames join the main queue in order. -/
theorem lotAnnouncementsRepeatAndCatchUp : Obligations.LotAnnouncementsRepeatAndCatchUp := by
  refine ⟨fun d j r s hd hopen hrec hc hroom => ⟨_, exec_lotOpenRepetition_of hd, ?_⟩, fun s hroom => ?_⟩
  · rw [settleFlow_mainQ, settleFlow_lot, settleFlow_idx, settleFlow_stc,
      announceOpen_of_room (s := timeTo d s) (openLotRec_of hopen hrec) hc hroom]
    exact ⟨rfl, rfl, rfl, rfl⟩
  · have hqueue := queueCloses_of_room (l := s.lot.pendingCloses) (s := s) (Nat.le_of_lt hroom)
    refine ⟨queuePendingLots s, rfl, ?_⟩
    rw [queuePendingLots, settleFlow_mainQ, settleFlow_lot, settleFlow_stc, hqueue]
    have hsame : (closesQueued s.lot.pendingCloses s).lot.pendingOpen = s.lot.pendingOpen := rfl
    rw [hsame]
    cases s.lot.pendingOpen with
    | false => exact ⟨rfl, fun _ => rfl, fun _ _ h => (by cases h), rfl, rfl⟩
    | true =>
      have hlen : (closesQueued s.lot.pendingCloses s).lnk.mainQ.length < 16 := by simpa [closesQueued] using hroom
      simp only [if_true]
      refine ⟨?_, fun h => (by cases h), fun j r _ hopen hrec => ?_, ?_, ?_⟩
      · rw [announceOpen_lot]
        rfl
      · rw [announceOpen_of_room (s := closesQueued s.lot.pendingCloses s) (openLotRec_of hopen hrec) rfl hlen]
        exact ⟨rfl, rfl, rfl⟩
      · rw [announceOpen_lot]
        rfl
      · rw [announceOpen_stc]
        rfl

end Sys2Proof.Machine
end

section
/-! O20: passes. -/

namespace Sys2Proof.Machine

/-! ### The lots and classes of records -/

theorem findLotIn_id {l : List (Option LotRec)} {id : Nat} {r : LotRec} (h : findLotIn l id = some r) : r.id = id := by
  unfold findLotIn at h
  obtain ⟨o, ho, hr⟩ : ∃ o, l.find? (fun e => e.any (fun r => r.id = id)) = some o ∧ o = some r := by
    simpa [Option.join_eq_some_iff] using h
  have := List.find?_some ho
  simpa [hr] using this

theorem lotOf_id {s : State} {o : Option Nat} {r : LotRec} (h : lotOf s o = some r) : o = some r.id := by
  cases o with
  | none => cases h
  | some id => rw [findLotIn_id (show findLotIn s.lot.table id = some r from h)]

theorem heldLot_eq (s : State) (o : Option Nat) : heldLot s o = if (lotOf s o).isSome then o else none := by
  unfold heldLot
  cases h : lotOf s o with
  | none => rfl
  | some r => exact (lotOf_id h).symm

theorem lotOf_heldLot (s : State) (o : Option Nat) : lotOf s (heldLot s o) = lotOf s o := by
  rw [heldLot_eq]
  cases h : lotOf s o with
  | none => rfl
  | some r => exact h

theorem classOf_eq_spent_iff (allowance exposure : Nat) : classOf allowance exposure = .spent ↔ allowance ≤ exposure := by
  unfold classOf margin
  constructor
  · intro h
    by_contra hlt
    have : ¬ allowance - exposure = 0 := by omega
    simp only [this, if_false] at h
    split at h
    · cases h
    · split at h <;> cases h
  · intro h
    simp [Nat.sub_eq_zero_of_le h]

/-- Classing changes a row's class and, where its lot is spent before the gate, its pots (R100, R101). -/
theorem classifyRow_eq (lot : Option LotRec) (beforeGate : Bool) (b : RowBody) :
    classifyRow lot beforeGate b =
      { b with
        urgency := lot.map (fun r => classOf r.allowance b.exposure)
        pots := if lot.any (fun r => r.allowance ≤ b.exposure) && beforeGate then (b.markAll .spent).pots else b.pots } := by
  cases lot with
  | none => rfl
  | some r =>
    have hspent := classOf_eq_spent_iff r.allowance b.exposure
    by_cases h : r.allowance ≤ b.exposure <;> cases beforeGate <;> simp [classifyRow, hspent, h, RowBody.markAll]

theorem slotAt_map {α β : Type} (l : List (Option α)) (f : α → β) (k : Nat) :
    slotAt (l.map (Option.map f)) k = (slotAt l k).map f := by
  simp only [slotAt, List.getElem?_map]
  cases l[k]? with
  | none => rfl
  | some o => rfl

theorem slotAt_markAll_pots (b : RowBody) (r : Reason) (k : Nat) :
    slotAt (b.markAll r).pots k = (slotAt b.pots k).map (fun p => p.mark r) := slotAt_map b.pots _ k

/-- A tray that names a held lot gains the quarantine flag where the lot's allowance is used up (R102). -/
theorem classifyTray_eq (lot : Option LotRec) (t : Tray) :
    classifyTray lot t =
      { t with
        urgency := lot.elim t.urgency (fun r => classOf r.allowance t.exposure)
        quarantine := t.quarantine || lot.any (fun r => r.allowance ≤ t.exposure) } := by
  cases lot with
  | none => simp [classifyTray]
  | some r => simp [classifyTray, classOf_eq_spent_iff]

/-! ### Passes (R31, R32) -/

theorem slotAt_readRowPass_pots (p : RowPassFields) {k : Nat} (hk : k < 8) :
    slotAt (readRowPass p).pots k = readPot (p.pots.getD k 0#16) := by
  simp [slotAt, readRowPass, hk]

/-- The checks every pass goes through first (R31). -/
def passBarred (source : Nat) (known : Bool) (s : State) : Bool :=
  decide (source ≠ s.upstream) || !passMode s.mode || known

theorem takeRowPass_eq (source : Nat) (p : RowPassFields) (s : State) :
    takeRowPass source p s =
      if passBarred source (s.hnd.rowArrivals.any (fun e => e.seq = p.seq)) s then dropPass s
      else if 8 ≤ s.hnd.rowArrivals.length then creditViolation s
      else acceptRow p.seq (readRowPass p) s := by
  unfold takeRowPass passBarred arrivalsCapacity
  generalize s.hnd.rowArrivals.any (fun e => e.seq = p.seq) = known
  by_cases hs : source = s.upstream <;> cases hm : passMode s.mode <;> simp [hs]

theorem takeTrayPass_eq (source : Nat) (p : TrayPassFields) (s : State) :
    takeTrayPass source p s =
      if passBarred source (s.hnd.trayArrivals.any (fun e => e.seq = p.seq)) s then dropPass s
      else if 8 ≤ s.hnd.trayArrivals.length then creditViolation s
      else acceptTray p.seq (readTrayPass p) s := by
  unfold takeTrayPass passBarred arrivalsCapacity
  generalize s.hnd.trayArrivals.any (fun e => e.seq = p.seq) = known
  by_cases hs : source = s.upstream <;> cases hm : passMode s.mode <;> simp [hs]

/-- The row of an accepted ROW-PASS: its lot checked, the row classed (R31). -/
def acceptedRow (b : RowBody) (s : State) : RowBody :=
  classifyRow (lotOf s (heldLot s b.lot)) true { b with lot := heldLot s b.lot }

/-- The tray of an accepted TRAY-PASS: its lot checked, the tray classed (R31). -/
def acceptedTray (t : Tray) (s : State) : Tray :=
  classifyTray (lotOf s (heldLot s t.lot))
    { t with lot := heldLot s t.lot, quarantine := t.quarantine || (t.lot.isSome && (heldLot s t.lot).isNone) }

theorem acceptRow_hnd (seq : BitVec 16) (b : RowBody) (s : State) :
    (acceptRow seq b s).hnd =
      { s.hnd with
        expected := seq + 1#16
        rowArrivals := s.hnd.rowArrivals ++ [{ body := acceptedRow b s, seq, since := s.nowMs }]
        room := (acceptRow seq b s).hnd.room
        advertised := (acceptRow seq b s).hnd.advertised
        refreshAt := (acceptRow seq b s).hnd.refreshAt } := by
  unfold acceptRow
  rw [settleFlow_hnd, lotArrive_hnd]
  rfl

theorem acceptTray_hnd (seq : BitVec 16) (t : Tray) (s : State) :
    (acceptTray seq t s).hnd =
      { s.hnd with
        expected := seq + 1#16
        trayArrivals := s.hnd.trayArrivals ++ [{ tray := acceptedTray t s, seq, since := s.nowMs }]
        room := (acceptTray seq t s).hnd.room
        advertised := (acceptTray seq t s).hnd.advertised
        refreshAt := (acceptTray seq t s).hnd.refreshAt } := by
  unfold acceptTray
  rw [settleFlow_hnd, lotArrive_hnd]
  rfl

theorem acceptedRow_eq (b : RowBody) (s : State) :
    acceptedRow b s =
      { b with
        lot := if (lotOf s b.lot).isSome then b.lot else none
        urgency := (lotOf s b.lot).map (fun r => classOf r.allowance b.exposure)
        pots := if (lotOf s b.lot).any (fun r => r.allowance ≤ b.exposure) then (b.markAll .spent).pots else b.pots } := by
  rw [acceptedRow, classifyRow_eq, lotOf_heldLot, heldLot_eq, Bool.and_true]
  rfl

theorem acceptedTray_eq (t : Tray) (s : State) :
    acceptedTray t s =
      { t with
        lot := if (lotOf s t.lot).isSome then t.lot else none
        urgency := (lotOf s t.lot).elim t.urgency (fun r => classOf r.allowance t.exposure)
        quarantine := (t.quarantine || (t.lot.isSome && (heldLot s t.lot).isNone)) ||
          (lotOf s t.lot).any (fun r => r.allowance ≤ t.exposure) } := by
  rw [acceptedTray, classifyTray_eq, lotOf_heldLot, heldLot_eq]

theorem acceptedRow_pots_length (p : RowPassFields) (s : State) : (acceptedRow (readRowPass p) s).pots.length = 8 := by
  simp [acceptedRow_eq, apply_ite List.length, RowBody.markAll, readRowPass_pots]

theorem slotAt_acceptedRow_pots (p : RowPassFields) (s : State) {k : Nat} (hk : k < 8) :
    slotAt (acceptedRow (readRowPass p) s).pots k =
      if (p.pots.getD k 0#16).getLsbD 15 then
        some { lidded := (p.pots.getD k 0#16).getLsbD 14
               reasons := (p.pots.getD k 0#16).setWidth 9 |||
                 (if (lotOf s (optId p.lot.toNat)).any (fun l => l.allowance ≤ p.exposure.toNat) then Reason.spent.mask
                  else 0#9) }
      else none := by
  rw [acceptedRow_eq]
  show slotAt (if (lotOf s (optId p.lot.toNat)).any (fun r => r.allowance ≤ p.exposure.toNat) then _ else _) k = _
  cases hlot : (lotOf s (optId p.lot.toNat)).any (fun r => r.allowance ≤ p.exposure.toNat)
  · simp only [Bool.false_eq_true, if_false]
    rw [slotAt_readRowPass_pots p hk, readPot]
    simp
  · simp only [if_true]
    rw [slotAt_markAll_pots, slotAt_readRowPass_pots p hk, readPot]
    split <;> rfl

/-- Settles O20: the checks in their order, and the entry an accepted pass makes. -/
theorem passesAcceptedOrDropped : Obligations.PassesAcceptedOrDropped := by
  constructor
  · intro src tgt p s ht known barred dropped
    have hexec : exec (.rowPass src tgt p) s = .next (takeRowPass src.toNat p s) :=
      congrArg _ (receive_taken ht (takeRowPass src.toNat p))
    rw [hexec, takeRowPass_eq]
    refine ⟨fun hb => congrArg _ (if_pos hb), fun hb hfull => ?_, fun hb hroom => ?_⟩
    · rw [if_neg (by exact ne_true_of_eq_false hb), if_pos hfull]
      rfl
    rw [if_neg (by exact ne_true_of_eq_false hb), if_neg (Nat.not_le.2 hroom)]
    refine ⟨acceptRow p.seq (readRowPass p) s, { body := acceptedRow (readRowPass p) s, seq := p.seq, since := s.nowMs },
      rfl, by rw [acceptRow_hnd], by rw [acceptRow_hnd], rfl, rfl, by rw [acceptedRow_eq]; rfl, by rw [acceptedRow_eq]; rfl,
      by rw [acceptedRow_eq]; rfl, by rw [acceptedRow_eq]; rfl, acceptedRow_pots_length p s,
      fun k hk => slotAt_acceptedRow_pots p s hk, by rw [acceptRow_hnd], settleFlow_room _, ?_, ?_, ?_, ?_⟩
    all_goals simp [acceptRow]
  · intro src tgt p s ht hrole known barred dropped unheld
    have htake : takeTrayFrame src.toNat p s = takeTrayPass src.toNat p s := by
      unfold takeTrayFrame
      simp [hrole]
    have hexec : exec (.trayPass src tgt p) s = .next (takeTrayPass src.toNat p s) :=
      congrArg _ ((receive_taken ht (takeTrayFrame src.toNat p)).trans htake)
    rw [hexec, takeTrayPass_eq]
    refine ⟨fun hb => congrArg _ (if_pos hb), fun hb hfull => ?_, fun hb hroom => ?_⟩
    · rw [if_neg (by exact ne_true_of_eq_false hb), if_pos hfull]
      rfl
    rw [if_neg (by exact ne_true_of_eq_false hb), if_neg (Nat.not_le.2 hroom)]
    refine ⟨acceptTray p.seq (readTrayPass p) s,
      { tray := acceptedTray (readTrayPass p) s, seq := p.seq, since := s.nowMs },
      rfl, by rw [acceptTray_hnd], by rw [acceptTray_hnd], rfl, rfl, by rw [acceptedTray_eq]; rfl, ?_,
      by rw [acceptedTray_eq]; rfl, by rw [acceptedTray_eq]; rfl, by rw [acceptedTray_eq]; rfl, fun hq => ?_,
      fun hlot hun => ?_, by rw [acceptTray_hnd], settleFlow_room _, ?_, ?_⟩
    · show (acceptedTray (readTrayPass p) s).lot = if (lotOf s (optId p.lot.toNat)).isNone then none else optId p.lot.toNat
      rw [acceptedTray_eq]
      show (if (lotOf s (optId p.lot.toNat)).isSome then optId p.lot.toNat else none) = _
      cases lotOf s (optId p.lot.toNat) <;> rfl
    · have hflag : (readTrayPass p).quarantine = true := hq
      show (acceptedTray (readTrayPass p) s).quarantine = true
      rw [acceptedTray_eq]
      simp [hflag]
    · have hnone : lotOf s (readTrayPass p).lot = none := Option.isNone_iff_eq_none.1 hun
      have hsome : (readTrayPass p).lot.isSome = true := by simp [readTrayPass, optId, hlot]
      show (acceptedTray (readTrayPass p) s).quarantine = true
      rw [acceptedTray_eq, heldLot_eq, hnone]
      simp [hsome]
    all_goals simp [acceptTray]

end Sys2Proof.Machine
end

section
/-! O21, O19, O31, O13: the transit limit, CREDITs, the probe, and the counts of the conveyor. -/

namespace Sys2Proof.Machine

/-! ### The drain close of TRAYER leaves the other blocks -/

@[simp] theorem closeOnDrain_stc (s : State) : (closeOnDrain s).stc = s.stc := by unfold closeOnDrain; split <;> simp
@[simp] theorem closeOnDrain_idx (s : State) : (closeOnDrain s).idx = s.idx := by unfold closeOnDrain; split <;> simp
@[simp] theorem closeOnDrain_hnd (s : State) : (closeOnDrain s).hnd = s.hnd := by unfold closeOnDrain; split <;> simp
@[simp] theorem closeOnDrain_lot (s : State) : (closeOnDrain s).lot = s.lot := by unfold closeOnDrain; split <;> simp
@[simp] theorem closeOnDrain_lid (s : State) : (closeOnDrain s).lid = s.lid := by unfold closeOnDrain; split <;> simp
@[simp] theorem closeOnDrain_lnk (s : State) : (closeOnDrain s).lnk = s.lnk := by unfold closeOnDrain; split <;> simp
@[simp] theorem closeOnDrain_nowMs (s : State) : (closeOnDrain s).nowMs = s.nowMs := by unfold closeOnDrain; split <;> simp

/-! ### The transit limit (R36) -/

theorem expireArrival_of_row {s : State} {e : RowEntry} {rest : List RowEntry} (hr : s.role.isRow = true)
    (h : s.hnd.rowArrivals = e :: rest) :
    expireArrival s =
      settleFlow (closeOnDrain (latch .missing (lotDepart e.body.lot (timeTo (e.since + s.transitMs)
        { s with hnd.rowArrivals := rest, hnd.missing := bump s.hnd.missing e.body.potCount })))) := by
  rw [expireArrival, if_pos hr, h]

theorem expireArrival_of_tray {s : State} {e : TrayEntry} {rest : List TrayEntry} (hr : s.role.isRow = false)
    (h : s.hnd.trayArrivals = e :: rest) :
    expireArrival s =
      settleFlow (latch .missing (lotDepart e.tray.lot (timeTo (e.since + s.transitMs)
        { s with hnd.trayArrivals := rest, hnd.missing := bump s.hnd.missing 1 }))) := by
  rw [expireArrival, if_neg (by simp [hr]), h]

/-- Settles O21: the oldest entry leaves, counted, and the flow is settled. -/
theorem transitLimitRemovesOldestEntry : Obligations.TransitLimitRemovesOldestEntry := by
  refine ⟨fun e rest s hrole h => ⟨_, rfl, ?_⟩, fun e rest s hrole h => ⟨_, rfl, ?_⟩⟩
  · have hrow : s.role.isRow = true := by obtain h | h := hrole <;> rw [h] <;> rfl
    rw [expireArrival_of_row hrow h]
    have hlatched : ∀ u : State, (settleFlow (closeOnDrain (latch .missing u))).latchedNotice .missing = true := fun u => by
      rw [latchedNotice_of_latched (s := latch .missing u) (by simp), latch_latchedNotice]
    refine ⟨?_, ?_, hlatched _, ?_, settleFlow_room _, ?_, ?_⟩
    · rw [settleFlow_hnd]
      simp
    · rw [settleFlow_hnd]
      simp [bump, countMax]
    · rw [settleFlow_hnd]
      simp
    all_goals simp
  · have hrow : s.role.isRow = false := by obtain h | h := hrole <;> rw [h] <;> rfl
    rw [expireArrival_of_tray hrow h]
    have hlatched : ∀ u : State, (settleFlow (latch .missing u)).latchedNotice .missing = true := fun u => by
      rw [latchedNotice_of_latched (s := latch .missing u) (by simp), latch_latchedNotice]
    refine ⟨?_, ?_, hlatched _, ?_, settleFlow_room _, ?_, ?_⟩
    · rw [settleFlow_hnd]
      simp
    · rw [settleFlow_hnd]
      simp [bump, countMax]
    · rw [settleFlow_hnd]
      simp
    all_goals simp

/-! ### CREDITs (R28, R29, R38) -/

/-- The next sequence and the resynchronisation after a CREDIT (R28). -/
theorem resyncOf_eq (everHeld : Bool) (next expected : BitVec 16) :
    resyncOf everHeld next expected =
      (if everHeld = false ∨ 9 ≤ (next - expected).toNat then expected else next,
        decide (everHeld = true ∧ 9 ≤ (next - expected).toNat)) := by
  unfold resyncOf
  generalize (next - expected).toNat = ahead
  cases everHeld with
  | false => rfl
  | true =>
    by_cases h : ahead ≤ 8
    · simp [h, Nat.not_le.2 (Nat.lt_succ_of_le h)]
    · have hfar : 9 ≤ ahead := Nat.not_le.1 h
      rw [if_neg h, if_pos (Or.inr hfar), decide_eq_true ⟨rfl, hfar⟩]
      rfl

theorem takeCredit_of_ne {source : Nat} {s : State} (h : source ≠ s.downstream) (limit : BitVec 16) (room : BitVec 8) :
    takeCredit source limit room s = s := if_pos h

theorem takeCredit_hnd {source : Nat} {s : State} (h : source = s.downstream) (limit : BitVec 16) (room : BitVec 8) :
    let expected := limit - BitVec.ofNat 16 room.toNat
    let far := 9 ≤ (s.hnd.nextSeq - expected).toNat
    (takeCredit source limit room s).hnd =
      { s.hnd with
        held := some { limit, since := s.nowMs }
        everHeld := true
        inLoss := false
        nextSeq := if s.hnd.everHeld = false ∨ far then expected else s.hnd.nextSeq
        resync := if s.hnd.everHeld = true ∧ far then bump s.hnd.resync 1 else s.hnd.resync
        room := (takeCredit source limit room s).hnd.room
        advertised := (takeCredit source limit room s).hnd.advertised
        refreshAt := (takeCredit source limit room s).hnd.refreshAt } := by
  intro expected far
  have hroom : room.setWidth 16 = BitVec.ofNat 16 room.toNat := (BitVec.ofNat_toNat 16 room).symm
  unfold takeCredit
  rw [if_neg (not_not.2 h), settleFlow_hnd, hroom, resyncOf_eq]
  simp only [decide_eq_true_iff]
  rfl

section Refresh

variable {s : State} (hin : s.role.hasIncoming = true) (hup : s.upstream ≠ 0) (hm : s.mode ≠ .starting)
include hin hup hm

theorem placeCredit_of :
    placeCredit s =
      { placeInCreditSlot (frameTo s.upstream (.credit (s.hnd.expected + BitVec.ofNat 16 s.hnd.room)
          (BitVec.ofNat 8 s.hnd.room))) s with
        hnd.advertised := s.hnd.expected + BitVec.ofNat 16 s.hnd.room, hnd.refreshAt := some (s.nowMs + s.refreshMs) } := by
  simp [placeCredit, hin, hup, hm]

end Refresh

theorem refreshCredit_of {s : State} {d : Nat} (h : s.hnd.refreshAt = some d) :
    refreshCredit s =
      placeCredit { timeTo d s with hnd.refreshAt := some ((timeTo d s).nowMs + s.refreshMs) } := by
  rw [refreshCredit, h]

theorem creditLapse_of {s : State} {l : HeldLimit} (h : s.hnd.held = some l) :
    creditLapse s =
      settleFlow
        (if s.hnd.inLoss then timeTo (l.since + s.creditExpiryMs) { s with hnd.held := none, hnd.inLoss := true }
        else latch .creditExpired (timeTo (l.since + s.creditExpiryMs) { s with hnd.held := none, hnd.inLoss := true })) := by
  rw [creditLapse, h]

/-- Settles O19: the fields a CREDIT sets, its lapse, and the CREDIT of the refresh period. -/
theorem creditTakenLapsedAndRefreshed : Obligations.CreditTakenLapsedAndRefreshed := by
  refine ⟨fun src tgt limit room s ht => ⟨fun hne => ?_, ?_⟩, fun l s h => ⟨_, rfl, ?_⟩,
    fun d s h hin hup hm => ⟨_, rfl, ?_⟩⟩
  · exact congrArg _ ((receive_taken ht _).trans (takeCredit_of_ne hne limit room))
  · intro heq expected far
    have hhnd := takeCredit_hnd heq limit room
    refine ⟨takeCredit src.toNat limit room s, congrArg _ (receive_taken ht _), ?_⟩
    have htake : takeCredit src.toNat limit room s = settleFlow _ := if_neg (not_not.2 heq)
    refine ⟨by rw [hhnd], by rw [hhnd], by rw [hhnd], by rw [hhnd], by rw [hhnd]; rfl, by rw [hhnd], ?_, ?_, ?_, ?_, ?_, ?_⟩
    · rw [htake, settleFlow_permit]
    all_goals
      rw [htake]
      simp
  · rw [creditLapse_of h]
    cases hloss : s.hnd.inLoss with
    | true =>
      simp only [if_true]
      refine ⟨?_, ?_, ?_, ?_, ?_, settleFlow_permit _, ?_, ?_, ?_⟩
      · rw [settleFlow_hnd]; simp
      · rw [settleFlow_hnd]; simp
      · rw [settleFlow_hnd]; simp
      · simp
      · simp [timeTo]
      all_goals simp
    | false =>
      simp only [Bool.false_eq_true, if_false]
      refine ⟨?_, ?_, ?_, ?_, ?_, settleFlow_permit _, ?_, ?_, ?_⟩
      · rw [settleFlow_hnd]; simp
      · rw [settleFlow_hnd]; simp
      · rw [settleFlow_hnd]; simp
      · simp
      · simp [timeTo]
      all_goals simp
  · rw [refreshCredit_of h, placeCredit_of (s := { timeTo d s with hnd.refreshAt := _ }) hin hup hm]
    exact ⟨rfl, rfl, rfl, rfl, rfl, rfl, rfl, rfl, rfl, rfl⟩

/-! ### The probe (R92 to R96) -/

/-- The conversion is the nearest integer, halves away from zero (R93). -/
theorem convertReading_nearest (w w0 g : Int) :
    2 * |convertReading w w0 g * 256 - (w - w0) * g| ≤ 256 ∧
      (2 * |convertReading w w0 g * 256 - (w - w0) * g| = 256 →
        |(w - w0) * g| < |convertReading w w0 g * 256|) := by
  unfold convertReading
  generalize (w - w0) * g = x
  simp only [abs_eq_max_neg]
  split <;> omega

/-- The increment in its three parts (R96). -/
theorem increment_parts {tref tk : Nat} (t10 : Int) (h : tref ≤ tk) :
    (t10 ≤ tref → increment tref tk t10 = 0) ∧
      (tref ≤ t10 → t10 ≤ tk → (increment tref tk t10 : Int) = t10 - tref) ∧
      (tk ≤ t10 → (increment tref tk t10 : Int) = (tk - tref) + 2 * (t10 - tk)) := by
  simp only [increment, if_neg (Nat.not_lt.2 h)]
  refine ⟨fun _ => ?_, fun _ _ => ?_, fun _ => ?_⟩ <;> omega

section BadReading

variable {s : State}

theorem badReading_of_ok (h : s.exp.probe = .ok) :
    badReading s =
      latch .probeFault { s with exp.invalid := bump s.exp.invalid 1, exp.probe := .degraded, exp.bad := 1 } := by
  rw [badReading, h]

theorem badReading_of_degraded (h : s.exp.probe = .degraded) (hb : s.exp.bad < 4) :
    badReading s = { s with exp.invalid := bump s.exp.invalid 1, exp.bad := s.exp.bad + 1 } := by
  rw [badReading, h]
  exact if_pos hb

theorem badReading_of_fourth (h : s.exp.probe = .degraded) (hb : 4 ≤ s.exp.bad) :
    badReading s =
      latch .probeFailed { s with exp.invalid := bump s.exp.invalid 1, exp.probe := .failed, exp.bad := 5 } := by
  rw [badReading, h]
  exact if_neg (Nat.not_lt.2 hb)

/-- A bad reading moves the probe state and its counts, and may latch a notice (R94). -/
theorem badReading_frame (s : State) :
    (badReading s).exp = { s.exp with
        invalid := bump s.exp.invalid 1, probe := (badReading s).exp.probe, bad := (badReading s).exp.bad } ∧
      (badReading s).idx = s.idx ∧ (badReading s).hnd = s.hnd ∧ (badReading s).tray = s.tray ∧
      (badReading s).lot = s.lot := by
  unfold badReading
  cases s.exp.probe with
  | ok => exact ⟨rfl, rfl, rfl, rfl, rfl⟩
  | degraded => simp only; split <;> exact ⟨rfl, rfl, rfl, rfl, rfl⟩
  | failed => simp only; (repeat' split) <;> exact ⟨rfl, rfl, rfl, rfl, rfl⟩

end BadReading

/-- What a reading leaves before the probe state moves (R92, R93). -/
def readingTaken (width : Nat) (s : State) : State :=
  restartMiss
    { s with
      exp.lastWidth := some (min 65535 width)
      exp.lastReading := some (.value (convertReading (min 65535 width : Nat) s.probeZero s.probeGain)
        (validT10 (convertReading (min 65535 width : Nat) s.probeZero s.probeGain))) }

theorem takeReading_of {s : State} (h : takesReadings s = true) (width : Nat) :
    takeReading width s =
      if validT10 (convertReading (min 65535 width : Nat) s.probeZero s.probeGain) then
        goodReading (convertReading (min 65535 width : Nat) s.probeZero s.probeGain) (readingTaken width s)
      else badReading (readingTaken width s) := by
  simp [takeReading, h, readingTaken]

/-- What a miss leaves before the probe state moves (R92). -/
def missTaken (d : Nat) (s : State) : State := restartMiss { timeTo d s with exp.lastReading := some .miss }

theorem takeMiss_of {s : State} {d : Nat} (h : takesReadings s = true) (hd : s.exp.missAt = some d) :
    takeMiss s = badReading (missTaken d s) := by
  rw [takeMiss, hd]
  exact if_pos h

/-- Settles O31: the readings and misses by what they leave of the probe, and the two formulas. -/
theorem probeReadingsAndIncrements : Obligations.ProbeReadingsAndIncrements := by
  refine ⟨⟨?_, fun d s hr hd => ?_⟩, convertReading_nearest, fun tref tk t10 h => increment_parts t10 h⟩
  · intro width s hr w t10
    refine ⟨takeReading width s, rfl, ?_⟩
    rw [takeReading_of hr]
    by_cases hv : validT10 t10 = true
    · rw [if_pos hv]
      exact ⟨rfl, rfl, rfl, fun _ => ⟨rfl, rfl, rfl, rfl, rfl⟩, fun hf => absurd hv (by simp [hf]), rfl, rfl, rfl, rfl⟩
    · rw [if_neg hv]
      obtain ⟨hexp, hidx, hhnd, htray, hlot⟩ := badReading_frame (readingTaken width s)
      rw [hexp, hidx, hhnd, htray, hlot]
      exact ⟨rfl, rfl, rfl, fun ht => absurd ht hv, fun _ => ⟨rfl, rfl⟩, rfl, rfl, rfl, rfl⟩
  · have htake : exec .miss s = .next (takeMiss s) := rfl
    rw [htake, takeMiss_of hr hd]
    obtain ⟨hexp, hidx, hhnd, htray, hlot⟩ := badReading_frame (missTaken d s)
    refine ⟨_, rfl, ?_, ?_, ?_, ?_, fun hp => ?_, fun hp hb => ?_, fun hp hb => ?_, hidx, hhnd, htray, hlot⟩
    · rw [hexp]; rfl
    · rw [hexp]; rfl
    · rw [hexp]; rfl
    · rw [hexp]; rfl
    · rw [badReading_of_ok (s := missTaken d s) hp]
      exact ⟨rfl, rfl, rfl⟩
    · rw [badReading_of_degraded (s := missTaken d s) hp hb]
      exact ⟨hp, rfl, rfl⟩
    · rw [badReading_of_fourth (s := missTaken d s) hp hb]
      exact ⟨rfl, rfl, rfl⟩

/-! ### The counts of the conveyor (R2 to R4) -/

theorem slotAt_mapIdx {α β : Type} (l : List (Option α)) (f : Nat → α → β) (k : Nat) :
    slotAt (l.mapIdx (fun p o => o.map (f p))) k = (slotAt l k).map (f k) := by
  simp only [slotAt, List.getElem?_mapIdx]
  cases l[k]? with
  | none => rfl
  | some o => rfl

/-- A row after a TRACK-FAULT (R4). -/
def trackedRow (gate p : Nat) (r : Row) : Row :=
  { r with body := { (if p < gate then r.body.markAll .uncertain else r.body) with uncertain := true } }

theorem slotAt_trackRows (gate p : Nat) (w : List (Option Row)) :
    slotAt (trackRows gate w) p = (slotAt w p).map (trackedRow gate p) := slotAt_mapIdx w (trackedRow gate) p

theorem trackedRow_body (gate p : Nat) (r : Row) :
    (trackedRow gate p r).body.uncertain = true ∧ (trackedRow gate p r).body.lot = r.body.lot ∧
      (trackedRow gate p r).body.pots =
        (if p < gate then r.body.pots.map (Option.map (fun x => x.mark .uncertain)) else r.body.pots) := by
  unfold trackedRow
  split <;> exact ⟨rfl, rfl, rfl⟩

section Counts

variable {s : State} (h : takesCounts s = true)
include h

theorem forwardStep_of_debt (presence bond : BitVec 8) (hd : 0 < s.idx.debt) :
    forwardStep presence bond s = { s with idx.debt := s.idx.debt - 1 } := by
  simp [forwardStep, h, hd]

theorem forwardStep_of_count (presence bond : BitVec 8) (hd : s.idx.debt = 0) (hc : s.idx.posCount + 1 < s.countsPerIndex) :
    forwardStep presence bond s = { s with idx.posCount := s.idx.posCount + 1 } := by
  simp [forwardStep, h, hd, hc]

theorem forwardStep_of_index (presence bond : BitVec 8) (hd : s.idx.debt = 0) (hc : s.countsPerIndex ≤ s.idx.posCount + 1) :
    forwardStep presence bond s = indexEvent presence bond { s with idx.posCount := 0 } := by
  simp [forwardStep, h, hd, Nat.not_lt.2 hc]

theorem reverseStep_of_lt (hd : s.idx.debt < s.countsPerIndex) :
    reverseStep s = { s with idx.debt := s.idx.debt + 1 } := by
  simp [reverseStep, h, hd]

theorem reverseStep_of_full (hd : s.countsPerIndex ≤ s.idx.debt) : reverseStep s = settleFlow (trackFault s) := by
  simp [reverseStep, h, Nat.not_lt.2 hd]

end Counts

theorem counts_discarded {s : State} (h : takesCounts s = false) (presence bond : BitVec 8) :
    forwardStep presence bond s = s ∧ reverseStep s = s := by
  simp [forwardStep, reverseStep, h]

theorem or_mask_of_hasCause {s : State} {c : Cause} (h : s.hasCause c = true) :
    s.stc.causes ||| c.mask = s.stc.causes := by
  unfold State.hasCause at h
  rw [decide_eq_true_iff] at h
  revert h
  generalize s.stc.causes = x
  revert x
  cases c <;> decide

/-- Every field of a TRACK-FAULT's state but the cause set, the notices and the mode (R4). -/
theorem trackFault_frame (s : State) :
    (trackFault s).idx = { s.idx with window := trackRows s.gatePos s.idx.window, debt := 0 } ∧
      (trackFault s).lot = s.lot ∧ (trackFault s).lid = s.lid ∧ (trackFault s).tray = s.tray := by
  unfold trackFault
  simp only
  split
  · exact ⟨rfl, rfl, rfl, rfl⟩
  · simp

theorem trackFault_causes (s : State) : (trackFault s).stc.causes = s.stc.causes ||| 0x02#8 := by
  unfold trackFault
  simp only
  split
  · next h => exact (or_mask_of_hasCause h).symm
  · simp [Cause.mask]

theorem trackFault_latched (s : State) :
    (trackFault s).stc.latched =
      if s.hasCause .track then s.stc.latched else s.stc.latched ||| Notice.trackFault.mask := by
  unfold trackFault
  simp only
  split
  · rfl
  · simp

theorem trackFault_mode (s : State) :
    (trackFault s).mode = if s.mode = .running ∧ s.hasCause .track = false then .held else s.mode := by
  unfold trackFault
  cases h : s.hasCause .track
  · simp only [Bool.false_eq_true, if_false, and_true]
    exact addCause_mode .track { s with idx.window := trackRows s.gatePos s.idx.window, idx.debt := 0 }
  · simp [State.mode]

theorem takesCounts_eq_false_iff (s : State) :
    takesCounts s = false ↔ s.role.isRow = false ∨ s.mode = .starting ∨ s.mode = .configuring := by
  unfold takesCounts
  cases s.role.isRow <;> cases s.mode <;> decide

/-- Settles O13: the counts that only count, and the TRACK-FAULT. -/
theorem encoderCountsAndTrackFault : Obligations.EncoderCountsAndTrackFault := by
  refine ⟨fun presence bond s => ⟨fun h => ⟨fun hd => ?_, fun hd hc => ?_, fun hd => ?_⟩, fun hno => ?_⟩, fun s h hd => ?_⟩
  · exact congrArg _ (forwardStep_of_debt h presence bond hd)
  · exact congrArg _ (forwardStep_of_count h presence bond hd hc)
  · exact congrArg _ (reverseStep_of_lt h hd)
  · obtain ⟨hf, hr⟩ := counts_discarded ((takesCounts_eq_false_iff s).2 hno) presence bond
    exact ⟨congrArg _ hf, congrArg _ hr⟩
  · obtain ⟨hidx, hlot, hlid, htray⟩ := trackFault_frame s
    have hmode : (settleFlow (trackFault s)).mode = (trackFault s).mode := by simp [State.mode]
    have hrow : ∀ p, (settleFlow (trackFault s)).rowAt p = (s.rowAt p).map (trackedRow s.gatePos p) := fun p => by
      simp only [State.rowAt, settleFlow_idx, hidx, slotAt_trackRows]
    refine ⟨_, congrArg Host.Outcome.next (reverseStep_of_full h hd), ?_⟩
    rw [settleFlow_idx, settleFlow_stc, hmode, settleFlow_lot, settleFlow_lid, settleFlow_tray, hidx]
    refine ⟨rfl, rfl, trackFault_causes s, trackFault_latched s, trackFault_mode s, settleFlow_permit _, fun p r hr => ?_,
      fun p hr => ?_, hlot, hlid, htray⟩
    · obtain ⟨hu, hl, hp⟩ := trackedRow_body s.gatePos p r
      exact ⟨trackedRow s.gatePos p r, by rw [hrow, hr]; rfl, rfl, hu, hl, hp⟩
    · rw [hrow, hr]
      rfl

end Sys2Proof.Machine
end

section
/-! O5, O7, O8: the load, START, and the commands that move the mode. -/

namespace Sys2Proof.Machine

/-! ### What serving and a change of mode leave -/

theorem serveEntry_frame (i : Nat) (s : State) : serveEntry i s = { s with adm := (serveEntry i s).adm } := by
  unfold serveEntry updateLane setAdmission
  split
  · rfl
  · split
    · rfl
    · split <;> rfl

theorem serveList_frame (l : List Nat) (s : State) : serveList l s = { s with adm := (serveList l s).adm } := by
  induction l generalizing s with
  | nil => rfl
  | cons i is ih =>
    unfold serveList
    split
    · rw [ih (serveEntry i s), serveEntry_frame i s]
    · rfl

theorem serve_frame (s : State) : serve s = { s with adm := (serve s).adm } := by
  unfold serve
  split
  · exact serveList_frame _ s
  · rfl

@[simp] theorem serve_stc (s : State) : (serve s).stc = s.stc := by rw [serve_frame]
@[simp] theorem serve_out (s : State) : (serve s).out = s.out := by rw [serve_frame]
@[simp] theorem serve_port (s : State) : (serve s).port = s.port := by rw [serve_frame]
@[simp] theorem serve_idx (s : State) : (serve s).idx = s.idx := by rw [serve_frame]
@[simp] theorem serve_hnd (s : State) : (serve s).hnd = s.hnd := by rw [serve_frame]
@[simp] theorem serve_lot (s : State) : (serve s).lot = s.lot := by rw [serve_frame]
@[simp] theorem serve_lid (s : State) : (serve s).lid = s.lid := by rw [serve_frame]
@[simp] theorem serve_tray (s : State) : (serve s).tray = s.tray := by rw [serve_frame]
@[simp] theorem serve_dsp (s : State) : (serve s).dsp = s.dsp := by rw [serve_frame]
@[simp] theorem serve_lnk (s : State) : (serve s).lnk = s.lnk := by rw [serve_frame]
@[simp] theorem serve_nowMs (s : State) : (serve s).nowMs = s.nowMs := by rw [serve_frame]

@[simp] theorem enterMode_peers (m : Mode) (s : State) : (enterMode m s).lnk.peers = s.lnk.peers := by simp [enterMode]

@[simp] theorem enterRunning_idx (s : State) : (enterRunning s).idx = s.idx := by simp [enterRunning]
@[simp] theorem enterRunning_hnd (s : State) : (enterRunning s).hnd = s.hnd := by simp [enterRunning]
@[simp] theorem enterRunning_lot (s : State) : (enterRunning s).lot = s.lot := by simp [enterRunning]
@[simp] theorem enterRunning_lid (s : State) : (enterRunning s).lid = s.lid := by simp [enterRunning]
@[simp] theorem enterRunning_tray (s : State) : (enterRunning s).tray = s.tray := by simp [enterRunning]
@[simp] theorem enterRunning_causes (s : State) : (enterRunning s).stc.causes = s.stc.causes := by simp [enterRunning]
@[simp] theorem enterRunning_mode (s : State) : (enterRunning s).stc.mode = .running := by simp [enterRunning]
@[simp] theorem enterRunning_peers (s : State) : (enterRunning s).lnk.peers = s.lnk.peers := by simp [enterRunning]
@[simp] theorem enterRunning_settings (s : State) : (enterRunning s).stc.settings = s.stc.settings := by simp [enterRunning]

@[simp] theorem enterByCauses_hnd (s : State) : (enterByCauses s).hnd = s.hnd := by unfold enterByCauses; split <;> simp
@[simp] theorem enterByCauses_lot (s : State) : (enterByCauses s).lot = s.lot := by unfold enterByCauses; split <;> simp
@[simp] theorem enterByCauses_causes (s : State) : (enterByCauses s).stc.causes = s.stc.causes := by
  unfold enterByCauses; split <;> simp
@[simp] theorem enterByCauses_peers (s : State) : (enterByCauses s).lnk.peers = s.lnk.peers := by
  unfold enterByCauses; split <;> simp
@[simp] theorem enterByCauses_settings (s : State) : (enterByCauses s).stc.settings = s.stc.settings := by
  unfold enterByCauses; split <;> simp

theorem enterByCauses_mode (s : State) :
    (enterByCauses s).stc.mode = if s.stc.causes = 0#8 then .running else .held := by
  unfold enterByCauses
  split <;> simp

/-! ### The flow outside RUNNING -/

theorem settleFlow_mode (s : State) : (settleFlow s).mode = s.mode := by simp [State.mode]

theorem roomOf_of_mode {s : State} (h : s.mode ≠ .running) : roomOf s = 0 := if_neg h

theorem settleFlow_room_of_mode {s : State} (h : s.mode ≠ .running) : (settleFlow s).hnd.room = 0 := by
  rw [settleFlow_room, roomOf_of_mode (by rwa [settleFlow_mode])]

theorem settleFlow_permit_of_mode {s : State} (h : s.mode ≠ .running) (h' : s.mode ≠ .draining) :
    (settleFlow s).out.runPermit = false := by
  rw [settleFlow_permit, permitOf, settleFlow_mode, permitMode]
  simp [h, h']

/-- Outside RUNNING the settling places no CREDIT (R38). -/
theorem settleFlow_hnd_of_mode {s : State} (h : s.mode ≠ .running) : (settleFlow s).hnd = { s.hnd with room := 0 } := by
  unfold settleFlow updateRoom
  rw [roomOf_of_mode h]
  rfl

/-! ### The load (R164) -/

section Load

variable (ws : List Half) (s : State)

theorem completeLoad_stc : (completeLoad ws s).stc =
    { (resum (if imageGood ws then takeImage ws s else takeDefaults s)).stc with mode := .configuring } := by
  simp [completeLoad, enterMode]

theorem completeLoad_workingSum :
    (completeLoad ws s).stc.workingSum =
      wordSum (storeWords (completeLoad ws s).stc.settings (completeLoad ws s).stc.products
        (completeLoad ws s).stc.transitions (completeLoad ws s).adm.lanes) := by
  have hsum := resum_workingSum (if imageGood ws then takeImage ws s else takeDefaults s)
  simpa only [completeLoad, enterMode_stc_workingSum, enterMode_stc_settings, enterMode_stc_products,
    enterMode_stc_transitions, enterMode_adm, updateAttention_stc, updateAttention_adm] using hsum

theorem completeLoad_hnd : (completeLoad ws s).hnd =
    { s.hnd with refreshAt := some (s.nowMs + (completeLoad ws s).refreshMs) } := by
  unfold completeLoad
  split
  · simp [resum, takeImage]
    rfl
  · simp [resum, takeDefaults]
    rfl

theorem completeLoad_adm : (completeLoad ws s).adm = (if imageGood ws then takeImage ws s else takeDefaults s).adm := by
  simp [completeLoad, resum]

theorem completeLoad_lot : (completeLoad ws s).lot = s.lot := by
  unfold completeLoad
  split <;> simp [resum, takeImage, takeDefaults]

theorem completeLoad_tray : (completeLoad ws s).tray = s.tray := by
  unfold completeLoad
  split <;> simp [resum, takeImage, takeDefaults]

theorem completeLoad_trc : (completeLoad ws s).trc = s.trc := by
  unfold completeLoad
  split <;> simp [resum, takeImage, takeDefaults]

theorem completeLoad_port : (completeLoad ws s).port = s.port := by
  unfold completeLoad
  split <;> simp [resum, takeImage, takeDefaults]

end Load

/-- Settles O5: the store the image gives, or the defaults; nothing of the flow runs in CONFIGURING. -/
theorem loadFillsStoreAndEntersConfiguring : Obligations.LoadFillsStoreAndEntersConfiguring := by
  refine ⟨?_, fun high low rest => ⟨rfl, rfl, rfl⟩⟩
  intro bytes s image
  refine ⟨fun hm => ?_, fun hm => ⟨_, exec_loadComplete_of_starting bytes hm, ?_⟩⟩
  · show Host.Outcome.next (if s.mode = .starting then _ else s) = _
    rw [if_neg hm]
  have hmode : (completeLoad image s).mode = .configuring := by rw [State.mode, completeLoad_stc]
  have hrun : (completeLoad image s).mode ≠ .running := by simp [hmode]
  have hdrain : (completeLoad image s).mode ≠ .draining := by simp [hmode]
  have hrefresh : (settleFlow (completeLoad image s)).refreshMs = (completeLoad image s).refreshMs := by
    simp [State.refreshMs, State.num, State.setting]
  refine ⟨(settleFlow_mode _).trans hmode, ?_, ?_, ?_, settleFlow_room_of_mode hrun, settleFlow_permit_of_mode hrun hdrain, ?_,
    ?_, ?_, ?_, ?_, ?_⟩
  · rw [settleFlow_stc, settleFlow_adm]
    exact completeLoad_workingSum image s
  · rw [settleFlow_exp]
    rfl
  · rw [settleFlow_hnd_of_mode hrun, completeLoad_hnd, hrefresh]
  · rw [settleFlow_stc, completeLoad_stc]
    split <;> simp [resum, takeImage, takeDefaults]
  · rw [settleFlow_lot, completeLoad_lot]
  · rw [settleFlow_tray, completeLoad_tray]
  · rw [settleFlow_trc, completeLoad_trc]
  · rw [settleFlow_port, completeLoad_port]
  · rw [settleFlow_stc, settleFlow_adm, completeLoad_stc, completeLoad_adm]
    split
    · exact ⟨rfl, rfl, rfl, rfl, rfl⟩
    · exact ⟨rfl, rfl, rfl, rfl, rfl⟩

/-! ### START (R166) -/

section Start

variable {s : State}

theorem startOwn_of_mode (h : s.mode ≠ .configuring) : startOwn s = refuse .badMode s := if_pos h

theorem startOwn_of_changed (h : s.mode = .configuring) (hc : storeChanged s = true) :
    startOwn s =
      { status := .checkFail, data := [], state := settleFlow (latch .settingsBad (enterFault .settings s)) } := by
  rw [startOwn, if_neg (not_not.2 h)]
  exact if_pos hc

theorem startOwn_of_store (h : s.mode = .configuring) (hc : storeChanged s = false) :
    startOwn s = accept (settleFlow (enterByCauses (settleStart s))) := by
  rw [startOwn, if_neg (not_not.2 h)]
  exact if_neg (by simp [hc])

theorem settleStart_stc (s : State) : (settleStart s).stc = { s.stc with settings := settledSettings s } := by
  rw [settleStart_eq, aimCredit_stc, dropCredit_stc]

/-- START leaves a CREDIT waiting for the neighbour settled alone, and no credit with neighbour 0 (R25). -/
theorem creditFits_settleStart (hm : s.mode = .configuring) : CreditFits (settleStart s) where
  held h := by
    have hsame : (settleStart s).stc = State.stc { s with stc.settings := settledSettings s } := settleStart_stc s
    have hdown : State.downstream { s with stc.settings := settledSettings s } = 0 := by
      refine (num_of_stc hsame 13).symm.trans (h.resolve_right fun hstart => ?_)
      rw [State.mode, settleStart_stc] at hstart
      exact absurd (hm.symm.trans hstart) (by decide)
    rw [settleStart_eq, aimCredit_hnd]
    exact dropCredit_held_eq_none _ hdown
  waiting f hf := by
    have hup : (settleStart s).upstream = (dropCredit { s with stc.settings := settledSettings s }).upstream := by
      unfold State.upstream
      exact num_of_stc (by rw [settleStart_eq, aimCredit_stc]) 12
    rw [settleStart_eq, aimCredit_creditSlot, ← hup] at hf
    split at hf
    · cases hf
    · next hne =>
      obtain ⟨g, -, rfl⟩ := Option.map_eq_some_iff.1 hf
      refine ⟨?_, hne, rfl⟩
      rw [State.mode, settleStart_stc]
      exact fun hstart => absurd (hm.symm.trans hstart) (by decide)

theorem creditFits_started (hm : s.mode = .configuring) (hlen : s.stc.settings.length = settingCount) :
    CreditFits (settleFlow (enterByCauses (settleStart s))) :=
  ((keeps_enterByCauses (A := anything) (s₀ := s) rfl rfl (settleStart s) fun _ => settled_settleStart hlen).trans
    (keeps_settleFlow rfl _)).credit (creditFits_settleStart hm)

end Start

/-- Settles O7: the check of the store, the settled settings, and the mode by the causes. -/
theorem startChecksStoreAndRuns : Obligations.StartChecksStoreAndRuns := by
  intro h s hp hm hlen
  refine ⟨fun hc => ⟨_, exec_answers rfl hp rfl rfl (startOwn_of_changed hm hc), ?_⟩,
    fun hc => ⟨_, exec_answers rfl hp rfl rfl (startOwn_of_store hm hc), ?_⟩⟩
  · have hlatched : (settleFlow (latch .settingsBad (enterFault .settings s))).stc.latched =
        (latch .settingsBad (latch .stationFault s)).stc.latched := by
      simp [enterFault]
    refine ⟨?_, ?_, ?_, ?_, ?_⟩
    · rw [settleFlow_mode]
      simp [State.mode, enterFault]
    · rw [settleFlow_stc]
      simp [enterFault]
    · rw [latchedNotice_of_latched hlatched, latch_latchedNotice]
    · rw [latchedNotice_of_latched hlatched]
      simp [State.latchedNotice, Notice.mask, Notice.bit]
    · rw [settleFlow_stc]
      simp [enterFault]
  · have hsetting (n : Nat) : (settleFlow (enterByCauses (settleStart s))).setting n = (settledSettings s).getD (n - 1) 0 := by
      rw [← settleStart_setting]
      simp [State.setting]
    have hcredit := (creditFits_started hm hlen).waiting
    refine ⟨?_, ?_, ?_, fun hr => ?_, fun hr => ?_, ?_, ?_, fun f hf => ?_, settleFlow_permit _, settleFlow_room _⟩
    · rw [settleFlow_mode, State.mode, enterByCauses_mode, settleStart_stc]
    · rw [settleFlow_stc, enterByCauses_causes, settleStart_stc]
    · rw [hsetting, settledSettings_position hlen (.inl rfl)]
      rfl
    · rw [hsetting, hsetting, settledSettings_position hlen (.inr (.inl rfl)),
        settledSettings_position hlen (.inr (.inr rfl))]
      simp [settledPositions, hr]
    · rw [hsetting, hsetting, hsetting, settledSettings_position hlen (.inl rfl),
        settledSettings_position hlen (.inr (.inl rfl)), settledSettings_position hlen (.inr (.inr rfl))]
      have horder := settledPositions_order (length := s.setting 6) (a := s.setting 9) (b := s.setting 10) (c := s.setting 11)
      have htop := settledPositions_top (lidder := true) (length := s.setting 6) (a := s.setting 9) (b := s.setting 10)
        (c := s.setting 11)
      rw [decide_eq_true hr]
      exact ⟨horder.1, horder.2, htop.2.2⟩
    · rw [hsetting, settledSettings_neighbour hlen (.inl rfl)]
      rfl
    · rw [hsetting, settledSettings_neighbour hlen (.inr rfl)]
      rfl
    · obtain ⟨-, hne, htarget⟩ := hcredit f hf
      exact ⟨htarget, hne⟩

/-! ### HOLD, RESUME and SANITISE (R167 to R170) -/

section Resume

/-- What RESUME leaves of the causes: HOLD, TRACK and BOND go, the reel causes where the reels are mended, LINK stays
(R168). -/
theorem clearCauses_causes (s : State) :
    (clearCauses s).stc.causes = if reelsMended s then s.stc.causes &&& 0xE0#8 else s.stc.causes &&& 0xEC#8 := by
  have hbits : ∀ x : BitVec 8,
      (x &&& ~~~0x02#8 &&& ~~~0x01#8 &&& ~~~0x10#8 = x &&& 0xEC#8) ∧
      (x &&& 0x10#8 = 0#8 → x &&& ~~~0x02#8 &&& ~~~0x01#8 = x &&& 0xEC#8) ∧
      (x &&& 0xEC#8 &&& ~~~0x08#8 &&& ~~~0x04#8 = x &&& 0xE0#8) := by decide
  obtain ⟨hbond, hnone, hreels⟩ := hbits s.stc.causes
  have hcleared : (if s.hasCause .bond then
      dropCause .bond { dropCause .hold (dropCause .track s) with lid.tripped := 0#8 }
      else dropCause .hold (dropCause .track s)).stc.causes = s.stc.causes &&& 0xEC#8 := by
    cases hb : s.hasCause .bond
    · exact hnone (not_not.1 (of_decide_eq_false hb))
    · exact hbond
  unfold clearCauses
  dsimp only
  split
  · rw [← hreels, ← hcleared]
    rfl
  · exact hcleared

theorem clearCauses_lid_eq (s : State) :
    (clearCauses s).lid = if s.hasCause .bond then { s.lid with tripped := 0#8 } else s.lid := by
  unfold clearCauses
  dsimp only
  split <;> split <;> rfl

theorem clearCauses_frame (s : State) :
    (clearCauses s).mode = s.mode ∧ (clearCauses s).idx = s.idx ∧ (clearCauses s).tray = s.tray := by
  rw [clearCauses_eq]
  exact ⟨rfl, rfl, rfl⟩

theorem clearCauses_eq_zero {x : BitVec 8} (mended : Bool) (hother : x &&& 0xE0#8 = 0#8)
    (hreels : x &&& 0x0C#8 = 0#8 ∨ mended = true) : (if mended then x &&& 0xE0#8 else x &&& 0xEC#8) = 0#8 := by
  have hbits : ∀ x : BitVec 8, x &&& 0xE0#8 = 0#8 → x &&& 0x0C#8 = 0#8 → x &&& 0xEC#8 = 0#8 := by decide
  cases mended with
  | true => exact hother
  | false => exact hbits x hother (hreels.resolve_right (by decide))

variable {s : State}

theorem resumeOwn_of_clear (hm : s.mode = .held) (hc : (clearCauses s).stc.causes = 0#8) :
    resumeOwn s = accept (settleFlow (enterRunning (clearCauses s))) := by
  simp [resumeOwn, hm, hc]

theorem resumeOwn_of_left (hm : s.mode = .held) (hc : (clearCauses s).stc.causes ≠ 0#8) :
    resumeOwn s = { status := .busy, data := [], state := clearCauses s } := by
  simp [resumeOwn, hm, hc]

theorem holdOwn_of_mode (hm : s.mode = .running ∨ s.mode = .held) : holdOwn s = accept (settleFlow (addCause .hold s)) := by
  obtain hm | hm := hm <;> simp [holdOwn, hm]

theorem holdOwn_of_other (hm : s.mode ≠ .running) (hm' : s.mode ≠ .held) : holdOwn s = refuse .badMode s := by
  simp [holdOwn, hm, hm']

theorem sanitiseOwn_of_mode (hm : s.mode = .running ∨ s.mode = .held) :
    sanitiseOwn s = accept (settleFlow (enterDraining s)) := by
  obtain hm | hm := hm <;> simp [sanitiseOwn, hm]

theorem sanitiseOwn_of_other (hm : s.mode ≠ .running) (hm' : s.mode ≠ .held) : sanitiseOwn s = refuse .badMode s := by
  simp [sanitiseOwn, hm, hm']

theorem endSanitiseOwn_of_mode (hm : s.mode = .sanitising) : endSanitiseOwn s = accept (endSanitiseSteps s) := if_pos hm

theorem endSanitiseOwn_of_other (hm : s.mode ≠ .sanitising) : endSanitiseOwn s = refuse .badMode s := if_neg hm

end Resume

/-- HOLD and RESUME in the modes that take them. -/
theorem hold_and_resume {h : CmdHead} {s : State} (hp : PortReady h 0 s) :
    (s.mode = .running ∨ s.mode = .held →
      ∃ t, exec (.hold h) s = .next (putResponse h.tag 0x04#8 .ok [] t) ∧ t.mode = .held ∧
        t.stc.causes = s.stc.causes ||| 0x01#8 ∧ t.out.runPermit = false ∧ t.hnd.room = 0 ∧ t.idx = s.idx ∧
        t.lot = s.lot ∧ t.lid = s.lid ∧ t.tray = s.tray ∧ t.dsp = s.dsp ∧ t.adm = s.adm) ∧
    (s.mode = .held → (clearCauses s).stc.causes = 0#8 →
      ∃ t, exec (.resume h) s = .next (putResponse h.tag 0x05#8 .ok [] t) ∧ t.mode = .running ∧ t.stc.causes = 0#8 ∧
        t.out.runPermit = permitOf t ∧ t.hnd.room = roomOf t ∧ t.idx = s.idx ∧
        t.lid = (if s.hasCause .bond then { s.lid with tripped := 0#8 } else s.lid)) := by
  refine ⟨fun hm => ⟨_, exec_answers rfl hp rfl rfl (holdOwn_of_mode hm), ?_⟩,
    fun hm hc => ⟨_, exec_answers rfl hp rfl rfl (resumeOwn_of_clear hm hc), ?_⟩⟩
  · have hheld : (addCause .hold s).mode = .held := by
      rw [State.mode, addCause_mode]
      obtain hm | hm := hm
      · exact if_pos hm
      · exact (if_neg (by rw [show s.stc.mode = .held from hm]; decide)).trans hm
    refine ⟨(settleFlow_mode _).trans hheld, ?_, settleFlow_permit_of_mode (by simp [hheld]) (by simp [hheld]),
      settleFlow_room_of_mode (by simp [hheld]), ?_, ?_, ?_, ?_, ?_, ?_⟩
    · simp [Cause.mask]
    all_goals simp
  · obtain ⟨-, hidx, -⟩ := clearCauses_frame s
    refine ⟨?_, ?_, settleFlow_permit _, settleFlow_room _, ?_, ?_⟩
    · rw [settleFlow_mode, State.mode, enterRunning_mode]
    · rw [settleFlow_stc, enterRunning_causes, hc]
    · rw [settleFlow_idx, enterRunning_idx, hidx]
    · rw [settleFlow_lid, enterRunning_lid, clearCauses_lid_eq]

/-- RESUME with a cause left is BUSY. -/
theorem resume_busy {h : CmdHead} {s : State} (hp : PortReady h 0 s) (hm : s.mode = .held)
    (hc : (clearCauses s).stc.causes ≠ 0#8) :
    exec (.resume h) s = .next (putResponse h.tag 0x05#8 .busy [] (clearCauses s)) :=
  exec_answers rfl hp rfl rfl (resumeOwn_of_left hm hc)

/-! ### Draining and sanitation (R169, R170) -/

theorem enterDraining_stc (s : State) :
    (enterDraining s).stc = { s.stc with drainAt := some (s.nowMs + s.drainMs), mode := .draining } := by
  unfold enterDraining
  dsimp only
  split <;> simp [enterMode, removePending]

theorem enterDraining_openIdx {s : State} (hr : s.role = .filler) : (enterDraining s).lot.openIdx = none := by
  unfold enterDraining
  rw [hr]
  exact closeOpenLot_openIdx _

theorem enterSanitising_stc (s : State) : (enterSanitising s).stc = { s.stc with drainAt := none, mode := .sanitising } := by
  unfold enterSanitising
  dsimp only
  split <;> simp [enterMode]

/-- What the entry to SANITISING clears, by the role (R20, R74, R147, R169). -/
theorem enterSanitising_clears (s : State) :
    (s.role.isRow = true → (enterSanitising s).idx.posCount = 0 ∧ (enterSanitising s).idx.debt = 0) ∧
      (s.role = .lidder → (enterSanitising s).lid.tripped = 0#8 ∧ (enterSanitising s).lid.fails = List.replicate 8 0) ∧
      (s.role = .chamber → (enterSanitising s).adm.manifests = List.replicate 32 none ∧ (enterSanitising s).adm.notes = []) := by
  unfold enterSanitising
  cases hr : s.role with
  | filler => exact ⟨fun _ => ⟨rfl, rfl⟩, fun h => (by cases h), fun h => (by cases h)⟩
  | lidder => exact ⟨fun _ => ⟨rfl, rfl⟩, fun _ => ⟨rfl, rfl⟩, fun h => (by cases h)⟩
  | trayer => exact ⟨fun _ => ⟨rfl, rfl⟩, fun h => (by cases h), fun h => (by cases h)⟩
  | chill => exact ⟨fun h => (by cases h), fun h => (by cases h), fun h => (by cases h)⟩
  | dispatch => exact ⟨fun h => (by cases h), fun h => (by cases h), fun h => (by cases h)⟩
  | chamber => exact ⟨fun h => (by cases h), fun h => (by cases h), fun _ => ⟨rfl, rfl⟩⟩

@[simp] theorem enterSanitising_lot (s : State) : (enterSanitising s).lot = s.lot := by
  unfold enterSanitising
  dsimp only
  split <;> simp

/-- The state END-SANITISE leaves before the mode changes (R170). -/
def sanitiseEnded (s : State) : State :=
  sanitiseTables (if s.role = .filler then { s with lot.sanitised := true } else s)

theorem endSanitiseSteps_eq (s : State) : endSanitiseSteps s = settleFlow (enterByCauses (sanitiseEnded s)) := rfl

theorem sanitiseEnded_stc (s : State) : (sanitiseEnded s).stc = s.stc := by
  rw [sanitiseEnded, sanitiseTables_stc]
  split <;> rfl

theorem sanitiseEnded_hnd (s : State) : (sanitiseEnded s).hnd = s.hnd := by
  unfold sanitiseEnded sanitiseTables
  split <;> (repeat' split) <;> rfl

theorem sanitiseEnded_sanitised (s : State) :
    (sanitiseEnded s).lot.sanitised = (s.lot.sanitised || decide (s.role = .filler)) := by
  unfold sanitiseEnded sanitiseTables
  by_cases hr : s.role = .filler
  · simp only [hr, if_true]
    split
    · split <;> simp [forgetPeers]
    · simp
  · simp only [hr, if_false]
    split
    · split <;> simp [forgetPeers]
    · simp

theorem sanitiseEnded_cleared {s : State} (hc : s.sanitiseClears = true) :
    (s.role ≠ .chamber → (sanitiseEnded s).lot.table = List.replicate 16 none ∧ (sanitiseEnded s).lot.openIdx = none) ∧
      (sanitiseEnded s).lnk.peers = List.replicate 30 { mode := none, since := none } := by
  have hstc : (if s.role = .filler then { s with lot.sanitised := true } else s).stc = s.stc := by split <;> rfl
  have hclears : (if s.role = .filler then { s with lot.sanitised := true } else s).sanitiseClears = true :=
    (congrArg (fun n => decide (n = 1)) (num_of_stc hstc 5)).trans hc
  have hrole : (if s.role = .filler then { s with lot.sanitised := true } else s).role = s.role := role_of_stc hstc
  unfold sanitiseEnded sanitiseTables
  rw [if_pos hclears, hrole]
  refine ⟨fun hr => ?_, ?_⟩
  · rw [if_pos ((holdsLots_iff _).2 hr)]
    exact ⟨rfl, rfl⟩
  · split <;> rfl

/-- Settles O8: each command by its own rule, with what the change of mode leaves. -/
theorem modeCommandsMoveStation : Obligations.ModeCommandsMoveStation := by
  refine ⟨⟨fun h s hp hm => (hold_and_resume hp).1 hm, fun h s hp hm hother hreels => ?_,
    fun h s hp hm hreels hmended => ?_, fun h s hp hm hlink => ?_⟩, fun h s hp => ?_,
    fun h s hp hm => ?_, fun s hm hempty => ?_, fun h s hp hm => ?_⟩
  · refine (hold_and_resume hp).2 hm ?_
    rw [clearCauses_causes]
    exact clearCauses_eq_zero _ hother hreels
  · have hcauses : (clearCauses s).stc.causes = s.stc.causes &&& 0xEC#8 := by
      rw [clearCauses_causes, hmended]
      rfl
    have hbits : ∀ x : BitVec 8, x &&& 0x0C#8 ≠ 0#8 → x &&& 0xEC#8 ≠ 0#8 := by decide
    obtain ⟨hmode, hidx, -⟩ := clearCauses_frame s
    exact ⟨_, resume_busy hp hm (by rw [hcauses]; exact hbits _ hreels), hmode.trans hm, hcauses, hidx⟩
  · have hbits : ∀ x : BitVec 8, x &&& 0x20#8 = 0x20#8 → ∀ b : Bool,
        (if b then x &&& 0xE0#8 else x &&& 0xEC#8) ≠ 0#8 ∧
          (if b then x &&& 0xE0#8 else x &&& 0xEC#8) &&& 0x23#8 = 0x20#8 := by decide
    obtain ⟨hleft, hkept⟩ := hbits _ hlink (reelsMended s)
    rw [← clearCauses_causes] at hleft hkept
    obtain ⟨hmode, hidx, -⟩ := clearCauses_frame s
    exact ⟨_, resume_busy hp hm hleft, hmode.trans hm, hkept, hidx⟩
  · refine ⟨fun hm => exec_answers rfl hp rfl rfl (startOwn_of_mode hm),
      fun hm hm' => ⟨exec_answers rfl hp rfl rfl (holdOwn_of_other hm hm'),
        exec_answers rfl hp rfl rfl (sanitiseOwn_of_other hm hm')⟩,
      fun hm => exec_answers rfl hp rfl rfl (own := resumeOwn) ?_, fun hm => exec_answers rfl hp rfl rfl (own := resumeOwn) ?_,
      fun hm => ⟨clearCauses s, exec_answers rfl hp rfl rfl (own := resumeOwn) ?_, ?_⟩,
      fun hm => exec_answers rfl hp rfl rfl (endSanitiseOwn_of_other hm)⟩
    · obtain hm | hm := hm <;> rw [resumeOwn, hm] <;> rfl
    · rw [resumeOwn, hm]
      rfl
    · obtain hm | hm := hm <;> rw [resumeOwn, hm] <;> rfl
    · have hbits : ∀ (x : BitVec 8) (b : Bool),
          (if b then x &&& 0xE0#8 else x &&& 0xEC#8) &&& 0xD3#8 = x &&& 0xC0#8 := by decide
      obtain ⟨hmode, hidx, htray⟩ := clearCauses_frame s
      exact ⟨hmode, by rw [clearCauses_causes]; exact hbits _ _, hidx, htray⟩
  · have hmode : (enterDraining s).mode = .draining := by rw [State.mode, enterDraining_stc]
    refine ⟨_, exec_answers rfl hp rfl rfl (sanitiseOwn_of_mode hm), (settleFlow_mode _).trans hmode, ?_, ?_,
      settleFlow_room_of_mode (by simp [hmode]), fun hr => ?_⟩
    · rw [settleFlow_stc, enterDraining_stc]
    · rw [settleFlow_stc, enterDraining_stc]
    · rw [settleFlow_lot, enterDraining_openIdx hr]
  · have hends : drainEnds s = settleFlow (enterSanitising s) := by simp [drainEnds, hm, hempty]
    obtain ⟨hrow, hlidder, hchamber⟩ := enterSanitising_clears s
    refine ⟨_, congrArg Host.Outcome.next hends, ?_, ?_, ?_, ?_, ?_, ?_⟩
    · rw [settleFlow_mode, State.mode, enterSanitising_stc]
    · rw [settleFlow_stc, enterSanitising_stc]
    · rwa [settleFlow_idx]
    · rwa [settleFlow_lid]
    · rwa [settleFlow_adm]
    · rw [settleFlow_lot, enterSanitising_lot]
  · refine ⟨_, exec_answers rfl hp rfl rfl (endSanitiseOwn_of_mode hm), ?_⟩
    rw [endSanitiseSteps_eq, settleFlow_mode, settleFlow_stc, settleFlow_lot, settleFlow_peers, enterByCauses_causes,
      enterByCauses_lot, enterByCauses_peers, settleFlow_hnd, enterByCauses_hnd, sanitiseEnded_stc, sanitiseEnded_hnd]
    refine ⟨?_, rfl, sanitiseEnded_sanitised s, fun hc hr => (sanitiseEnded_cleared hc).1 hr,
      fun hc => (sanitiseEnded_cleared hc).2, rfl, rfl⟩
    rw [State.mode, enterByCauses_mode, sanitiseEnded_stc]

end Sys2Proof.Machine
end

section
/-! The write-offs of the drain timeout: counts that rise by a list of amounts, the rows, entries and trays (R20, R39, R80). -/

namespace Sys2Proof.Machine

/-! ### Lists of optional entries -/

theorem heldCount_eq {α : Type} (l : List (Option α)) : heldCount l = (l.filterMap id).length := by
  unfold heldCount
  induction l with
  | nil => rfl
  | cons o rest ih => cases o <;> simp [ih]

theorem map_slotAt_range {α : Type} (l : List (Option α)) : (List.range l.length).map (slotAt l) = l := by
  apply List.ext_getElem
  · simp
  · intro i h1 h2
    simp [getElem_eq_slotAt h2]

/-- The entries of a table in its order are those at its places in turn. -/
theorem filterMap_slotAt_range {α : Type} (l : List (Option α)) :
    (List.range l.length).filterMap (slotAt l) = l.filterMap id := by
  conv_rhs => rw [← map_slotAt_range l]
  rw [List.filterMap_map]
  rfl

theorem length_filter_any {α : Type} (l : List (Option α)) (p : α → Bool) :
    (l.filter (fun o => o.any p)).length = ((l.filterMap id).filter p).length := by
  induction l with
  | nil => rfl
  | cons o rest ih =>
    cases o with
    | none => simpa using ih
    | some x => cases h : p x <;> simp [h, ih]

theorem any_eq_true_iff_slotAt {α : Type} (l : List (Option α)) (p : α → Bool) :
    l.any (fun o => o.any p) = true ↔ ∃ i x, slotAt l i = some x ∧ p x = true := by
  rw [List.any_eq_true]
  constructor
  · rintro ⟨o, ho, hp⟩
    obtain ⟨x, rfl, hx⟩ := (Option.any_eq_true _ _).1 hp
    obtain ⟨i, hi, heq⟩ := List.mem_iff_getElem.1 ho
    exact ⟨i, x, by rw [← getElem_eq_slotAt hi, heq], hx⟩
  · rintro ⟨i, x, hi, hx⟩
    exact ⟨some x, mem_of_slotAt hi, by simpa using hx⟩

theorem heldCount_eq_zero_iff {α : Type} (l : List (Option α)) : heldCount l = 0 ↔ ∀ i, slotAt l i = none := by
  rw [heldCount, List.length_eq_zero_iff, List.filter_eq_nil_iff]
  constructor
  · intro h i
    cases hi : slotAt l i with
    | none => rfl
    | some x => exact absurd rfl (h _ (mem_of_slotAt hi))
  · intro h o ho hsome
    obtain ⟨x, rfl⟩ := Option.isSome_iff_exists.1 hsome
    obtain ⟨i, hi, heq⟩ := List.mem_iff_getElem.1 ho
    have := (getElem_eq_slotAt hi).symm.trans heq
    rw [h i] at this
    cases this

/-! ### A count that rises by each of a list of amounts -/

/-- The count after a list of rises: each is held at the top of the count's range (0.5.1). -/
def bumped (count : Nat) (amounts : List Nat) : Nat :=
  if amounts = [] then count else min 4294967295 (count + amounts.sum)

theorem bumped_nil (count : Nat) : bumped count [] = count := rfl

theorem bumped_bump (count amount : Nat) (rest : List Nat) : bumped (bump count amount) rest = bumped count (amount :: rest) := by
  unfold bumped bump countMax
  cases rest with
  | nil => simp
  | cons a l => simp only [List.cons_ne_nil, if_false, List.sum_cons]; omega

theorem bumped_ones {α : Type} (count : Nat) (l : List α) :
    bumped count (l.map (fun _ => 1)) = if l.length = 0 then count else min 4294967295 (count + l.length) := by
  unfold bumped
  cases l with
  | nil => rfl
  | cons a l => simp [Nat.add_comm]

/-! ### Rows, entries and trays written off (R20, R39, R80) -/

theorem writeOffRows_frame (l : List (Option Row)) (s : State) :
    writeOffRows l s = { s with idx := (writeOffRows l s).idx, lot := (writeOffRows l s).lot } := by
  induction l generalizing s with
  | nil => rfl
  | cons o rest ih =>
    cases o with
    | none => exact ih s
    | some r =>
      have hdepart : lotDepart r.body.lot s = { s with lot := (lotDepart r.body.lot s).lot } := by
        cases r.body.lot <;> rfl
      rw [writeOffRows, ih, hdepart]

theorem writeOffRows_idx (l : List (Option Row)) (s : State) :
    (writeOffRows l s).idx =
      { s.idx with window := [], lost := bumped s.idx.lost ((l.filterMap id).map (fun r => r.body.potCount)) } := by
  induction l generalizing s with
  | nil => rfl
  | cons o rest ih =>
    cases o with
    | none => exact ih s
    | some r => simp [writeOffRows, ih, bumped_bump]

theorem removeRowEntries_frame (l : List RowEntry) (s : State) :
    removeRowEntries l s = { s with hnd := (removeRowEntries l s).hnd, lot := (removeRowEntries l s).lot } := by
  induction l generalizing s with
  | nil => rfl
  | cons e rest ih =>
    have hdepart : lotDepart e.body.lot s = { s with lot := (lotDepart e.body.lot s).lot } := by
      cases e.body.lot <;> rfl
    rw [removeRowEntries, ih, hdepart]

theorem removeRowEntries_hnd (l : List RowEntry) (s : State) :
    (removeRowEntries l s).hnd =
      { s.hnd with rowArrivals := [], missing := bumped s.hnd.missing (l.map (fun e => e.body.potCount)) } := by
  induction l generalizing s with
  | nil => rfl
  | cons e rest ih => simp [removeRowEntries, ih, bumped_bump]

theorem removeTrayEntries_frame (l : List TrayEntry) (s : State) :
    removeTrayEntries l s = { s with hnd := (removeTrayEntries l s).hnd, lot := (removeTrayEntries l s).lot } := by
  induction l generalizing s with
  | nil => rfl
  | cons e rest ih =>
    have hdepart : lotDepart e.tray.lot s = { s with lot := (lotDepart e.tray.lot s).lot } := by
      cases e.tray.lot <;> rfl
    rw [removeTrayEntries, ih, hdepart]

theorem removeTrayEntries_hnd (l : List TrayEntry) (s : State) :
    (removeTrayEntries l s).hnd =
      { s.hnd with trayArrivals := [], missing := bumped s.hnd.missing (l.map (fun _ => 1)) } := by
  induction l generalizing s with
  | nil => rfl
  | cons e rest ih => simp [removeTrayEntries, ih, bumped_bump]

theorem writeOffTrays_frame (l : List Tray) (s : State) :
    writeOffTrays l s = { s with tray := (writeOffTrays l s).tray, lot := (writeOffTrays l s).lot } := by
  induction l generalizing s with
  | nil => rfl
  | cons t rest ih =>
    have hdepart : lotDepart t.lot s = { s with lot := (lotDepart t.lot s).lot } := by
      cases t.lot <;> rfl
    rw [writeOffTrays, ih, hdepart]

theorem writeOffTrays_tray (l : List Tray) (s : State) :
    (writeOffTrays l s).tray = { s.tray with lost := bumped s.tray.lost (l.map (fun _ => 1)) } := by
  induction l generalizing s with
  | nil => rfl
  | cons t rest ih => simp [writeOffTrays, ih, bumped_bump]

end Sys2Proof.Machine
end

section
/-! The order entries, the request slots and the cells: what unassigning and the write-off of cells leave (R88, R113, R125). -/

namespace Sys2Proof.Machine

/-! ### Order entries (R109, R113) -/

theorem updateEntry_slots (i : Nat) (f : OrderEntry → OrderEntry) (s : State) :
    (updateEntry i f s).dsp.slots = s.dsp.slots := setActive_slots _ s

/-- An entry of the ACTIVE bank after a change of one of them. -/
theorem slotAt_activeBank_updateEntry (i k : Nat) (f : OrderEntry → OrderEntry) (s : State) :
    slotAt (activeBank (updateEntry i f s)) k =
      if k = i then (slotAt (activeBank s) k).map f else slotAt (activeBank s) k := by
  rw [updateEntry, activeBank_setActive, slotAt_modifyAt_map]

/-- A tray's entry is found by the orders of the ACTIVE bank alone. -/
theorem entryIndex_of_orders {s t : State}
    (h : (activeBank t).map (Option.map OrderEntry.order) = (activeBank s).map (Option.map OrderEntry.order))
    (o : Option Nat) : entryIndex t o = entryIndex s o := by
  have hfind (b : List (Option OrderEntry)) (id : Nat) :
      b.findIdx? (fun e => e.any (fun r => r.order = id)) =
        (b.map (Option.map OrderEntry.order)).findIdx? (fun e => e.any (fun n => n = id)) := by
    rw [List.findIdx?_map]
    congr 1
    funext e
    cases e <;> rfl
  cases o with
  | none => rfl
  | some id => simp only [entryIndex, Option.bind_some, hfind, h]

theorem map_order_modifyAt {b : List (Option OrderEntry)} {i : Nat} {f : OrderEntry → OrderEntry}
    (hf : ∀ e, (f e).order = e.order) :
    (modifyAt b i (Option.map f)).map (Option.map OrderEntry.order) = b.map (Option.map OrderEntry.order) := by
  induction b generalizing i with
  | nil => rfl
  | cons o rest ih =>
    cases i with
    | zero => cases o <;> simp [modifyAt, hf]
    | succ i => simp [modifyAt, ih]

theorem entryIndex_updateEntry {i : Nat} {f : OrderEntry → OrderEntry} (hf : ∀ e, (f e).order = e.order) (s : State)
    (o : Option Nat) : entryIndex (updateEntry i f s) o = entryIndex s o :=
  entryIndex_of_orders (by rw [updateEntry, activeBank_setActive, map_order_modifyAt hf]) o

theorem entryIndex_unassign (o p : Option Nat) (s : State) : entryIndex (unassign o s) p = entryIndex s p := by
  unfold unassign
  split
  · rfl
  · exact entryIndex_updateEntry (f := fun e => e.unassign s.stc.clock) (fun _ => rfl) s p

theorem unassign_of_entry {o : Option Nat} {s : State} {j : Nat} (h : entryIndex s o = some j) :
    unassign o s = updateEntry j (fun e => e.unassign s.stc.clock) s := by
  rw [unassign, h]

theorem unassign_of_none {o : Option Nat} {s : State} (h : entryIndex s o = none) : unassign o s = s := by
  rw [unassign, h]

theorem slotAt_activeBank_unassign (o : Option Nat) (j : Nat) (s : State) :
    slotAt (activeBank (unassign o s)) j =
      if entryIndex s o = some j then (slotAt (activeBank s) j).map (fun e => e.unassign s.stc.clock)
      else slotAt (activeBank s) j := by
  cases h : entryIndex s o with
  | none => rw [unassign_of_none h, if_neg (by simp)]
  | some i =>
    rw [unassign_of_entry h, slotAt_activeBank_updateEntry]
    by_cases hij : j = i
    · simp [hij]
    · rw [if_neg hij, if_neg (fun hs => hij (Option.some.inj hs).symm)]

/-! ### Request slots (R115) -/

theorem slot_setSlot (j k : Nat) (o : Option Slot) (s : State) (hj : j < s.dsp.slots.length) :
    (setSlot j o s).slot k = if k = j then o else s.slot k := by
  unfold State.slot setSlot
  split
  · next h => rw [h, slotAt_set_same hj]
  · next h => exact slotAt_set_of_ne h o

theorem slot_setSlot_none (j k : Nat) (s : State) : (setSlot j none s).slot k = if k = j then none else s.slot k := by
  unfold State.slot setSlot
  split
  · next h => rw [h, slotAt_set_none]
  · next h => exact slotAt_set_of_ne h none

/-- The slot of a cell's series, and that it is the first. -/
theorem slotOfCell_eq_some {s : State} {i j : Nat} (h : slotOfCell s i = some j) :
    ∃ x, s.slot j = some x ∧ x.cell = i := by
  obtain ⟨hj, hp, -⟩ := List.findIdx?_eq_some_iff_getElem.1 h
  rw [getElem_eq_slotAt hj, Option.any_eq_true] at hp
  obtain ⟨x, hx, hcell⟩ := hp
  exact ⟨x, hx, of_decide_eq_true hcell⟩

theorem slotOfCell_eq_none {s : State} {i : Nat} (h : slotOfCell s i = none) {j : Nat} {x : Slot} (hx : s.slot j = some x) :
    x.cell ≠ i := by
  have hmem := List.findIdx?_eq_none_iff.1 h (some x) (mem_of_slotAt hx)
  simpa using hmem

theorem slotOfCell_of_slots {s t : State} (h : t.dsp.slots = s.dsp.slots) (i : Nat) : slotOfCell t i = slotOfCell s i := by
  unfold slotOfCell
  rw [h]

/-! ### The write-off of a cell (R88, R125) -/

/-- The slot of a cell's series becomes IDLE. -/
def idleSlot (i : Nat) (s : State) : State := (slotOfCell s i).elim s (fun j => setSlot j none s)

theorem idleSlot_frame (i : Nat) (s : State) :
    idleSlot i s = { s with dsp := (idleSlot i s).dsp } ∧ activeBank (idleSlot i s) = activeBank s := by
  unfold idleSlot
  cases slotOfCell s i with
  | none => exact ⟨rfl, rfl⟩
  | some j => exact ⟨rfl, rfl⟩

/-- What the write-off of a tray in a cell leaves: its entry has one tray fewer, its slot is IDLE and its cell empty. -/
theorem writeOffCell_parts {i : Nat} {c : Cell} {s : State} (h : s.cellAt i = some c) :
    (writeOffCell i c s).tray = { s.tray with cells := s.tray.cells.set i none, lost := bump s.tray.lost 1 } ∧
      (writeOffCell i c s).dsp = (idleSlot i (unassign c.tray.order s)).dsp ∧ (writeOffCell i c s).hnd = s.hnd ∧
      (writeOffCell i c s).stc = s.stc ∧ (writeOffCell i c s).nowMs = s.nowMs := by
  have hidle : (match slotOfCell (unassign c.tray.order s) i with
      | none => unassign c.tray.order s
      | some j => setSlot j none (unassign c.tray.order s)) = idleSlot i (unassign c.tray.order s) := by
    unfold idleSlot
    cases slotOfCell (unassign c.tray.order s) i <;> rfl
  obtain ⟨hframe, -⟩ := idleSlot_frame i (unassign c.tray.order s)
  have htray : (idleSlot i (unassign c.tray.order s)).tray = s.tray := by rw [hframe, unassign_tray]
  have hcell : (idleSlot i (unassign c.tray.order s)).cellAt i = some c := by rw [cellAt_of_tray htray, h]
  have hempty : writeOffCell i c s =
      { emptyCell i (idleSlot i (unassign c.tray.order s)) with
        tray.lost := bump (emptyCell i (idleSlot i (unassign c.tray.order s))).tray.lost 1 } := by
    rw [← hidle]
    rfl
  rw [hempty, emptyCell_eq hcell]
  refine ⟨?_, ?_, ?_, ?_, ?_⟩
  · simp [htray]
  · simp
  · simp only [lotDepart_hnd]
    rw [hframe, unassign_hnd]
  · simp only [lotDepart_stc]
    rw [hframe, unassign_stc]
  · simp only [lotDepart_nowMs]
    rw [hframe, unassign_nowMs]

/-- The cell's tray is not RELEASING, so that the drain timeout writes it off (R88). -/
def Cell.leaves (c : Cell) : Bool := decide (c.tray.dstate ≠ .releasing)

/-- What the drain timeout does with one cell. -/
def writeOffAt (i : Nat) (s : State) : State :=
  (s.cellAt i).elim s (fun c => if c.tray.dstate = .releasing then s else writeOffCell i c s)

theorem writeOffCells_cons (i : Nat) (is : List Nat) (s : State) :
    writeOffCells (i :: is) s = writeOffCells is (writeOffAt i s) := by
  rw [writeOffCells, writeOffAt]
  cases s.cellAt i <;> rfl

/-- A cell that is not written off is left with all else. -/
theorem writeOffAt_of_stays {i : Nat} {s : State} (h : (s.cellAt i).any Cell.leaves = false) : writeOffAt i s = s := by
  unfold writeOffAt
  cases hc : s.cellAt i with
  | none => rfl
  | some c =>
    rw [hc] at h
    exact if_pos (not_not.1 (of_decide_eq_false h))

theorem writeOffAt_of_leaves {i : Nat} {s : State} {c : Cell} (hc : s.cellAt i = some c) (h : c.leaves = true) :
    writeOffAt i s = writeOffCell i c s := by
  rw [writeOffAt, hc]
  exact if_neg (of_decide_eq_true h)

/-- What a step over one cell leaves of the stores of the others. -/
structure CellWrittenOff (i : Nat) (s t : State) : Prop where
  cells : ∀ k, t.cellAt k = if k = i then (s.cellAt k).filter (fun c => !c.leaves) else s.cellAt k
  lost : t.tray.lost = if (s.cellAt i).any Cell.leaves then bump s.tray.lost 1 else s.tray.lost
  entries : ∀ o, entryIndex t o = entryIndex s o
  bank : ∀ j, (slotAt (activeBank t) j).map (fun q => (q.order, q.assigned)) =
    (slotAt (activeBank s) j).map (fun q => (q.order, q.assigned -
      if (s.cellAt i).any (fun c => c.leaves && entryIndex s c.tray.order = some j) then 1 else 0))
  slots : (∀ j x, s.slot j = some x → ∀ k y, s.slot k = some y → x.cell = y.cell → j = k) →
    ∀ j, t.slot j = (s.slot j).filter (fun x => !(x.cell = i && (s.cellAt i).any Cell.leaves))
  hnd : t.hnd = s.hnd
  stc : t.stc = s.stc
  nowMs : t.nowMs = s.nowMs

theorem writeOffAt_parts (i : Nat) (s : State) : CellWrittenOff i s (writeOffAt i s) := by
  cases h : (s.cellAt i).any Cell.leaves with
  | false =>
    rw [writeOffAt_of_stays h]
    refine ⟨fun k => ?_, by rw [h]; rfl, fun _ => rfl, fun j => ?_, fun _ j => ?_, rfl, rfl, rfl⟩
    · split
      · next hk =>
        subst hk
        cases hc : s.cellAt k with
        | none => rfl
        | some c =>
          rw [hc] at h
          have hstays : c.leaves = false := h
          simp [Option.filter_some, hstays]
      · rfl
    · have hnone : (s.cellAt i).any (fun c => c.leaves && entryIndex s c.tray.order = some j) = false := by
        cases hc : s.cellAt i with
        | none => rfl
        | some c =>
          rw [hc] at h
          have hstays : c.leaves = false := h
          simp [hstays]
      simp [hnone]
    · cases s.slot j <;> simp [Option.filter_some, h]
  | true =>
    obtain ⟨c, hc, hleaves⟩ := (Option.any_eq_true _ _).1 h
    obtain ⟨htray, hdsp, hhnd, hstc, hnow⟩ := writeOffCell_parts hc
    rw [writeOffAt_of_leaves hc hleaves]
    have hbank : activeBank (writeOffCell i c s) = activeBank (unassign c.tray.order s) := by
      rw [activeBank_of_dsp hdsp, (idleSlot_frame i _).2]
    refine ⟨fun k => ?_, ?_, fun o => ?_, fun j => ?_, fun hone j => ?_, hhnd, hstc, hnow⟩
    · unfold State.cellAt
      rw [htray]
      split
      · next hk =>
        subst hk
        rw [slotAt_set_none]
        have hcell : slotAt s.tray.cells k = some c := hc
        rw [hcell]
        simp [Option.filter_some, hleaves]
      · next hk => exact slotAt_set_of_ne hk none
    · rw [htray, if_pos h]
    · rw [← entryIndex_unassign c.tray.order o s]
      exact entryIndex_of_orders (by rw [hbank]) o
    · rw [hbank, slotAt_activeBank_unassign, hc]
      simp only [Option.any_some, hleaves, Bool.true_and, decide_eq_true_eq]
      split
      · rw [Option.map_map]
        rfl
      · simp
    · have hslots : (unassign c.tray.order s).dsp.slots = s.dsp.slots := unassign_slots _ s
      have hslot (k : Nat) : (unassign c.tray.order s).slot k = s.slot k := by rw [State.slot, hslots]; rfl
      have hdslot : (writeOffCell i c s).slot j = (idleSlot i (unassign c.tray.order s)).slot j := by
        rw [State.slot, hdsp]; rfl
      rw [hdslot, idleSlot, slotOfCell_of_slots hslots, h]
      simp only [Bool.and_true]
      cases hfound : slotOfCell s i with
      | none =>
        show (unassign c.tray.order s).slot j = _
        rw [hslot]
        cases hx : s.slot j with
        | none => rfl
        | some x => simp [Option.filter_some, slotOfCell_eq_none hfound hx]
      | some m =>
        show (setSlot m none (unassign c.tray.order s)).slot j = _
        rw [slot_setSlot_none, hslot]
        obtain ⟨y, hy, hcell⟩ := slotOfCell_eq_some hfound
        split
        · next hjm =>
          subst hjm
          simp [Option.filter_some, hy, hcell]
        · next hjm =>
          cases hx : s.slot j with
          | none => rfl
          | some x =>
            have hne : x.cell ≠ i := fun heq => hjm (hone j x hx m y hy (heq.trans hcell.symm))
            simp [Option.filter_some, hne]

/-- What the write-off of the cells listed leaves. -/
structure CellsWrittenOff (l : List Nat) (s t : State) : Prop where
  cells : ∀ k, t.cellAt k = if k ∈ l then (s.cellAt k).filter (fun c => !c.leaves) else s.cellAt k
  lost : t.tray.lost = bumped s.tray.lost (((l.filterMap s.cellAt).filter Cell.leaves).map (fun _ => 1))
  bank : ∀ j, (slotAt (activeBank t) j).map (fun q => (q.order, q.assigned)) =
    (slotAt (activeBank s) j).map (fun q => (q.order, q.assigned -
      ((l.filterMap s.cellAt).filter (fun c => c.leaves && entryIndex s c.tray.order = some j)).length))
  slots : (∀ j x, s.slot j = some x → ∀ k y, s.slot k = some y → x.cell = y.cell → j = k) →
    ∀ j, t.slot j = (s.slot j).filter (fun x => !(decide (x.cell ∈ l) && (s.cellAt x.cell).any Cell.leaves))
  hnd : t.hnd = s.hnd
  stc : t.stc = s.stc
  nowMs : t.nowMs = s.nowMs

theorem writeOffCells_parts {l : List Nat} (hl : l.Nodup) (s : State) : CellsWrittenOff l s (writeOffCells l s) := by
  induction l generalizing s with
  | nil =>
    refine ⟨fun k => by simp [writeOffCells], rfl, fun j => by simp [writeOffCells], fun _ j => ?_, rfl, rfl, rfl⟩
    cases h : s.slot j <;> simp [writeOffCells, Option.filter_some, h]
  | cons i is ih =>
    obtain ⟨hi, his⟩ := List.nodup_cons.1 hl
    have hone := writeOffAt_parts i s
    have hrest := ih his (writeOffAt i s)
    have hcell (k : Nat) (hk : k ≠ i) : (writeOffAt i s).cellAt k = s.cellAt k := by rw [hone.cells, if_neg hk]
    have hcells : is.filterMap (writeOffAt i s).cellAt = is.filterMap s.cellAt :=
      List.filterMap_congr fun k hk => hcell k (fun heq => hi (heq ▸ hk))
    rw [writeOffCells_cons]
    refine ⟨fun k => ?_, ?_, fun j => ?_, fun huniq j => ?_, hrest.hnd.trans hone.hnd, hrest.stc.trans hone.stc,
      hrest.nowMs.trans hone.nowMs⟩
    · rw [hrest.cells, hone.cells]
      by_cases hk : k = i
      · subst hk
        simp [hi]
      · simp [hk]
    · rw [hrest.lost, hone.lost, hcells, List.filterMap_cons]
      cases hc : s.cellAt i with
      | none => simp
      | some c => cases hleaves : c.leaves <;> simp [hleaves, bumped_bump]
    · have hbank := hrest.bank j
      simp only [hone.entries, hcells] at hbank
      rw [hbank]
      have hstep := hone.bank j
      cases hs : slotAt (activeBank s) j with
      | none =>
        rw [hs] at hstep
        cases ht : slotAt (activeBank (writeOffAt i s)) j with
        | none => rfl
        | some q => rw [ht] at hstep; cases hstep
      | some o =>
        rw [hs] at hstep
        cases ht : slotAt (activeBank (writeOffAt i s)) j with
        | none => rw [ht] at hstep; cases hstep
        | some q =>
          rw [ht] at hstep
          obtain ⟨horder, hassigned⟩ := Prod.mk.inj (Option.some.inj hstep)
          rw [List.filterMap_cons]
          cases hc : s.cellAt i with
          | none =>
            rw [hc] at hassigned
            simp only [Option.map_some, horder, hassigned]
            rfl
          | some c =>
            rw [hc] at hassigned
            simp only [Option.map_some, horder, hassigned, List.filter_cons, Option.any_some]
            split <;> simp [Nat.sub_sub, Nat.add_comm]
    · have hslot := hone.slots huniq
      have huniq' : ∀ j x, (writeOffAt i s).slot j = some x → ∀ k y, (writeOffAt i s).slot k = some y →
          x.cell = y.cell → j = k := fun j x hx k y hy => by
        rw [hslot] at hx hy
        exact huniq j x (Option.eq_some_of_filter_eq_some hx) k y (Option.eq_some_of_filter_eq_some hy)
      rw [hrest.slots huniq', hslot]
      cases hx : s.slot j with
      | none => rfl
      | some x =>
        by_cases hxi : x.cell = i
        · cases hleaves : (s.cellAt i).any Cell.leaves <;> simp [Option.filter_some, hxi, hleaves, hi]
        · simp [Option.filter_some, hxi, hcell x.cell hxi]

end Sys2Proof.Machine
end

section
/-! The end of a chamber's entries: what is left of the table, the lanes, the manifests and the ring (R133, R139, R141, R147). -/

namespace Sys2Proof.Machine

/-! ### Manifests (R133) -/

theorem findIdx?_bind_slotAt {α : Type} (l : List (Option α)) (p : α → Bool) :
    (l.findIdx? (fun o => o.any p)).bind (slotAt l) = (l.filterMap id).find? p := by
  induction l with
  | nil => rfl
  | cons o rest ih =>
    have hshift : ∀ r : Option Nat, (r.map (· + 1)).bind (slotAt (o :: rest)) = r.bind (slotAt rest) := fun r => by
      cases r <;> rfl
    rw [List.findIdx?_cons]
    cases o with
    | none => simpa [hshift] using ih
    | some x =>
      cases hp : p x with
      | true => simp [hp, slotAt]
      | false => simpa [hp, hshift] using ih

/-- The manifest of a tray is the first that names it. -/
theorem manifestOf_eq (s : State) (t : TrayId) :
    manifestOf s t = (s.adm.manifests.filterMap id).find? (fun m => m.tray = t) := findIdx?_bind_slotAt _ _

theorem manifestOf_of_manifests {s t : State} (h : t.adm.manifests = s.adm.manifests) (x : TrayId) :
    manifestOf t x = manifestOf s x := by
  rw [manifestOf_eq, manifestOf_eq, h]

/-- Emptying a place that holds no record of a kind leaves the first of that kind. -/
theorem find?_filterMap_set_none {α : Type} {l : List (Option α)} {i : Nat} {p : α → Bool}
    (h : ∀ x, slotAt l i = some x → p x = false) :
    ((l.set i none).filterMap id).find? p = (l.filterMap id).find? p := by
  induction l generalizing i with
  | nil => rfl
  | cons o rest ih =>
    cases i with
    | zero =>
      cases o with
      | none => rfl
      | some x =>
        have hx : p x = false := h x rfl
        simp [hx]
    | succ i =>
      have hrest := ih (i := i) fun x hx => h x hx
      cases o with
      | none => simpa using hrest
      | some x =>
        exact congrArg (fun r => match p x with | true => some x | false => r) hrest

theorem manifestOf_dropManifest_of_ne {t x : TrayId} (h : x ≠ t) (s : State) :
    manifestOf (dropManifest t s) x = manifestOf s x := by
  unfold dropManifest
  cases hi : manifestIndex s t with
  | none => rfl
  | some i =>
    obtain ⟨hlt, hp, -⟩ := List.findIdx?_eq_some_iff_getElem.1 hi
    rw [getElem_eq_slotAt hlt] at hp
    rw [manifestOf_eq, manifestOf_eq]
    refine find?_filterMap_set_none fun m hm => ?_
    rw [hm] at hp
    have htray : m.tray = t := by simpa using hp
    simp [htray, Ne.symm h]

/-! ### The end of one entry (R139, R141) -/

theorem admission_of_table {s t : State} (h : t.adm.table = s.adm.table) (i : Nat) : t.admission i = s.admission i := by
  rw [State.admission, h]
  rfl

theorem admission_set_none {s t : State} {i : Nat} (h : t.adm.table = s.adm.table.set i none) (k : Nat) :
    t.admission k = if k = i then none else s.admission k := by
  rw [State.admission, h]
  split
  · next hk => rw [hk, slotAt_set_none]
  · next hk => exact slotAt_set_of_ne hk none

theorem endReservation_table (i : Nat) (e : Admission) (s : State) :
    (endReservation i e s).adm.table = s.adm.table.set i none := by
  obtain ⟨htable, -⟩ := ReservationsFit.removeEntry_adm i e (updateLane e.laneNo Lane.release s)
  rw [endReservation, htable, ReservationsFit.updateLane_table]

theorem endReservation_lane (i : Nat) (e : Admission) (s : State) (n : Nat) :
    (endReservation i e s).lane n = if n = e.laneNo then (s.lane n).map Lane.release else s.lane n := by
  obtain ⟨-, hlanes⟩ := ReservationsFit.removeEntry_adm i e (updateLane e.laneNo Lane.release s)
  rw [endReservation, lane_congr hlanes, lane_updateLane]

theorem updateLane_adm (n : Nat) (f : Lane → Lane) (s : State) :
    (updateLane n f s).adm = { s.adm with lanes := (updateLane n f s).adm.lanes } := by
  unfold updateLane
  split <;> rfl

/-- The end of a reservation leaves the counts, orders and notes of the chamber. -/
theorem endReservation_adm (i : Nat) (e : Admission) (s : State) :
    (endReservation i e s).adm =
      { s.adm with
        lanes := (endReservation i e s).adm.lanes
        manifests := (endReservation i e s).adm.manifests
        table := (endReservation i e s).adm.table } := by
  have hlane (table : List (Option Admission)) (manifests : List (Option Manifest)) :=
    congrArg (fun a : Adm => { a with table := table, manifests := manifests }) (updateLane_adm e.laneNo Lane.release s)
  unfold endReservation removeEntry dropManifest
  split <;> exact hlane _ _

theorem manifestOf_endReservation {i : Nat} {e : Admission} {x : TrayId} (h : x ≠ e.tray) (s : State) :
    manifestOf (endReservation i e s) x = manifestOf s x := by
  unfold endReservation removeEntry
  rw [manifestOf_dropManifest_of_ne h]
  refine manifestOf_of_manifests ?_ x
  show (updateLane e.laneNo Lane.release s).adm.manifests = _
  rw [updateLane_adm]

/-- What a chamber writes to its ring for a tray declared missing (R141). -/
def missingTrace (s : State) (e : Admission) : TraceEntry :=
  .chamber e.tray .missing e.lane ((manifestOf s e.tray).bind Manifest.lot) s.stc.clock

/-- The state in which the tray's MISSING stands in the ring. -/
def missingTraced (e : Admission) (s : State) : State := writeTrace (missingTrace s e) s

theorem declareMissing_eq (i : Nat) (e : Admission) (s : State) :
    declareMissing i e s =
      { endReservation i e (missingTraced e s) with
        adm.missing := bump (endReservation i e (missingTraced e s)).adm.missing 1 } := rfl

theorem missingTraced_adm (e : Admission) (s : State) : (missingTraced e s).adm = s.adm := writeTrace_adm _ s

theorem missingTraced_entries {e : Admission} {s : State} (h : s.trc.entries.length < 128) :
    (missingTraced e s).trc.entries = s.trc.entries ++ [missingTrace s e] := by
  rw [missingTraced, writeTrace_entries]
  exact if_pos h

/-- Writing to the ring latches HALF or FULL and no other notice (R126). -/
theorem writeTrace_stc (e : TraceEntry) (s : State) :
    (writeTrace e s).stc = { s.stc with latched := (writeTrace e s).stc.latched } ∧
      ∀ n, n ≠ .half → n ≠ .full → (writeTrace e s).latchedNotice n = s.latchedNotice n := by
  have hlatch (m n : Notice) (u : State) (h : n ≠ m) : (latch m u).latchedNotice n = u.latchedNotice n := by
    unfold State.latchedNotice
    rw [latch_latched, BitVec.getLsbD_or]
    have hbit : (Notice.mask m).getLsbD n.bit = false := by revert h; cases m <;> cases n <;> decide
    rw [hbit, Bool.or_false]
  unfold writeTrace latchRing
  split
  · split
    · exact ⟨rfl, fun n hh _ => hlatch _ _ _ hh⟩
    · split
      · exact ⟨rfl, fun n _ hf => hlatch _ _ _ hf⟩
      · exact ⟨rfl, fun _ _ _ => rfl⟩
  · exact ⟨rfl, fun _ _ _ => rfl⟩

/-- What the drain timeout does with one entry of the table. -/
def endEntry (i : Nat) (s : State) : State :=
  (s.admission i).elim s (fun e =>
    if e.state = .ready then discardReady i e s else if e.claimed then declareMissing i e s else s)

theorem endEntries_cons (i : Nat) (is : List Nat) (s : State) : endEntries (i :: is) s = endEntries is (endEntry i s) := by
  rw [endEntries, endEntry]
  cases s.admission i <;> rfl

/-- What a step over one entry leaves. -/
structure EntryEnded (i : Nat) (s t : State) : Prop where
  entries : ∀ k, t.admission k = if k = i then (s.admission k).filter (fun e => e.state = .pending) else s.admission k
  unclaimed : t.adm.unclaimed =
    if (s.admission i).any (fun e => e.state = .ready) then bump s.adm.unclaimed 1 else s.adm.unclaimed
  missing : t.adm.missing = if (s.admission i).any Admission.claimed then bump s.adm.missing 1 else s.adm.missing
  lanes : ∀ n, t.lane n = (s.lane n).map Lane.release^[roomIn n (s.admission i)]
  manifests : ∀ x, (∀ e, s.admission i = some e → x ≠ e.tray) → manifestOf t x = manifestOf s x
  trace : s.trc.entries.length + ((s.admission i).filter Admission.claimed).toList.length ≤ 128 →
    t.trc.entries = s.trc.entries ++ ((s.admission i).filter Admission.claimed).toList.map (missingTrace s)
  stc : t.stc = { s.stc with latched := t.stc.latched }
  notices : ∀ n, n ≠ .half → n ≠ .full → t.latchedNotice n = s.latchedNotice n
  hnd : t.hnd = s.hnd
  nowMs : t.nowMs = s.nowMs

theorem entryEnded_refl {i : Nat} {s : State} (h : ∀ e, s.admission i = some e → e.state = .pending) : EntryEnded i s s := by
  cases he : s.admission i with
  | none =>
    refine ⟨fun k => ?_, ?_, ?_, fun n => ?_, fun _ _ => rfl, fun _ => ?_, rfl, fun _ _ _ => rfl, rfl, rfl⟩
    · split
      · next hk => rw [hk, he]; rfl
      · rfl
    · rw [he]; rfl
    · rw [he]; rfl
    · rw [he]; simp [roomIn]
    · rw [he]; simp
  | some e =>
    have hp := h e he
    refine ⟨fun k => ?_, ?_, ?_, fun n => ?_, fun _ _ => rfl, fun _ => ?_, rfl, fun _ _ _ => rfl, rfl, rfl⟩
    · split
      · next hk => simp [hk, he, Option.filter_some, hp]
      · rfl
    · simp [he, hp]
    · simp [he, Admission.claimed, hp]
    · simp [he, roomIn, Admission.holdsRoom, hp]
    · simp [he, Option.filter_some, Admission.claimed, hp]

theorem roomIn_some {e : Admission} (h : e.holdsRoom = true) (n : Nat) (o : Option Lane) :
    o.map Lane.release^[roomIn n (some e)] = if n = e.laneNo then o.map Lane.release else o := by
  by_cases hn : n = e.laneNo
  · simp [roomIn, h, hn]
  · simp [roomIn, h, hn, Ne.symm hn]

theorem discardReady_ended {i : Nat} {s : State} {e : Admission} (he : s.admission i = some e) (hr : e.state = .ready) :
    EntryEnded i s (discardReady i e s) := by
  have hclaimed : e.claimed = false := by simp [Admission.claimed, hr]
  have hroom : e.holdsRoom = true := by simp [Admission.holdsRoom, hr]
  refine ⟨fun k => ?_, ?_, ?_, fun n => ?_, fun x hx => manifestOf_endReservation (hx e he) s, fun _ => ?_, ?_, fun n _ _ => ?_,
    endReservation_hnd i e s, endReservation_nowMs i e s⟩
  · refine (admission_set_none (endReservation_table i e s) k).trans ?_
    split
    · next hk => simp [hk, he, Option.filter_some, hr]
    · rfl
  · rw [he, Option.any_some, hr]
    show bump (endReservation i e s).adm.unclaimed 1 = _
    rw [endReservation_adm]
    rfl
  · rw [he, Option.any_some, hclaimed]
    show (endReservation i e s).adm.missing = _
    rw [endReservation_adm]
    rfl
  · rw [he, roomIn_some hroom]
    exact endReservation_lane i e s n
  · rw [he, Option.filter_some, hclaimed]
    show (endReservation i e s).trc.entries = _
    rw [endReservation_trc]
    simp
  · show (endReservation i e s).stc = { s.stc with latched := (endReservation i e s).stc.latched }
    rw [endReservation_stc]
  · show (endReservation i e s).latchedNotice n = _
    exact latchedNotice_of_latched (by rw [endReservation_stc]) n

theorem declareMissing_ended {i : Nat} {s : State} {e : Admission} (he : s.admission i = some e) (hc : e.claimed = true) :
    EntryEnded i s (declareMissing i e s) := by
  have hready : e.state ≠ .ready := fun h => by simp [Admission.claimed, h] at hc
  have hpending : e.state ≠ .pending := fun h => by simp [Admission.claimed, h] at hc
  have hroom : e.holdsRoom = true := by simp [Admission.holdsRoom, hpending]
  have hadm := missingTraced_adm e s
  obtain ⟨hstc, hnotices⟩ := writeTrace_stc (missingTrace s e) s
  rw [declareMissing_eq]
  refine ⟨fun k => ?_, ?_, ?_, fun n => ?_, fun x hx => ?_, fun hlen => ?_, ?_, fun n hh hf => ?_, ?_, ?_⟩
  · refine (admission_set_none (endReservation_table i e (missingTraced e s)) k).trans ?_
    split
    · next hk => simp [hk, he, Option.filter_some, hpending]
    · exact admission_of_table (congrArg Adm.table hadm) k
  · rw [he, Option.any_some, decide_eq_false hready]
    show (endReservation i e (missingTraced e s)).adm.unclaimed = _
    rw [endReservation_adm, hadm]
    rfl
  · rw [he, Option.any_some, hc]
    show bump (endReservation i e (missingTraced e s)).adm.missing 1 = _
    rw [endReservation_adm, hadm]
    rfl
  · rw [he, roomIn_some hroom]
    refine (endReservation_lane i e (missingTraced e s) n).trans ?_
    rw [lane_congr (congrArg Adm.lanes hadm)]
  · exact (manifestOf_endReservation (hx e he) (missingTraced e s)).trans
      (manifestOf_of_manifests (congrArg Adm.manifests hadm) x)
  · rw [he, Option.filter_some, hc] at hlen ⊢
    have hlt : s.trc.entries.length < 128 := hlen
    show (endReservation i e (missingTraced e s)).trc.entries = _
    rw [endReservation_trc, missingTraced_entries hlt]
    rfl
  · show (endReservation i e (missingTraced e s)).stc =
      { s.stc with latched := (endReservation i e (missingTraced e s)).stc.latched }
    rw [endReservation_stc]
    exact hstc
  · show (endReservation i e (missingTraced e s)).latchedNotice n = _
    rw [← hnotices n hh hf]
    exact latchedNotice_of_latched (by rw [endReservation_stc]; rfl) n
  · show (endReservation i e (missingTraced e s)).hnd = _
    rw [endReservation_hnd]
    exact writeTrace_hnd _ s
  · show (endReservation i e (missingTraced e s)).nowMs = _
    rw [endReservation_nowMs]
    exact writeTrace_nowMs _ s

theorem endEntry_parts (i : Nat) (s : State) : EntryEnded i s (endEntry i s) := by
  unfold endEntry
  cases he : s.admission i with
  | none => exact entryEnded_refl fun e h => by rw [he] at h; cases h
  | some e =>
    simp only [Option.elim_some]
    split
    · next hr => exact discardReady_ended he hr
    · next hr =>
      split
      · next hc => exact declareMissing_ended he hc
      · next hc =>
        refine entryEnded_refl fun e' h => ?_
        obtain rfl : e = e' := Option.some.inj (he.symm.trans h)
        cases hs : e.state with
        | pending => rfl
        | ready => exact absurd hs hr
        | claimed => simp [Admission.claimed, hs] at hc
        | inbound => simp [Admission.claimed, hs] at hc

/-! ### The end of all entries (R147) -/

/-- What the end of the entries listed leaves. -/
structure EntriesEnded (l : List Nat) (s t : State) : Prop where
  entries : ∀ k, t.admission k = if k ∈ l then (s.admission k).filter (fun e => e.state = .pending) else s.admission k
  unclaimed : t.adm.unclaimed =
    bumped s.adm.unclaimed (((l.filterMap s.admission).filter (fun e => e.state = .ready)).map (fun _ => 1))
  missing : t.adm.missing = bumped s.adm.missing (((l.filterMap s.admission).filter Admission.claimed).map (fun _ => 1))
  lanes : ∀ n, t.lane n =
    (s.lane n).map Lane.release^[((l.filterMap s.admission).filter (fun e => e.holdsRoom && e.laneNo = n)).length]
  trace : s.trc.entries.length + ((l.filterMap s.admission).filter Admission.claimed).length ≤ 128 →
    (∀ i a, s.admission i = some a → ∀ j b, s.admission j = some b → a.tray = b.tray → i = j) →
    t.trc.entries = s.trc.entries ++ ((l.filterMap s.admission).filter Admission.claimed).map (missingTrace s)
  stc : t.stc = { s.stc with latched := t.stc.latched }
  notices : ∀ n, n ≠ .half → n ≠ .full → t.latchedNotice n = s.latchedNotice n
  hnd : t.hnd = s.hnd
  nowMs : t.nowMs = s.nowMs

theorem endEntries_parts {l : List Nat} (hl : l.Nodup) (s : State) : EntriesEnded l s (endEntries l s) := by
  induction l generalizing s with
  | nil =>
    exact ⟨fun k => by simp [endEntries], rfl, rfl, fun n => by simp [endEntries], fun _ _ => by simp [endEntries], rfl,
      fun _ _ _ => rfl, rfl, rfl⟩
  | cons i is ih =>
    obtain ⟨hi, his⟩ := List.nodup_cons.1 hl
    have hone := endEntry_parts i s
    have hrest := ih his (endEntry i s)
    have hentry (k : Nat) (hk : k ≠ i) : (endEntry i s).admission k = s.admission k := by rw [hone.entries, if_neg hk]
    have hentries : is.filterMap (endEntry i s).admission = is.filterMap s.admission :=
      List.filterMap_congr fun k hk => hentry k (fun heq => hi (heq ▸ hk))
    have hcons : (i :: is).filterMap s.admission = (s.admission i).toList ++ is.filterMap s.admission := by
      rw [List.filterMap_cons]
      cases s.admission i <;> rfl
    have hfilter (p : Admission → Bool) : ((i :: is).filterMap s.admission).filter p =
        ((s.admission i).filter p).toList ++ (is.filterMap s.admission).filter p := by
      rw [hcons, List.filter_append]
      congr 1
      cases s.admission i with
      | none => rfl
      | some e => cases hp : p e <;> simp [Option.filter_some, hp]
    rw [endEntries_cons]
    refine ⟨fun k => ?_, ?_, ?_, fun n => ?_, fun hlen huniq => ?_, ?_, fun n hh hf => ?_, hrest.hnd.trans hone.hnd,
      hrest.nowMs.trans hone.nowMs⟩
    · rw [hrest.entries, hone.entries]
      by_cases hk : k = i
      · subst hk
        simp [hi]
      · simp [hk]
    · rw [hrest.unclaimed, hone.unclaimed, hentries, hfilter]
      cases he : s.admission i with
      | none => rfl
      | some e => by_cases hr : e.state = .ready <;> simp [Option.filter_some, hr, bumped_bump]
    · rw [hrest.missing, hone.missing, hentries, hfilter]
      cases he : s.admission i with
      | none => rfl
      | some e => cases hc : e.claimed <;> simp [Option.filter_some, hc, bumped_bump]
    · rw [hrest.lanes, hone.lanes, hentries, hfilter, Option.map_map, ← Function.iterate_add, List.length_append]
      congr 2
      rw [Nat.add_comm]
      congr 1
      cases he : s.admission i with
      | none => rfl
      | some e => cases hc : (e.holdsRoom && decide (e.laneNo = n)) <;> simp [roomIn, Option.filter_some, hc]
    · rw [hfilter, List.length_append, ← Nat.add_assoc] at hlen
      have hfirst := hone.trace (by omega)
      have huniq' : ∀ j a, (endEntry i s).admission j = some a → ∀ k b, (endEntry i s).admission k = some b →
          a.tray = b.tray → j = k := by
        have hsub (j : Nat) (a : Admission) (ha : (endEntry i s).admission j = some a) : s.admission j = some a := by
          rw [hone.entries] at ha
          split at ha
          · exact Option.eq_some_of_filter_eq_some ha
          · exact ha
        exact fun j a ha k b hb => huniq j a (hsub j a ha) k b (hsub k b hb)
      have hlater := hrest.trace (by rw [hfirst, hentries, List.length_append, List.length_map]; omega) huniq'
      rw [hlater, hfirst, hentries, hfilter, List.map_append, List.append_assoc]
      congr 2
      refine List.map_congr_left fun e he => ?_
      obtain ⟨k, hk, heq⟩ := List.mem_filterMap.1 (List.mem_of_mem_filter he)
      have hmanifest : manifestOf (endEntry i s) e.tray = manifestOf s e.tray :=
        hone.manifests e.tray fun e' he' htray => hi (huniq k e heq i e' he' htray ▸ hk)
      unfold missingTrace
      rw [hmanifest, hone.stc]
    · rw [hrest.stc, hone.stc]
    · rw [hrest.notices n hh hf, hone.notices n hh hf]

/-! ### The lane after its reservations are given up (R131) -/

theorem release_fields (q : Lane) :
    q.release.use = q.use ∧ q.release.capacity = q.capacity ∧ q.release.occupancy = q.occupancy ∧
      q.release.reserved = q.reserved - 1 ∧
      q.release.order = if q.use = .orders ∧ q.occupancy + (q.reserved - 1) = 0 then none else q.order := by
  unfold Lane.release Lane.settle
  simp only [Bool.and_eq_true, decide_eq_true_eq]
  split <;> exact ⟨rfl, rfl, rfl, rfl, rfl⟩

theorem release_iterate (l : Lane) (k : Nat) :
    (Lane.release^[k] l).use = l.use ∧ (Lane.release^[k] l).capacity = l.capacity ∧
      (Lane.release^[k] l).occupancy = l.occupancy ∧ (Lane.release^[k] l).reserved = l.reserved - k ∧
      (Lane.release^[k] l).order =
        if 0 < k ∧ l.use = .orders ∧ l.occupancy + (l.reserved - k) = 0 then none else l.order := by
  induction k with
  | zero => simp
  | succ k ih =>
    obtain ⟨huse, hcap, hocc, hres, horder⟩ := ih
    rw [Function.iterate_succ_apply']
    obtain ⟨huse', hcap', hocc', hres', horder'⟩ := release_fields (Lane.release^[k] l)
    refine ⟨huse'.trans huse, hcap'.trans hcap, hocc'.trans hocc, by rw [hres', hres, Nat.sub_sub], ?_⟩
    rw [horder', huse, hocc, hres, horder, Nat.sub_sub]
    by_cases hu : l.use = .orders
    · by_cases ho : l.occupancy + (l.reserved - (k + 1)) = 0
      · simp [hu, ho]
      · have ho' : ¬ l.occupancy + (l.reserved - k) = 0 := by omega
        simp only [hu, ho, ho', and_false, if_false]
    · simp [hu]

end Sys2Proof.Machine
end

section
/-! O9: the drain timeout. -/

namespace Sys2Proof.Machine

/-! ### What the drain timeout leaves of what the blocks have written off (R169) -/

/-- What the blocks leave at the drain timeout (R169). -/
def writtenOff (d : Nat) (s : State) : State := writeOffAll (timeTo d { s with stc.drainAt := none })

/-- The state of the drain timeout before the station may enter SANITISING. -/
def writtenOffNoted (d : Nat) (s : State) : State :=
  if 0 < recordsToWriteOff s then latch .writtenOff (writtenOff d s) else writtenOff d s

theorem drainOut_eq {s : State} {d : Nat} (hd : s.stc.drainAt = some d) (hm : s.mode = .draining) :
    drainOut s =
      settleFlow (if stationEmpty (writtenOffNoted d s) then enterSanitising (writtenOffNoted d s) else writtenOffNoted d s) := by
  rw [drainOut, hd]
  exact if_pos hm

theorem enterSanitising_frame (s : State) :
    (enterSanitising s).idx.window = s.idx.window ∧ (enterSanitising s).idx.lost = s.idx.lost ∧
      (enterSanitising s).hnd = s.hnd ∧ (enterSanitising s).tray = s.tray ∧ (enterSanitising s).dsp = s.dsp ∧
      (enterSanitising s).adm = { s.adm with
        manifests := (enterSanitising s).adm.manifests, notes := (enterSanitising s).adm.notes } ∧
      (enterSanitising s).trc = s.trc ∧ (enterSanitising s).nowMs = s.nowMs := by
  unfold enterSanitising
  dsimp only
  split <;> simp

/-- The parts of the final state that are the blocks' own write-offs, and its mode, timer and notices. -/
structure DrainedFrom (s u t : State) : Prop where
  window : t.idx.window = u.idx.window
  lostPots : t.idx.lost = u.idx.lost
  expected : t.hnd.expected = u.hnd.expected
  rowArrivals : t.hnd.rowArrivals = u.hnd.rowArrivals
  trayArrivals : t.hnd.trayArrivals = u.hnd.trayArrivals
  missing : t.hnd.missing = u.hnd.missing
  tray : t.tray = u.tray
  dsp : t.dsp = u.dsp
  table : t.adm.table = u.adm.table
  lanes : t.adm.lanes = u.adm.lanes
  unclaimed : t.adm.unclaimed = u.adm.unclaimed
  missingTrays : t.adm.missing = u.adm.missing
  trc : t.trc = u.trc
  nowMs : t.nowMs = u.nowMs
  drainAt : t.stc.drainAt = none
  mode : t.mode = if stationEmpty u then .sanitising else .draining
  latched : t.stc.latched =
    if recordsToWriteOff s = 0 then u.stc.latched else u.stc.latched ||| Notice.writtenOff.mask
  permit : t.out.runPermit = permitOf t
  room : t.hnd.room = roomOf t
  counts : stationEmpty u = true → u.role.isRow = true → t.idx.posCount = 0 ∧ t.idx.debt = 0

theorem writtenOffNoted_eq (d : Nat) (s : State) :
    writtenOffNoted d s =
      { writtenOff d s with
        stc.latched := (writtenOffNoted d s).stc.latched, out.attention := (writtenOffNoted d s).out.attention } := by
  unfold writtenOffNoted
  split <;> rfl

theorem writtenOffNoted_latched (d : Nat) (s : State) :
    (writtenOffNoted d s).stc.latched =
      if recordsToWriteOff s = 0 then (writtenOff d s).stc.latched
      else (writtenOff d s).stc.latched ||| Notice.writtenOff.mask := by
  unfold writtenOffNoted
  by_cases h : recordsToWriteOff s = 0
  · rw [if_neg (by omega), if_pos h]
  · rw [if_pos (by omega), if_neg h]
    rfl

theorem drainOut_parts {s : State} {d : Nat} (hd : s.stc.drainAt = some d) (hm : s.mode = .draining)
    (hstc : (writtenOff d s).stc = { s.stc with drainAt := none, latched := (writtenOff d s).stc.latched }) :
    DrainedFrom s (writtenOff d s) (drainOut s) := by
  have hnoted := writtenOffNoted_eq d s
  have hlatched := writtenOffNoted_latched d s
  have hempty : stationEmpty (writtenOffNoted d s) = stationEmpty (writtenOff d s) := by
    rw [hnoted]
    rfl
  have hnotedStc : (writtenOffNoted d s).stc = { s.stc with
      drainAt := none, latched := (writtenOffNoted d s).stc.latched } :=
    (congrArg State.stc hnoted).trans (congrArg (fun x : Stc => { x with latched := (writtenOffNoted d s).stc.latched }) hstc)
  have hrole : (writtenOffNoted d s).role = (writtenOff d s).role := by
    refine role_of_settings ?_
    rw [hnoted]
  rw [drainOut_eq hd hm, hempty]
  obtain ⟨hwindow, hlost, hhnd, htray, hdsp, hadm, htrc, hnow⟩ := enterSanitising_frame (writtenOffNoted d s)
  cases he : stationEmpty (writtenOff d s) with
  | true =>
    simp only [if_true]
    refine ⟨?_, ?_, ?_, ?_, ?_, ?_, ?_, ?_, ?_, ?_, ?_, ?_, ?_, ?_, ?_, ?_, ?_, settleFlow_permit _, settleFlow_room _,
      fun _ hr => ?_⟩
    · rw [settleFlow_idx, hwindow, hnoted]
    · rw [settleFlow_idx, hlost, hnoted]
    · rw [settleFlow_hnd, hhnd, hnoted]
    · rw [settleFlow_hnd, hhnd, hnoted]
    · rw [settleFlow_hnd, hhnd, hnoted]
    · rw [settleFlow_hnd, hhnd, hnoted]
    · rw [settleFlow_tray, htray, hnoted]
    · rw [settleFlow_dsp, hdsp, hnoted]
    · rw [settleFlow_adm, hadm, hnoted]
    · rw [settleFlow_adm, hadm, hnoted]
    · rw [settleFlow_adm, hadm, hnoted]
    · rw [settleFlow_adm, hadm, hnoted]
    · rw [settleFlow_trc, htrc, hnoted]
    · rw [settleFlow_nowMs, hnow, hnoted]
    · rw [settleFlow_stc, enterSanitising_stc]
    · rw [settleFlow_mode, State.mode, enterSanitising_stc, he]
      rfl
    · rw [settleFlow_stc, enterSanitising_stc, ← hlatched]
    · rw [settleFlow_idx]
      exact (enterSanitising_clears _).1 (hrole ▸ hr)
  | false =>
    simp only [Bool.false_eq_true, if_false]
    refine ⟨?_, ?_, ?_, ?_, ?_, ?_, ?_, ?_, ?_, ?_, ?_, ?_, ?_, ?_, ?_, ?_, ?_, settleFlow_permit _, settleFlow_room _,
      fun h => absurd (he.symm.trans h) (by decide)⟩
    · rw [settleFlow_idx, hnoted]
    · rw [settleFlow_idx, hnoted]
    · rw [settleFlow_hnd, hnoted]
    · rw [settleFlow_hnd, hnoted]
    · rw [settleFlow_hnd, hnoted]
    · rw [settleFlow_hnd, hnoted]
    · rw [settleFlow_tray, hnoted]
    · rw [settleFlow_dsp, hnoted]
    · rw [settleFlow_adm, hnoted]
    · rw [settleFlow_adm, hnoted]
    · rw [settleFlow_adm, hnoted]
    · rw [settleFlow_adm, hnoted]
    · rw [settleFlow_trc, hnoted]
    · rw [settleFlow_nowMs, hnoted]
    · rw [settleFlow_stc, hnotedStc]
    · rw [settleFlow_mode, State.mode, hnotedStc, he]
      exact hm
    · rw [settleFlow_stc, ← hlatched]

/-! ### The write-offs role by role -/

theorem bumped_map {α : Type} (count : Nat) (l : List α) (f : α → Nat) :
    bumped count (l.map f) = if l = [] then count else min 4294967295 (count + (l.map f).sum) := by
  cases l <;> rfl

theorem bumped_held {α : Type} (count : Nat) (l : List (Option α)) (f : α → Nat) :
    bumped count ((l.filterMap id).map f) =
      if heldCount l = 0 then count else min 4294967295 (count + ((l.filterMap id).map f).sum) := by
  rw [bumped_map, heldCount_eq]
  simp only [List.length_eq_zero_iff]

section Roles

variable {s : State}

theorem writeOffAll_of_filler (hr : s.role = .filler) : writeOffAll s = writeOffRows s.idx.window s := by
  rw [writeOffAll, hr]

theorem writeOffAll_of_lidder (hr : s.role = .lidder) :
    writeOffAll s = removeRowEntries s.hnd.rowArrivals (writeOffRows s.idx.window s) := by
  rw [writeOffAll, hr]

theorem writeOffAll_of_trayer (hr : s.role = .trayer) :
    writeOffAll s =
      { writeOffTrays ((s.tray.forming.map Forming.tray).toList ++ s.tray.formed)
          (removeRowEntries s.hnd.rowArrivals (writeOffRows s.idx.window s)) with
        tray.forming := none, tray.formed := [] } := by
  rw [writeOffAll, hr]

theorem writeOffAll_of_chill (hr : s.role = .chill) :
    writeOffAll s = { writeOffTrays s.tray.queue (removeTrayEntries s.hnd.trayArrivals s) with tray.queue := [] } := by
  rw [writeOffAll, hr]

theorem writeOffAll_of_dispatch (hr : s.role = .dispatch) :
    writeOffAll s = writeOffCells (List.range s.tray.cells.length) (removeTrayEntries s.hnd.trayArrivals s) := by
  rw [writeOffAll, hr]

/-- The rows and the row entries of a station without them. -/
theorem rowsOff_parts (s : State) :
    (removeRowEntries s.hnd.rowArrivals (writeOffRows s.idx.window s)).idx = (writeOffRows s.idx.window s).idx ∧
      (removeRowEntries s.hnd.rowArrivals (writeOffRows s.idx.window s)).hnd =
        { s.hnd with
          rowArrivals := [], missing := bumped s.hnd.missing (s.hnd.rowArrivals.map (fun e => e.body.potCount)) } ∧
      (removeRowEntries s.hnd.rowArrivals (writeOffRows s.idx.window s)).tray = s.tray ∧
      (removeRowEntries s.hnd.rowArrivals (writeOffRows s.idx.window s)).stc = s.stc ∧
      (removeRowEntries s.hnd.rowArrivals (writeOffRows s.idx.window s)).nowMs = s.nowMs := by
  have hrows := writeOffRows_frame s.idx.window s
  have hentries := removeRowEntries_frame s.hnd.rowArrivals (writeOffRows s.idx.window s)
  have hhnd : (writeOffRows s.idx.window s).hnd = s.hnd := by rw [hrows]
  refine ⟨by rw [hentries], by rw [removeRowEntries_hnd, hhnd], ?_, ?_, ?_⟩
  · rw [hentries, hrows]
  · rw [hentries, hrows]
  · rw [hentries, hrows]

/-- The write-off at a row role (R20, R39). -/
theorem writeOffAll_row (hr : s.role.isRow = true) :
    (writeOffAll s).idx =
        { s.idx with
          window := [], lost := bumped s.idx.lost ((s.idx.window.filterMap id).map (fun r => r.body.potCount)) } ∧
      (writeOffAll s).hnd = (if s.role = .filler then s.hnd else
        { s.hnd with
          rowArrivals := [], missing := bumped s.hnd.missing (s.hnd.rowArrivals.map (fun e => e.body.potCount)) }) ∧
      (writeOffAll s).stc = s.stc ∧ (writeOffAll s).nowMs = s.nowMs := by
  obtain ⟨hidx, hhnd, htray, hstc, hnow⟩ := rowsOff_parts s
  cases hrole : s.role with
  | filler =>
    rw [writeOffAll_of_filler hrole]
    refine ⟨writeOffRows_idx _ s, ?_, ?_, ?_⟩ <;> rw [writeOffRows_frame]
    rfl
  | lidder =>
    rw [writeOffAll_of_lidder hrole]
    exact ⟨hidx.trans (writeOffRows_idx _ s), hhnd, hstc, hnow⟩
  | trayer =>
    rw [writeOffAll_of_trayer hrole]
    refine ⟨Eq.trans ?_ (hidx.trans (writeOffRows_idx _ s)), Eq.trans ?_ hhnd, Eq.trans ?_ hstc, Eq.trans ?_ hnow⟩ <;>
      rw [writeOffTrays_frame]
  | chill => rw [hrole] at hr; cases hr
  | dispatch => rw [hrole] at hr; cases hr
  | chamber => rw [hrole] at hr; cases hr

/-- The write-off of TRAYER's trays (R80). -/
theorem writeOffAll_trayer (hr : s.role = .trayer) :
    (writeOffAll s).tray =
      { s.tray with
        forming := none, formed := []
        lost := bumped s.tray.lost (((s.tray.forming.map Forming.tray).toList ++ s.tray.formed).map (fun _ => 1)) } := by
  obtain ⟨-, -, htray, -, -⟩ := rowsOff_parts s
  rw [writeOffAll_of_trayer hr]
  simp only
  rw [writeOffTrays_tray, htray]

/-- The write-off at CHILL (R39, R88). -/
theorem writeOffAll_chill (hr : s.role = .chill) :
    (writeOffAll s).tray =
        { s.tray with queue := [], lost := bumped s.tray.lost (s.tray.queue.map (fun _ => 1)) } ∧
      (writeOffAll s).hnd =
        { s.hnd with trayArrivals := [], missing := bumped s.hnd.missing (s.hnd.trayArrivals.map (fun _ => 1)) } ∧
      (writeOffAll s).stc = s.stc ∧ (writeOffAll s).nowMs = s.nowMs := by
  have hentries := removeTrayEntries_frame s.hnd.trayArrivals s
  have htray : (removeTrayEntries s.hnd.trayArrivals s).tray = s.tray := by rw [hentries]
  rw [writeOffAll_of_chill hr]
  refine ⟨?_, ?_, ?_, ?_⟩
  · simp only
    rw [writeOffTrays_tray, htray]
  · simp only
    rw [writeOffTrays_frame, removeTrayEntries_hnd]
  · simp only
    rw [writeOffTrays_frame, hentries]
  · simp only
    rw [writeOffTrays_frame, hentries]

theorem stationEmpty_of_row (hr : s.role.isRow = true) (hwindow : s.idx.window = [])
    (harrivals : s.role ≠ .filler → s.hnd.rowArrivals = [])
    (htray : s.role = .trayer → s.tray.forming = none ∧ s.tray.formed = []) : stationEmpty s = true := by
  unfold stationEmpty
  cases hrole : s.role with
  | filler => simp [hwindow, heldCount]
  | lidder => simp [hwindow, heldCount, harrivals (by simp [hrole])]
  | trayer =>
    obtain ⟨hforming, hformed⟩ := htray hrole
    simp [hwindow, heldCount, harrivals (by simp [hrole]), hforming, hformed]
  | chill => rw [hrole] at hr; cases hr
  | dispatch => rw [hrole] at hr; cases hr
  | chamber => rw [hrole] at hr; cases hr

theorem stationEmpty_of_chill (hr : s.role = .chill) (harrivals : s.hnd.trayArrivals = []) (hqueue : s.tray.queue = []) :
    stationEmpty s = true := by
  simp [stationEmpty, hr, harrivals, hqueue]

theorem stationEmpty_of_dispatch (hr : s.role = .dispatch) (harrivals : s.hnd.trayArrivals = []) :
    stationEmpty s = decide (heldCount s.tray.cells = 0) := by
  simp [stationEmpty, hr, harrivals]

theorem stationEmpty_of_chamber (hr : s.role = .chamber) : stationEmpty s = decide (heldCount s.adm.table = 0) := by
  simp [stationEmpty, hr]

end Roles

end Sys2Proof.Machine
end

section
/-! O9: the drain timeout, role by role. -/

namespace Sys2Proof.Machine

/-- The state in which the blocks write off: the timer has run out. -/
def drainStart (d : Nat) (s : State) : State := timeTo d { s with stc.drainAt := none }

theorem writtenOff_eq (d : Nat) (s : State) : writtenOff d s = writeOffAll (drainStart d s) := rfl

theorem drainStart_role (d : Nat) (s : State) : (drainStart d s).role = s.role := role_of_settings rfl

/-! ### DISPATCH and CHAMBER -/

theorem writeOffAll_dispatch {s : State} (hr : s.role = .dispatch) :
    CellsWrittenOff (List.range s.tray.cells.length) (removeTrayEntries s.hnd.trayArrivals s) (writeOffAll s) ∧
      (removeTrayEntries s.hnd.trayArrivals s).tray = s.tray ∧ (removeTrayEntries s.hnd.trayArrivals s).dsp = s.dsp ∧
      (removeTrayEntries s.hnd.trayArrivals s).stc = s.stc ∧ (removeTrayEntries s.hnd.trayArrivals s).nowMs = s.nowMs := by
  have hentries := removeTrayEntries_frame s.hnd.trayArrivals s
  rw [writeOffAll_of_dispatch hr]
  refine ⟨writeOffCells_parts List.nodup_range _, ?_, ?_, ?_, ?_⟩ <;> rw [hentries]

theorem writeOffAll_chamber {s : State} (hr : s.role = .chamber) :
    EntriesEnded (List.range s.adm.table.length) s (writeOffAll s) := by
  rw [writeOffAll_of_chamber hr]
  exact endEntries_parts List.nodup_range s

/-- What every write-off leaves of Station Control, the time and the expected sequence. -/
theorem writeOffAll_common (s : State) :
    (writeOffAll s).stc = { s.stc with latched := (writeOffAll s).stc.latched } ∧
      (writeOffAll s).hnd.expected = s.hnd.expected ∧ (writeOffAll s).nowMs = s.nowMs ∧
      (s.role ≠ .chamber → (writeOffAll s).stc = s.stc) ∧
      ∀ n, n ≠ .half → n ≠ .full → (writeOffAll s).latchedNotice n = s.latchedNotice n := by
  have hfrom (hstc : (writeOffAll s).stc = s.stc) : (writeOffAll s).stc = { s.stc with latched := (writeOffAll s).stc.latched } ∧
      ∀ n, n ≠ .half → n ≠ .full → (writeOffAll s).latchedNotice n = s.latchedNotice n :=
    ⟨by rw [hstc], fun n _ _ => latchedNotice_of_latched (by rw [hstc]) n⟩
  by_cases hrow : s.role.isRow = true
  · obtain ⟨-, hhnd, hstc, hnow⟩ := writeOffAll_row hrow
    refine ⟨(hfrom hstc).1, ?_, hnow, fun _ => hstc, (hfrom hstc).2⟩
    rw [hhnd]
    split <;> rfl
  · cases hr : s.role with
    | filler => rw [hr] at hrow; exact absurd rfl hrow
    | lidder => rw [hr] at hrow; exact absurd rfl hrow
    | trayer => rw [hr] at hrow; exact absurd rfl hrow
    | chill =>
      obtain ⟨-, hhnd, hstc, hnow⟩ := writeOffAll_chill hr
      exact ⟨(hfrom hstc).1, by rw [hhnd], hnow, fun _ => hstc, (hfrom hstc).2⟩
    | dispatch =>
      obtain ⟨hcells, -, -, hstc, hnow⟩ := writeOffAll_dispatch hr
      have hstc' := hcells.stc.trans hstc
      exact ⟨(hfrom hstc').1, by rw [hcells.hnd, removeTrayEntries_hnd], hcells.nowMs.trans hnow, fun _ => hstc',
        (hfrom hstc').2⟩
    | chamber =>
      have hended := writeOffAll_chamber hr
      exact ⟨hended.stc, by rw [hended.hnd], hended.nowMs, fun h => absurd rfl h, hended.notices⟩

section Drained

variable {s : State} {d : Nat} (hd : s.stc.drainAt = some d) (hm : s.mode = .draining)

include hd hm in
theorem drained : DrainedFrom s (writtenOff d s) (drainOut s) :=
  drainOut_parts hd hm (writeOffAll_common (drainStart d s)).1

theorem writtenOff_role (d : Nat) (s : State) : (writtenOff d s).role = s.role := by
  refine (role_of_settings ?_).trans (drainStart_role d s)
  rw [writtenOff_eq, (writeOffAll_common (drainStart d s)).1]

include hd hm

/-- The drain timeout at a row role (R20, R39). -/
theorem drained_row (hr : s.role.isRow = true) :
    (drainOut s).mode = .sanitising ∧ (drainOut s).idx.window = [] ∧ (drainOut s).idx.posCount = 0 ∧
      (drainOut s).idx.debt = 0 ∧
      (drainOut s).idx.lost =
        (if heldCount s.idx.window = 0 then s.idx.lost
        else min 4294967295 (s.idx.lost + ((s.idx.window.filterMap id).map (fun r => r.body.potCount)).sum)) ∧
      (s.role ≠ .filler →
        (drainOut s).hnd.rowArrivals = [] ∧
          (drainOut s).hnd.missing =
            (if s.hnd.rowArrivals = [] then s.hnd.missing
            else min 4294967295 (s.hnd.missing + (s.hnd.rowArrivals.map (fun e => e.body.potCount)).sum))) := by
  have hrole := drainStart_role d s
  obtain ⟨hidx, hhnd, -, -⟩ := writeOffAll_row (s := drainStart d s) (by rw [hrole, hr])
  have harrivals (hf : s.role ≠ .filler) : (writtenOff d s).hnd = { s.hnd with
      rowArrivals := [], missing := bumped s.hnd.missing (s.hnd.rowArrivals.map (fun e => e.body.potCount)) } :=
    hhnd.trans (if_neg (by rw [hrole]; exact hf))
  have hrole' := writtenOff_role d s
  have hempty : stationEmpty (writtenOff d s) = true := by
    refine stationEmpty_of_row (by rw [hrole', hr]) (congrArg Idx.window hidx)
      (fun hf => by rw [harrivals (hrole' ▸ hf)]) fun ht => ?_
    have htray := writeOffAll_trayer (s := drainStart d s) (by rw [hrole, ← hrole', ht])
    rw [writtenOff_eq, htray]
    exact ⟨rfl, rfl⟩
  have hdrained := drained hd hm
  obtain ⟨hcount, hdebt⟩ := hdrained.counts hempty (by rw [hrole', hr])
  refine ⟨by rw [hdrained.mode, hempty]; rfl, hdrained.window.trans (congrArg Idx.window hidx), hcount, hdebt,
    hdrained.lostPots.trans ((congrArg Idx.lost hidx).trans (bumped_held _ _ _)), fun hf => ⟨?_, ?_⟩⟩
  · rw [hdrained.rowArrivals, harrivals hf]
  · rw [hdrained.missing, harrivals hf]
    exact bumped_map _ _ _

/-- The drain timeout at TRAYER (R80). -/
theorem drained_trayer (hr : s.role = .trayer) :
    (drainOut s).tray.forming = none ∧ (drainOut s).tray.formed = [] ∧
      (drainOut s).tray.lost =
        (if s.tray.forming = none ∧ s.tray.formed = [] then s.tray.lost
        else min 4294967295 (s.tray.lost + s.tray.formed.length + (if s.tray.forming = none then 0 else 1))) := by
  have htray := writeOffAll_trayer (s := drainStart d s) (by rw [drainStart_role, hr])
  rw [(drained hd hm).tray, writtenOff_eq, htray]
  refine ⟨rfl, rfl, ?_⟩
  show bumped s.tray.lost (((s.tray.forming.map Forming.tray).toList ++ s.tray.formed).map (fun _ => 1)) = _
  rw [bumped_ones]
  cases s.tray.forming with
  | none => simp
  | some f => simp [Nat.add_assoc]

/-- The drain timeout at CHILL (R39, R88). -/
theorem drained_chill (hr : s.role = .chill) :
    (drainOut s).mode = .sanitising ∧ (drainOut s).tray.queue = [] ∧ (drainOut s).hnd.trayArrivals = [] ∧
      (drainOut s).tray.lost =
        (if s.tray.queue = [] then s.tray.lost else min 4294967295 (s.tray.lost + s.tray.queue.length)) ∧
      (drainOut s).hnd.missing =
        (if s.hnd.trayArrivals = [] then s.hnd.missing
        else min 4294967295 (s.hnd.missing + s.hnd.trayArrivals.length)) := by
  obtain ⟨htray, hhnd, -, -⟩ := writeOffAll_chill (s := drainStart d s) (by rw [drainStart_role, hr])
  have hdrained := drained hd hm
  have hempty : stationEmpty (writtenOff d s) = true :=
    stationEmpty_of_chill (by rw [writtenOff_role, hr]) (congrArg Hnd.trayArrivals hhnd) (congrArg TrayUnit.queue htray)
  refine ⟨by rw [hdrained.mode, hempty]; rfl, ?_, hdrained.trayArrivals.trans (congrArg Hnd.trayArrivals hhnd), ?_,
    hdrained.missing.trans ((congrArg Hnd.missing hhnd).trans ?_)⟩
  · rw [hdrained.tray]
    exact congrArg TrayUnit.queue htray
  · rw [hdrained.tray]
    refine (congrArg TrayUnit.lost htray).trans ((bumped_ones _ _).trans ?_)
    simp only [List.length_eq_zero_iff]
    rfl
  · rw [bumped_ones]
    simp only [List.length_eq_zero_iff]
    rfl

/-- The drain timeout at DISPATCH (R39, R88, R125). -/
theorem drained_dispatch (hr : s.role = .dispatch) :
    (drainOut s).mode = (if s.tray.cells.any (fun o => o.any (fun c => !c.leaves)) then .draining else .sanitising) ∧
      (drainOut s).hnd.trayArrivals = [] ∧
      (∀ i, (drainOut s).cellAt i = (s.cellAt i).filter (fun c => !c.leaves)) ∧
      (drainOut s).tray.lost =
        (if (s.tray.cells.filter (fun o => o.any Cell.leaves)).length = 0 then s.tray.lost
        else min 4294967295 (s.tray.lost + (s.tray.cells.filter (fun o => o.any Cell.leaves)).length)) ∧
      (drainOut s).hnd.missing =
        (if s.hnd.trayArrivals = [] then s.hnd.missing
        else min 4294967295 (s.hnd.missing + s.hnd.trayArrivals.length)) ∧
      (∀ j o, slotAt (activeBank s) j = some o →
        (slotAt (activeBank (drainOut s)) j).map (fun q => (q.order, q.assigned)) =
          some (o.order, o.assigned -
            (s.tray.cells.filter (fun b => b.any (fun c => c.leaves && entryIndex s c.tray.order = some j))).length)) ∧
      ((∀ j x, s.slot j = some x → ∀ k y, s.slot k = some y → x.cell = y.cell → j = k) →
        ∀ j x, s.slot j = some x → (drainOut s).slot j = if (s.cellAt x.cell).any Cell.leaves then none else some x) := by
  obtain ⟨hoff, htray, hdsp, -, -⟩ := writeOffAll_dispatch (s := drainStart d s) (by rw [drainStart_role, hr])
  have hdrained := drained hd hm
  have hcell (i : Nat) : (removeTrayEntries (drainStart d s).hnd.trayArrivals (drainStart d s)).cellAt i = s.cellAt i :=
    cellAt_of_tray htray i
  have hslot (j : Nat) : (removeTrayEntries (drainStart d s).hnd.trayArrivals (drainStart d s)).slot j = s.slot j := by
    rw [State.slot, hdsp]
    rfl
  have hbank : activeBank (removeTrayEntries (drainStart d s).hnd.trayArrivals (drainStart d s)) = activeBank s :=
    activeBank_of_dsp hdsp
  have hentry (o : Option Nat) :
      entryIndex (removeTrayEntries (drainStart d s).hnd.trayArrivals (drainStart d s)) o = entryIndex s o :=
    entryIndex_of_orders (by rw [hbank]) o
  have hrange : (List.range s.tray.cells.length).filterMap s.cellAt = s.tray.cells.filterMap id :=
    filterMap_slotAt_range s.tray.cells
  have hall : (List.range (drainStart d s).tray.cells.length).filterMap
      (removeTrayEntries (drainStart d s).hnd.trayArrivals (drainStart d s)).cellAt = s.tray.cells.filterMap id := by
    rw [← hrange]
    exact List.filterMap_congr fun i _ => hcell i
  have hcells (i : Nat) : (writtenOff d s).cellAt i = (s.cellAt i).filter (fun c => !c.leaves) := by
    rw [writtenOff_eq, hoff.cells, hcell]
    split
    · rfl
    · next hi =>
      have hout : s.cellAt i = none := slotAt_of_length_le (Nat.not_lt.1 fun hlt => hi (List.mem_range.2 hlt))
      rw [hout]
      rfl
  have harrivals : (writtenOff d s).hnd = { s.hnd with
      trayArrivals := [], missing := bumped s.hnd.missing (s.hnd.trayArrivals.map (fun _ => 1)) } :=
    hoff.hnd.trans (removeTrayEntries_hnd _ _)
  have hempty : stationEmpty (writtenOff d s) = true ↔ s.tray.cells.any (fun o => o.any (fun c => !c.leaves)) = false := by
    rw [stationEmpty_of_dispatch (by rw [writtenOff_role, hr]) (by rw [harrivals]), decide_eq_true_iff, heldCount_eq_zero_iff,
      ← Bool.not_eq_true, any_eq_true_iff_slotAt]
    constructor
    · rintro h ⟨i, c, hc, hstays⟩
      have hkept : (writtenOff d s).cellAt i = some c := by
        rw [hcells, show s.cellAt i = some c from hc, Option.filter_some, hstays]
        rfl
      exact absurd (hkept.symm.trans (h i)) (by simp)
    · intro h i
      show (writtenOff d s).cellAt i = none
      rw [hcells]
      cases hc : s.cellAt i with
      | none => rfl
      | some c =>
        cases hstays : c.leaves with
        | true => simp [Option.filter_some, hstays]
        | false => exact absurd ⟨i, c, hc, by simp [hstays]⟩ h
  refine ⟨?_, by rw [hdrained.trayArrivals, harrivals], fun i => ?_, ?_, ?_, fun j o ho => ?_, fun huniq j x hx => ?_⟩
  · rw [hdrained.mode]
    by_cases hstay : s.tray.cells.any (fun o => o.any (fun c => !c.leaves)) = true
    · rw [if_pos hstay, if_neg fun h => by rw [hempty.1 h] at hstay; cases hstay]
    · rw [if_neg hstay, if_pos (hempty.2 (Bool.not_eq_true _ ▸ hstay))]
  · rw [cellAt_of_tray hdrained.tray, hcells]
  · rw [hdrained.tray, writtenOff_eq, hoff.lost, hall, htray, bumped_ones, length_filter_any]
    rfl
  · rw [hdrained.missing, harrivals]
    show bumped s.hnd.missing (s.hnd.trayArrivals.map (fun _ => 1)) = _
    rw [bumped_ones]
    simp only [List.length_eq_zero_iff]
  · rw [activeBank_of_dsp hdrained.dsp, writtenOff_eq, hoff.bank, hbank, ho, hall, length_filter_any]
    simp only [Option.map_some, hentry]
  · have hslots := hoff.slots (by simpa only [hslot] using huniq) j
    rw [State.slot, hdrained.dsp]
    refine hslots.trans ?_
    rw [hslot, hx, Option.filter_some, hcell]
    cases hleaves : (s.cellAt x.cell).any Cell.leaves with
    | false => simp
    | true =>
      obtain ⟨c, hc, -⟩ := (Option.any_eq_true _ _).1 hleaves
      have hmem : x.cell ∈ List.range (drainStart d s).tray.cells.length := List.mem_range.2 (lt_length_of_slotAt hc)
      rw [decide_eq_true hmem]
      rfl

/-- The drain timeout at CHAMBER (R147). -/
theorem drained_chamber (hr : s.role = .chamber) :
    let count := fun (f : Admission → Bool) => (s.adm.table.filter (fun o => o.any f)).length
    let ready := count (fun e => e.state = .ready)
    let claimed := count (fun e => e.state = .claimed || e.state = .inbound)
    (drainOut s).mode = (if count (fun e => e.state = .pending) = 0 then .sanitising else .draining) ∧
      (∀ i, (drainOut s).admission i = (s.admission i).filter (fun e => e.state = .pending)) ∧
      (drainOut s).adm.unclaimed = (if ready = 0 then s.adm.unclaimed else min 4294967295 (s.adm.unclaimed + ready)) ∧
      (drainOut s).adm.missing = (if claimed = 0 then s.adm.missing else min 4294967295 (s.adm.missing + claimed)) ∧
      (∀ n l, s.lane n = some l →
        ∃ q, (drainOut s).lane n = some q ∧ q.use = l.use ∧ q.capacity = l.capacity ∧ q.occupancy = l.occupancy ∧
          q.reserved = l.reserved - reservedFor s n ∧
          (0 < reservedFor s n →
            q.order = if l.use = .orders ∧ q.occupancy + q.reserved = 0 then none else l.order)) ∧
      (s.trc.entries.length + claimed ≤ 128 →
        (∀ i a, s.admission i = some a → ∀ j b, s.admission j = some b → a.tray = b.tray → i = j) →
        (drainOut s).trc.entries =
          s.trc.entries ++ ((s.adm.table.filterMap id).filter Admission.claimed).map (missingTrace s)) := by
  intro count ready claimed
  have hended := writeOffAll_chamber (s := drainStart d s) (by rw [drainStart_role, hr])
  have hdrained := drained hd hm
  have hall : (List.range (drainStart d s).adm.table.length).filterMap (drainStart d s).admission =
      s.adm.table.filterMap id := filterMap_slotAt_range s.adm.table
  have hentries (i : Nat) : (writtenOff d s).admission i = (s.admission i).filter (fun e => e.state = .pending) := by
    rw [writtenOff_eq, hended.entries]
    split
    · rfl
    · next hi =>
      have hout : s.admission i = none := slotAt_of_length_le (Nat.not_lt.1 fun hlt => hi (List.mem_range.2 hlt))
      show s.admission i = _
      rw [hout]
      rfl
  have hcount (f : Admission → Bool) : count f = ((s.adm.table.filterMap id).filter f).length := length_filter_any _ f
  have hempty : stationEmpty (writtenOff d s) = true ↔ count (fun e => e.state = .pending) = 0 := by
    rw [stationEmpty_of_chamber (by rw [writtenOff_role, hr]), decide_eq_true_iff, heldCount_eq_zero_iff, hcount,
      List.length_eq_zero_iff, List.filter_eq_nil_iff]
    constructor
    · intro h e he hp
      obtain ⟨o, ho, rfl⟩ := List.mem_filterMap.1 he
      obtain ⟨i, hi, heq⟩ := List.mem_iff_getElem.1 ho
      have hadm : s.admission i = some e := (getElem_eq_slotAt hi).symm.trans heq
      have hkept : (writtenOff d s).admission i = some e := by
        rw [hentries, hadm, Option.filter_some, hp]
        rfl
      exact absurd (hkept.symm.trans (h i)) (by simp)
    · intro h i
      show (writtenOff d s).admission i = none
      rw [hentries]
      cases he : s.admission i with
      | none => rfl
      | some e =>
        have hmem : e ∈ s.adm.table.filterMap id := List.mem_filterMap.2 ⟨some e, mem_of_slotAt he, rfl⟩
        rw [Option.filter_some, if_neg (h e hmem)]
  refine ⟨?_, fun i => ?_, ?_, ?_, fun n l hl => ?_, fun hlen huniq => ?_⟩
  · rw [hdrained.mode]
    simp only [hempty]
  · rw [admission_of_table hdrained.table, hentries]
  · rw [hdrained.unclaimed, writtenOff_eq, hended.unclaimed, hall, bumped_ones, ← hcount]
    rfl
  · rw [hdrained.missingTrays, writtenOff_eq, hended.missing, hall, bumped_ones, ← hcount]
    rfl
  · obtain ⟨huse, hcap, hocc, hres, horder⟩ := release_iterate l (reservedFor s n)
    refine ⟨Lane.release^[reservedFor s n] l, ?_, huse, hcap, hocc, hres, fun hpos => ?_⟩
    · rw [lane_congr hdrained.lanes, writtenOff_eq, hended.lanes, hall, reservedFor, length_filter_any]
      show (s.lane n).map _ = _
      rw [hl]
      rfl
    · rw [horder, hocc, hres]
      simp only [hpos, true_and]
  · have htrace := hended.trace (by rw [hall]; rw [← hcount]; exact hlen) huniq
    rw [hdrained.trc, writtenOff_eq, htrace, hall]
    rfl

end Drained

/-- Settles O9: the write-offs role by role, and what every drain timeout leaves. -/
theorem drainTimeoutWritesOff : Obligations.DrainTimeoutWritesOff := by
  intro d s hd hm
  have hdrained := drained hd hm
  obtain ⟨-, hexpected, hnow, hkept, hnotices⟩ := writeOffAll_common (drainStart d s)
  have hbit (n : Notice) (h1 : n ≠ .half) (h2 : n ≠ .full) : (drainOut s).latchedNotice n =
      (s.latchedNotice n || decide (recordsToWriteOff s ≠ 0 ∧ n = .writtenOff)) := by
    have hold : (writtenOff d s).stc.latched.getLsbD n.bit = s.latchedNotice n := hnotices n h1 h2
    rw [State.latchedNotice, hdrained.latched]
    by_cases hrec : recordsToWriteOff s = 0
    · simp [hrec, hold]
    · have hmask : Notice.writtenOff.mask.getLsbD n.bit = decide (n = .writtenOff) := by cases n <;> decide
      rw [if_neg hrec, BitVec.getLsbD_or, hold, hmask]
      simp [hrec]
  refine ⟨drainOut s, rfl, hdrained.drainAt, hdrained.expected.trans hexpected, hdrained.nowMs.trans hnow, hdrained.permit,
    hdrained.room, drained_row hd hm, drained_trayer hd hm, drained_chill hd hm, drained_dispatch hd hm, fun hr => ?_, ?_,
    fun hr => ?_⟩
  · obtain ⟨hmode, hentries, hunclaimed, hmissing, hlanes, htrace⟩ := drained_chamber hd hm hr
    refine ⟨hmode, hentries, hunclaimed, hmissing, hlanes, ?_, ?_, htrace⟩
    · rw [hbit _ (by decide) (by decide)]
      simp
    · rw [hbit _ (by decide) (by decide)]
      simp
  · rw [hbit _ (by decide) (by decide)]
    simp
  · rw [hdrained.latched, writtenOff_eq, hkept (by rw [drainStart_role]; exact hr)]
    rfl

end Sys2Proof.Machine
end

section
/-! The index event: what each stage leaves, and the rows position by position (R9 to R19). -/

namespace Sys2Proof.Machine

/-! ### Lots whose records keep a field -/

theorem findLotIn_map (l : List (Option LotRec)) (id : Nat) (g : LotRec → LotRec) (hg : ∀ r, (g r).id = r.id) :
    findLotIn (l.map (Option.map g)) id = (findLotIn l id).map g := by
  unfold findLotIn
  rw [List.find?_map]
  have hp : ((fun e : Option LotRec => e.any (fun r => r.id = id)) ∘ Option.map g) =
      fun e : Option LotRec => e.any (fun r => r.id = id) := by
    funext e
    cases e <;> simp [hg]
  rw [hp]
  cases l.find? (fun e => e.any (fun r => r.id = id)) <;> rfl

/-- The lot table of `t` holds the lots of `s` with the same values of `g`, and the open lot is the same. -/
structure SameLots {β : Type} (g : LotRec → β) (s t : State) : Prop where
  openIdx : t.lot.openIdx = s.lot.openIdx
  found : ∀ id, (findLot t id).map g = (findLot s id).map g
  entry : ∀ i, (slotAt t.lot.table i).map g = (slotAt s.lot.table i).map g

theorem SameLots.refl {β : Type} (g : LotRec → β) (s : State) : SameLots g s s := ⟨rfl, fun _ => rfl, fun _ => rfl⟩

theorem SameLots.trans {β : Type} {g : LotRec → β} {s t u : State} (h : SameLots g s t) (k : SameLots g t u) :
    SameLots g s u :=
  ⟨k.openIdx.trans h.openIdx, fun id => (k.found id).trans (h.found id), fun i => (k.entry i).trans (h.entry i)⟩

theorem SameLots.of_lot {β : Type} {g : LotRec → β} {s t : State} (h : t.lot = s.lot) : SameLots g s t := by
  refine ⟨by rw [h], fun id => ?_, fun i => by rw [h]⟩
  unfold findLot
  rw [h]

theorem SameLots.comp {β γ : Type} {g : LotRec → β} {s t : State} (h : SameLots g s t) (f : β → γ) :
    SameLots (f ∘ g) s t := by
  refine ⟨h.openIdx, fun id => ?_, fun i => ?_⟩
  · rw [← Option.map_map, h.found, Option.map_map]
  · rw [← Option.map_map, h.entry, Option.map_map]

theorem sameLots_updateLot {β : Type} {g : LotRec → β} {f : LotRec → LotRec} (hid : ∀ r, (f r).id = r.id)
    (hg : ∀ r, g (f r) = g r) (id : Nat) (s : State) : SameLots g s (updateLot id f s) := by
  have hsame (o : Option LotRec) : (o.map (fun r => if r.id = id then f r else r)).map g = o.map g := by
    cases o with
    | none => rfl
    | some r => simp only [Option.map_some]; split <;> simp [hg]
  refine ⟨rfl, fun k => ?_, fun i => ?_⟩
  · unfold findLot updateLot
    rw [findLotIn_map _ _ _ (fun r => by split <;> simp [hid]), hsame]
  · unfold updateLot
    rw [slotAt_map_map, hsame]

theorem sameLots_updateNamed {β : Type} {g : LotRec → β} {f : LotRec → LotRec} (hid : ∀ r, (f r).id = r.id)
    (hg : ∀ r, g (f r) = g r) (o : Option Nat) (s : State) : SameLots g s (updateNamed o f s) := by
  cases o with
  | none => exact .refl g s
  | some id => exact sameLots_updateLot hid hg id s

/-- A lot's record less its reference count and state. -/
def LotRec.terms (r : LotRec) : LotRec := { r with refs := 0, state := .opened }

theorem sameTerms_lotArrive (o : Option Nat) (s : State) : SameLots LotRec.terms s (lotArrive o s) :=
  sameLots_updateNamed (f := LotRec.arrive) (fun _ => rfl) (fun _ => rfl) o s

theorem sameTerms_lotDepart (o : Option Nat) (s : State) : SameLots LotRec.terms s (lotDepart o s) :=
  sameLots_updateNamed (f := LotRec.depart) (fun _ => rfl) (fun _ => rfl) o s

/-! ### The exit stage (R10 to R12) -/

/-- What the exit stage leaves whatever it does with the row. -/
structure Exited (s t : State) : Prop where
  idx : t.idx = { s.idx with lost := t.idx.lost }
  hnd : t.hnd = { s.hnd with nextSeq := t.hnd.nextSeq }
  stc : t.stc = { s.stc with latched := t.stc.latched }
  lid : t.lid = s.lid
  nowMs : t.nowMs = s.nowMs
  slot : t.lnk.creditSlot = s.lnk.creditSlot
  lots : SameLots LotRec.terms s t

theorem Exited.refl (s : State) : Exited s s := ⟨rfl, rfl, rfl, rfl, rfl, rfl, .refl _ s⟩

theorem Exited.trans {s t u : State} (h : Exited s t) (k : Exited t u) : Exited s u :=
  ⟨by rw [k.idx, h.idx], by rw [k.hnd, h.hnd], by rw [k.stc, h.stc], k.lid.trans h.lid, k.nowMs.trans h.nowMs,
    k.slot.trans h.slot, h.lots.trans k.lots⟩

theorem exited_lotDepart (o : Option Nat) (s : State) : Exited s (lotDepart o s) :=
  ⟨by simp, by simp, by simp, by simp, by simp, by simp, sameTerms_lotDepart o s⟩

theorem exited_lotArrive (o : Option Nat) (s : State) : Exited s (lotArrive o s) :=
  ⟨by simp, by simp, by simp, by simp, by simp, by simp, sameTerms_lotArrive o s⟩

theorem exited_tray (s : State) (x : TrayUnit) : Exited s { s with tray := x } :=
  ⟨rfl, rfl, rfl, rfl, rfl, rfl, .of_lot rfl⟩

theorem exited_closeTray (short : Bool) (s : State) : Exited s (closeTray short s) := by
  have h : closeTray short s = { s with tray := (closeTray short s).tray } := by
    unfold closeTray
    split
    · rfl
    · split <;> rfl
  rw [h]
  exact exited_tray s _

theorem exited_formRow (b : RowBody) (s : State) : Exited s (formRow b s) := by
  have hstart (u : State) : Exited u (startTray b.lot u) := by
    unfold startTray
    split
    · exact .refl u
    · exact .trans (exited_tray u _) (exited_lotArrive _ _)
  have hjoin (u : State) : Exited u (joinTray b u) := by
    unfold joinTray
    split
    · exact .refl u
    · dsimp only
      split
      · exact .trans (.trans (exited_tray u _) (exited_lotDepart _ _)) (exited_closeTray _ _)
      · exact .trans (exited_tray u _) (exited_lotDepart _ _)
  unfold formRow
  dsimp only
  split
  · exact (exited_closeTray true s).trans ((hstart _).trans (hjoin _))
  · exact (hstart s).trans (hjoin _)

theorem exited_writeOffRow (b : RowBody) (s : State) : Exited s (writeOffRow b s) := by
  have hlots : (writeOffRow b s).lot = (lotDepart b.lot s).lot := rfl
  exact ⟨by simp [writeOffRow], by simp [writeOffRow], by simp [writeOffRow, latch], by simp [writeOffRow], by simp [writeOffRow],
    by simp [writeOffRow], (sameTerms_lotDepart b.lot s).trans (.of_lot hlots)⟩

theorem pushMain_creditSlot (f : Frame) (s : State) : (pushMain f s).lnk.creditSlot = s.lnk.creditSlot := by
  unfold pushMain
  split <;> rfl

theorem exited_sendRow (b : RowBody) (s : State) : Exited s (sendRow b s) := by
  refine .trans ?_ (exited_lotDepart _ _)
  exact ⟨by simp, by simp, by simp, by simp, by simp, pushMain_creditSlot _ s, .of_lot (by simp)⟩

theorem exitStage_exited (s : State) : Exited s (exitStage s) := by
  unfold exitStage
  split
  · exact .refl s
  split
  · exact exited_lotDepart _ s
  split
  · split
    · exact exited_writeOffRow _ s
    · exact exited_formRow _ s
  · split
    · exact exited_sendRow _ s
    · exact exited_writeOffRow _ s

/-! ### The treat stage (R65 to R72, R17) -/

/-- What the treatments of a row leave. -/
structure Treated (s t : State) : Prop where
  hnd : t.hnd = s.hnd
  tray : t.tray = s.tray
  nowMs : t.nowMs = s.nowMs
  settings : t.stc.settings = s.stc.settings
  idx : t.idx = { s.idx with window := t.idx.window, pulses := t.idx.pulses, unknownRejects := t.idx.unknownRejects }
  slot : t.lnk.creditSlot = s.lnk.creditSlot
  mode : t.mode = s.mode ∨ s.mode = .running ∧ t.mode = .held
  frames : ∀ f ∈ s.lnk.mainQ, f.isState = false → f ∈ t.lnk.mainQ
  notices : ∀ n, s.latchedNotice n = true → t.latchedNotice n = true
  lots : SameLots LotRec.potsReceived s t

theorem Treated.refl (s : State) : Treated s s :=
  ⟨rfl, rfl, rfl, rfl, rfl, rfl, .inl rfl, fun _ h _ => h, fun _ h => h, .refl _ s⟩

theorem Treated.trans {s t u : State} (h : Treated s t) (k : Treated t u) : Treated s u where
  hnd := k.hnd.trans h.hnd
  tray := k.tray.trans h.tray
  nowMs := k.nowMs.trans h.nowMs
  settings := k.settings.trans h.settings
  idx := by rw [k.idx, h.idx]
  slot := k.slot.trans h.slot
  mode := by
    obtain hk | ⟨hk, hk'⟩ := k.mode
    · rw [hk]; exact h.mode
    · obtain hh | ⟨-, hh⟩ := h.mode
      · exact .inr ⟨hh ▸ hk, hk'⟩
      · rw [hh] at hk; cases hk
  frames f hf hs := k.frames f (h.frames f hf hs) hs
  notices n hn := k.notices n (h.notices n hn)
  lots := h.lots.trans k.lots

theorem treated_latch (n : Notice) (s : State) : Treated s (latch n s) := by
  refine ⟨rfl, rfl, rfl, rfl, rfl, rfl, .inl rfl, fun _ h _ => h, fun m h => ?_, .of_lot rfl⟩
  unfold State.latchedNotice at h ⊢
  rw [latch_latched, BitVec.getLsbD_or, h, Bool.true_or]

theorem mem_placeState {f g : Frame} {s : State} (h : f ∈ s.lnk.mainQ) (hf : f.isState = false) :
    f ∈ (placeState g s).lnk.mainQ := by
  unfold placeState
  split
  · exact List.mem_map.2 ⟨f, h, by rw [hf]; rfl⟩
  · split
    · exact List.mem_append_left _ h
    · exact h

theorem placeState_creditSlot (g : Frame) (s : State) : (placeState g s).lnk.creditSlot = s.lnk.creditSlot := by
  unfold placeState
  split
  · rfl
  · split <;> rfl

theorem treated_addCause (c : Cause) (s : State) : Treated s (addCause c s) := by
  have hslot : (addCause c s).lnk.creditSlot = s.lnk.creditSlot := by
    unfold addCause
    dsimp only
    split
    · exact placeState_creditSlot _ _
    · rfl
  have hframes (f : Frame) (h : f ∈ s.lnk.mainQ) (hf : f.isState = false) : f ∈ (addCause c s).lnk.mainQ := by
    unfold addCause
    dsimp only
    split
    · exact mem_placeState h hf
    · exact h
  have hmode : (addCause c s).mode = s.mode ∨ s.mode = .running ∧ (addCause c s).mode = .held := by
    rw [State.mode, addCause_mode]
    split
    · next h => exact .inr ⟨h, rfl⟩
    · exact .inl rfl
  exact ⟨by simp, by simp, by simp, by simp, by simp, hslot, hmode, hframes,
    fun n h => (latchedNotice_of_latched (by simp) n).trans h, .of_lot (by simp)⟩

theorem treated_lid (s : State) (x : Lid) : Treated s { s with lid := x } :=
  ⟨rfl, rfl, rfl, rfl, rfl, rfl, .inl rfl, fun _ h _ => h, fun _ h => h, .of_lot rfl⟩

theorem treated_window (s : State) (w : List (Option Row)) (p : List (Option Nat)) :
    Treated s { s with idx.window := w, idx.pulses := p } :=
  ⟨rfl, rfl, rfl, rfl, rfl, rfl, .inl rfl, fun _ h _ => h, fun _ h => h, .of_lot rfl⟩

theorem treated_updateRow (p : Nat) (f : RowBody → RowBody) (s : State) : Treated s (updateRow p f s) :=
  treated_window s _ s.idx.pulses

theorem treated_splice (s : State) : Treated s (splice s) := (treated_lid s _).trans (treated_latch _ _)

theorem treated_reelMismatch (s : State) : Treated s (reelMismatch s) :=
  (treated_lid s _).trans ((treated_addCause _ _).trans (treated_latch _ _))

theorem treated_reelsOut (s : State) : Treated s (reelsOut s) := (treated_addCause _ s).trans (treated_latch _ _)

theorem treated_useLid (r : Reel) (s : State) : Treated s (useLid r s) := by
  unfold useLid
  dsimp only
  split
  · exact (treated_lid s _).trans (treated_splice _)
  · exact treated_lid s _

theorem treated_lidPots (l : LotRec) (pots : List (Option Pot)) (s : State) : Treated s (lidPots l pots s).2 := by
  induction pots generalizing s with
  | nil => exact .refl s
  | cons o rest ih =>
    cases o with
    | none => exact ih s
    | some p =>
      unfold lidPots
      split
      · exact ih s
      · split
        · exact treated_reelsOut s
        · split
          · exact (treated_useLid _ s).trans (ih _)
          · exact treated_reelMismatch s

theorem treated_lidStage (s : State) : Treated s (lidStage s) := by
  have hcheck (b : RowBody) (l : LotRec) (u : State) : Treated u (checkReel s.lidPos b l u) := by
    unfold checkReel
    split
    · exact .refl u
    · split
      · exact (treated_lidPots l b.pots u).trans (treated_updateRow _ _ _)
      · exact (treated_updateRow _ _ u).trans (treated_reelMismatch _)
  unfold lidStage
  dsimp only
  split
  · exact .refl s
  split
  · exact .refl s
  split
  · exact .refl s
  split
  · exact (treated_updateRow _ _ s).trans (treated_reelsOut _)
  · split
    · exact (treated_splice s).trans (hcheck _ _ _)
    · exact hcheck _ _ s

theorem treated_bondLane (p k : Nat) (pass : Bool) (s : State) : Treated s (bondLane p k pass s) := by
  unfold bondLane
  split
  · exact treated_lid s _
  · dsimp only
    split
    · exact (treated_updateRow p _ s).trans ((treated_lid _ _).trans ((treated_lid _ _).trans
        ((treated_latch _ _).trans (treated_addCause _ _))))
    · exact (treated_updateRow p _ s).trans (treated_lid _ _)

theorem treated_bondLanes (p : Nat) (passes : BitVec 8) (ks : List Nat) (s : State) : Treated s (bondLanes p passes ks s) := by
  induction ks generalizing s with
  | nil => exact .refl s
  | cons k ks ih =>
    unfold bondLanes
    dsimp only
    split
    · exact (treated_bondLane p k _ s).trans (ih _)
    · exact ih s

theorem treated_countRejects (lot : Option Nat) (n : Nat) (s : State) : Treated s (countRejects lot n s) := by
  unfold countRejects
  split
  · exact ⟨rfl, rfl, rfl, rfl, rfl, rfl, .inl rfl, fun _ h _ => h, fun _ h => h, .of_lot rfl⟩
  · exact ⟨rfl, rfl, rfl, rfl, rfl, rfl, .inl rfl, fun _ h _ => h, fun _ h => h,
      sameLots_updateLot (f := fun r => { r with potsRejected := bump r.potsRejected n }) (fun _ => rfl) (fun _ => rfl) _ s⟩

theorem treated_gateStage (s : State) : Treated s (gateStage s) := by
  unfold gateStage
  split
  · exact .refl s
  · exact (treated_window s s.idx.window _).trans ((treated_updateRow _ _ _).trans (treated_countRejects _ _ _))

theorem treated_treatStage (passes : BitVec 8) (s : State) : Treated s (treatStage passes s) := by
  unfold treatStage
  refine .trans ?_ (treated_gateStage _)
  split
  · exact (treated_lidStage s).trans (treated_bondLanes _ _ _ _)
  · exact .refl s

/-! ### The rows position by position -/

theorem rowAt_of_window {s t : State} (h : t.idx.window = s.idx.window) (p : Nat) : t.rowAt p = s.rowAt p := by
  rw [State.rowAt, h]
  rfl

theorem rowAt_updateRow (p q : Nat) (f : RowBody → RowBody) (s : State) :
    (updateRow p f s).rowAt q = if q = p then (s.rowAt q).map (fun r => { r with body := f r.body }) else s.rowAt q := by
  simp only [State.rowAt, updateRow, slotAt_modifyAt_map]

theorem rowAt_advanceStage_succ (p : Nat) (s : State) :
    (advanceStage s).rowAt (p + 1) = if p + 1 < s.windowLength then s.rowAt p else none := by
  show slotAt (s.idx.window.take (s.windowLength - 1)) p = _
  unfold slotAt
  rw [List.getElem?_take]
  by_cases h : p + 1 < s.windowLength
  · rw [if_pos (by omega), if_pos h]
    rfl
  · rw [if_neg (by omega), if_neg h]
    rfl

theorem rowAt_enterRow_zero (b : RowBody) (s : State) :
    (enterRow b s).rowAt 0 = some { number := s.idx.nextRow, body := b } := rfl

theorem rowAt_enterRow_succ (b : RowBody) (s : State) (p : Nat) : (enterRow b s).rowAt (p + 1) = s.rowAt (p + 1) := by
  show slotAt s.idx.window.tail p = slotAt s.idx.window (p + 1)
  cases s.idx.window <;> rfl

/-- The fill stage changes position 0 alone. -/
theorem rowAt_fillStage_succ (presence : BitVec 8) (s : State) (p : Nat) :
    (fillStage presence s).rowAt (p + 1) = s.rowAt (p + 1) := by
  unfold fillStage
  dsimp only
  split
  · rfl
  split
  · rfl
  split
  · exact (rowAt_enterRow_succ _ _ p).trans (rowAt_of_window (by simp) _)
  · unfold pairRow
    split
    · exact rowAt_enterRow_succ _ _ p
    · exact (rowAt_enterRow_succ _ _ p).trans (rowAt_of_window (by simp) _)

/-- The treatments change the bodies of the rows at the lid, bond and gate positions alone, and no row's lot. -/
structure RowTreated (o p : Option Row) : Prop where
  alike : p.map (fun r => (r.number, r.body.lot, r.body.pots.length)) = o.map (fun r => (r.number, r.body.lot, r.body.pots.length))
  marked : ∀ r q, o = some r → p = some q → ∀ k x, slotAt r.body.pots k = some x → x.marked = true →
    ∃ y, slotAt q.body.pots k = some y ∧ y.marked = true

theorem RowTreated.refl (o : Option Row) : RowTreated o o :=
  ⟨rfl, fun r q hr hq k x hx hm => by
    obtain rfl : r = q := Option.some.inj (hr.symm.trans hq)
    exact ⟨x, hx, hm⟩⟩

theorem RowTreated.trans {a b c : Option Row} (h : RowTreated a b) (k : RowTreated b c) : RowTreated a c := by
  refine ⟨k.alike.trans h.alike, fun r q hr hq j x hx hm => ?_⟩
  have hb : b.isSome = true := by
    have := congrArg Option.isSome k.alike
    rw [hq] at this
    simpa using this.symm
  obtain ⟨m, hm'⟩ := Option.isSome_iff_exists.1 hb
  obtain ⟨y, hy, hmy⟩ := h.marked r m hr hm' j x hx hm
  exact k.marked m q hm' hq j y hy hmy

/-- A change of a body that keeps the lot, the number of pots and every mark. -/
structure BodyTreated (b c : RowBody) : Prop where
  lot : c.lot = b.lot
  length : c.pots.length = b.pots.length
  marked : ∀ k x, slotAt b.pots k = some x → x.marked = true → ∃ y, slotAt c.pots k = some y ∧ y.marked = true

theorem rowTreated_updateRow {p : Nat} {f : RowBody → RowBody} {s : State}
    (hf : ∀ r, s.rowAt p = some r → BodyTreated r.body (f r.body)) (q : Nat) :
    RowTreated (s.rowAt q) ((updateRow p f s).rowAt q) := by
  rw [rowAt_updateRow]
  split
  · next hq =>
    subst hq
    cases hr : s.rowAt q with
    | none => exact .refl none
    | some r =>
      have hb := hf r hr
      refine ⟨by simp [hb.lot, hb.length], fun r' q' h1 h2 => ?_⟩
      cases h1
      cases h2
      exact hb.marked
  · exact .refl _

theorem marked_mark (x : Pot) (r : Reason) : (x.mark r).marked = true := by
  have hne : ∀ b : BitVec 9, b ||| r.mask ≠ 0#9 := by cases r <;> decide
  exact decide_eq_true (hne x.reasons)

theorem bodyTreated_map {b : RowBody} {g : Pot → Pot} (hg : ∀ x, x.marked = true → (g x).marked = true) :
    BodyTreated b { b with pots := b.pots.map (Option.map g) } := by
  refine ⟨rfl, List.length_map _, fun k x hx hm => ⟨g x, ?_, hg x hm⟩⟩
  show slotAt (b.pots.map (Option.map g)) k = _
  rw [slotAt_map_map, hx]
  rfl

theorem bodyTreated_markAll (b : RowBody) (r : Reason) : BodyTreated b (b.markAll r) :=
  bodyTreated_map fun x _ => marked_mark x r

theorem marked_of_not_toLid {x : Pot} (h : x.marked = true) : x.toLid = false := by
  have hne : x.reasons ≠ 0#9 := of_decide_eq_true h
  simp [Pot.toLid, hne]

theorem marked_noLid {x : Pot} (h : x.marked = true) : (if x.toLid then x.mark .noLid else x).marked = true := by
  rw [marked_of_not_toLid h]
  exact h

/-- A pot that carries a reason passes the lidding as it is. -/
theorem slotAt_lidPots_of_marked (l : LotRec) (pots : List (Option Pot)) (s : State) {k : Nat} {x : Pot}
    (hx : slotAt pots k = some x) (hm : x.marked = true) : slotAt (lidPots l pots s).1 k = some x := by
  have hnot := marked_of_not_toLid hm
  induction pots generalizing s k with
  | nil => cases hx
  | cons o rest ih =>
    cases o with
    | none =>
      cases k with
      | zero => cases hx
      | succ k => exact ih s hx
    | some p =>
      have hrest : slotAt ((some p :: rest).map (Option.map (fun q => if q.toLid then q.mark .noLid else q))) k = some x := by
        rw [slotAt_map_map, hx, Option.map_some, hnot]
        rfl
      unfold lidPots
      split
      · cases k with
        | zero => exact hx
        | succ k => exact ih s hx
      · next htoLid =>
        split
        · exact hrest
        · split
          · cases k with
            | zero =>
              obtain rfl : p = x := Option.some.inj hx
              rw [hnot] at htoLid
              exact absurd rfl htoLid
            | succ k => exact ih _ hx
          · exact hrest

theorem rowTreated_lidStage (s : State) (q : Nat) : RowTreated (s.rowAt q) ((lidStage s).rowAt q) := by
  have hcheck (r : Row) (l : LotRec) (u : State) (hu : u.rowAt s.lidPos = some r) :
      RowTreated (u.rowAt q) ((checkReel s.lidPos r.body l u).rowAt q) := by
    unfold checkReel
    split
    · exact .refl _
    · split
      · have hidx := lidPots_idx l r.body.pots u
        dsimp only
        have hsame (p : Nat) : (lidPots l r.body.pots u).2.rowAt p = u.rowAt p := rowAt_of_window (by rw [hidx]) p
        rw [← hsame q]
        refine rowTreated_updateRow (fun r' hr' => ?_) q
        obtain rfl : r = r' := Option.some.inj (hu.symm.trans ((hsame _).symm.trans hr'))
        exact ⟨rfl, lidPots_length l r.body.pots u, fun k x hx hm => ⟨x, slotAt_lidPots_of_marked l _ u hx hm, hm⟩⟩
      · have hsame : (reelMismatch (updateRow s.lidPos (fun c => c.markAll .lidMismatch) u)).rowAt q =
            (updateRow s.lidPos (fun c => c.markAll .lidMismatch) u).rowAt q := rowAt_of_window (by simp [reelMismatch]) q
        rw [hsame]
        exact rowTreated_updateRow (fun r' _ => bodyTreated_markAll _ _) q
  unfold lidStage
  dsimp only
  split
  · exact .refl _
  next r hr =>
  split
  · exact .refl _
  split
  · exact .refl _
  next l _ =>
  split
  · have hsame (u : State) : (reelsOut u).rowAt q = u.rowAt q := rowAt_of_window (by simp [reelsOut]) q
    rw [hsame]
    exact rowTreated_updateRow (fun r' _ => bodyTreated_map fun x => marked_noLid) q
  · split
    · exact hcheck r l (splice s) hr
    · exact hcheck r l s hr

theorem rowAt_lidStage_of_ne {s : State} {q : Nat} (hq : q ≠ s.lidPos) : (lidStage s).rowAt q = s.rowAt q := by
  have hcheck (b : RowBody) (l : LotRec) (u : State) : (checkReel s.lidPos b l u).rowAt q = u.rowAt q := by
    unfold checkReel
    split
    · rfl
    · split
      · exact (rowAt_updateRow_of_ne hq _ _).trans (rowAt_of_window (by rw [lidPots_idx]) q)
      · have hsame (v : State) : (reelMismatch v).rowAt q = v.rowAt q := rowAt_of_window (by simp [reelMismatch]) q
        rw [hsame]
        exact rowAt_updateRow_of_ne hq _ u
  unfold lidStage
  dsimp only
  split
  · rfl
  split
  · rfl
  split
  · rfl
  split
  · have hsame (v : State) : (reelsOut v).rowAt q = v.rowAt q := rowAt_of_window (by simp [reelsOut]) q
    rw [hsame]
    exact rowAt_updateRow_of_ne hq _ s
  · split
    · exact hcheck _ _ (splice s)
    · exact hcheck _ _ s

/-- A bond sample marks the pot of its lane alone, where it fails (R71). -/
theorem rowAt_bondLane (p k q : Nat) (pass : Bool) (s : State) :
    (bondLane p k pass s).rowAt q =
      if pass then s.rowAt q
      else (updateRow p (fun b => { b with pots := modifyAt b.pots k (Option.map (fun x => x.mark .bond)) }) s).rowAt q := by
  unfold bondLane
  split
  · rfl
  · dsimp only
    split
    · exact rowAt_of_window (by simp [tripLane]) q
    · rfl

theorem bodyTreated_bond (b : RowBody) (k : Nat) :
    BodyTreated b { b with pots := modifyAt b.pots k (Option.map (fun x => x.mark .bond)) } := by
  refine ⟨rfl, modifyAt_length _ _ _, fun j x hx hm => ?_⟩
  show ∃ y, slotAt (modifyAt b.pots k (Option.map (fun x => x.mark .bond))) j = some y ∧ _
  rw [slotAt_modifyAt_map]
  split
  · exact ⟨x.mark .bond, by rw [hx]; rfl, marked_mark x _⟩
  · exact ⟨x, hx, hm⟩

theorem rowTreated_bondLanes (p : Nat) (passes : BitVec 8) (ks : List Nat) (s : State) (q : Nat) :
    RowTreated (s.rowAt q) ((bondLanes p passes ks s).rowAt q) := by
  induction ks generalizing s with
  | nil => exact .refl _
  | cons k ks ih =>
    unfold bondLanes
    dsimp only
    split
    · refine .trans ?_ (ih _)
      rw [rowAt_bondLane]
      split
      · exact .refl _
      · exact rowTreated_updateRow (fun r _ => bodyTreated_bond r.body k) q
    · exact ih s

theorem rowAt_bondLanes_of_ne {p q : Nat} (hq : q ≠ p) (passes : BitVec 8) (ks : List Nat) (s : State) :
    (bondLanes p passes ks s).rowAt q = s.rowAt q := by
  induction ks generalizing s with
  | nil => rfl
  | cons k ks ih =>
    unfold bondLanes
    dsimp only
    split
    · rw [ih, rowAt_bondLane]
      split
      · rfl
      · exact rowAt_updateRow_of_ne hq _ s
    · exact ih s

/-- The treatments at LIDDER before the gate. -/
def lidTreated (passes : BitVec 8) (s : State) : State := if s.role = .lidder then bondStage passes (lidStage s) else s

theorem treatStage_eq (passes : BitVec 8) (s : State) : treatStage passes s = gateStage (lidTreated passes s) := rfl

theorem treated_lidTreated (passes : BitVec 8) (s : State) : Treated s (lidTreated passes s) := by
  unfold lidTreated
  split
  · exact (treated_lidStage s).trans (treated_bondLanes _ _ _ _)
  · exact .refl s

theorem position_of_settings {s t : State} (h : t.stc.settings = s.stc.settings) :
    t.lidPos = s.lidPos ∧ t.bondPos = s.bondPos ∧ t.gatePos = s.gatePos ∧ t.windowLength = s.windowLength ∧
      t.laneCount = s.laneCount ∧ t.upstream = s.upstream ∧ t.downstream = s.downstream := by
  have hset (n : Nat) : t.setting n = s.setting n := by rw [State.setting, h]; rfl
  have hnum (n : Nat) : t.num n = s.num n := by rw [State.num, hset]; rfl
  exact ⟨hnum 9, hnum 10, hnum 11, hnum 6, hnum 8, hnum 12, hnum 13⟩

theorem rowTreated_lidTreated (passes : BitVec 8) (s : State) (q : Nat) :
    RowTreated (s.rowAt q) ((lidTreated passes s).rowAt q) := by
  unfold lidTreated
  split
  · exact (rowTreated_lidStage s q).trans (rowTreated_bondLanes _ _ _ _ q)
  · exact .refl _

theorem rowAt_lidTreated_of_ne {passes : BitVec 8} {s : State} {q : Nat}
    (h : s.role ≠ .lidder ∨ q ≠ s.lidPos ∧ q ≠ s.bondPos) : (lidTreated passes s).rowAt q = s.rowAt q := by
  unfold lidTreated
  split
  · next hr =>
    obtain ⟨hlid, hbond⟩ := h.resolve_left (not_not.2 hr)
    have hpos := (position_of_settings (treated_lidStage s).settings).2.1
    rw [bondStage, rowAt_bondLanes_of_ne (by rwa [hpos]), rowAt_lidStage_of_ne hlid]
  · rfl

/-! ### The gate (R17, R18) -/

theorem gateStage_of_none {s : State} (h : s.rowAt s.gatePos = none) : gateStage s = s := by
  rw [gateStage, h]

theorem countRejects_frame (lot : Option Nat) (n : Nat) (s : State) :
    (countRejects lot n s).idx.window = s.idx.window ∧ (countRejects lot n s).idx.pulses = s.idx.pulses := by
  unfold countRejects
  split <;> exact ⟨rfl, rfl⟩

theorem gateStage_of_row {s : State} {r : Row} (h : s.rowAt s.gatePos = some r) :
    (∀ q, (gateStage s).rowAt q =
      if q = s.gatePos then some { r with body := r.body.gated } else s.rowAt q) ∧
      (gateStage s).idx.pulses = gatePulses s.nowMs r.body.pots s.idx.pulses := by
  have hstage : gateStage s = countRejects r.body.lot r.body.markedCount
      (updateRow s.gatePos RowBody.gated { s with idx.pulses := gatePulses s.nowMs r.body.pots s.idx.pulses }) := by
    rw [gateStage, h]
  obtain ⟨hwindow, hpulses⟩ := countRejects_frame r.body.lot r.body.markedCount
    (updateRow s.gatePos RowBody.gated { s with idx.pulses := gatePulses s.nowMs r.body.pots s.idx.pulses })
  rw [hstage, hpulses]
  refine ⟨fun q => ?_, rfl⟩
  rw [rowAt_of_window hwindow, rowAt_updateRow]
  split
  · next hq =>
    subst hq
    show (s.rowAt s.gatePos).map _ = _
    rw [h]
    rfl
  · rfl

theorem gateStage_rowAt_of_ne {s : State} {q : Nat} (hq : q ≠ s.gatePos) : (gateStage s).rowAt q = s.rowAt q := by
  cases h : s.rowAt s.gatePos with
  | none => rw [gateStage_of_none h]
  | some r => rw [(gateStage_of_row h).1, if_neg hq]

/-! ### The whole event -/

/-- The state of an index event when its rows are treated. -/
def rowsMoved (presence : BitVec 8) (s : State) : State := fillWindow presence { s with idx.posCount := 0 }

/-- The state before the window's position 0 is filled. -/
def rowsAdvanced (s : State) : State := advanceStage (exitStage { s with idx.posCount := 0 })

theorem rowsMoved_eq (presence : BitVec 8) (s : State) :
    rowsMoved presence s = settleSince { s with idx.posCount := 0 } (fillStage presence (rowsAdvanced s)) := rfl

theorem exited_start (s : State) : Exited { s with idx.posCount := 0 } (exitStage { s with idx.posCount := 0 }) :=
  exitStage_exited _

theorem rowsAdvanced_settings (s : State) : (rowsAdvanced s).stc = { s.stc with latched := (rowsAdvanced s).stc.latched } :=
  (exited_start s).stc

/-- A row below the top moves up one position (R9). -/
theorem rowAt_rowsMoved_succ (presence : BitVec 8) (s : State) (p : Nat) :
    (rowsMoved presence s).rowAt (p + 1) = if p + 1 < s.windowLength then s.rowAt p else none := by
  have hexit := exited_start s
  have hlen : (exitStage { s with idx.posCount := 0 }).windowLength = s.windowLength := by
    refine (position_of_settings ?_).2.2.2.1
    rw [hexit.stc]
  have hrow : (exitStage { s with idx.posCount := 0 }).rowAt p = s.rowAt p := by
    refine rowAt_of_window ?_ p
    rw [hexit.idx]
  rw [rowsMoved_eq, rowAt_of_window (congrArg Idx.window (settleSince_idx _ _)), rowAt_fillStage_succ, rowsAdvanced,
    rowAt_advanceStage_succ, hlen, hrow]

theorem fillStage_stc (presence : BitVec 8) (s : State) : (fillStage presence s).stc = s.stc := by
  unfold fillStage
  dsimp only
  split
  · rfl
  split
  · rfl
  split
  · simp [createRow]
  · unfold pairRow
    split <;> simp [strayAdvance]

theorem rowsMoved_stc (presence : BitVec 8) (s : State) :
    (rowsMoved presence s).stc = { s.stc with latched := (rowsMoved presence s).stc.latched } := by
  have h : (rowsMoved presence s).stc = (rowsAdvanced s).stc := by rw [rowsMoved_eq, settleSince_stc, fillStage_stc]
  rw [h, rowsAdvanced_settings]

/-- An index event as the stages leave it. -/
theorem indexEvent_eq (presence bond : BitVec 8) (s : State) :
    indexEvent presence bond { s with idx.posCount := 0 } =
      settleFlow (closeOnDrain (treatStage bond (rowsMoved presence s))) := rfl

section Event

variable (presence bond : BitVec 8) (s : State)

theorem indexEvent_idx : (indexEvent presence bond { s with idx.posCount := 0 }).idx =
    (treatStage bond (rowsMoved presence s)).idx := by
  rw [indexEvent_eq, settleFlow_idx, closeOnDrain_idx]

theorem indexEvent_stc : (indexEvent presence bond { s with idx.posCount := 0 }).stc =
    (treatStage bond (rowsMoved presence s)).stc := by
  rw [indexEvent_eq, settleFlow_stc, closeOnDrain_stc]

theorem indexEvent_lid : (indexEvent presence bond { s with idx.posCount := 0 }).lid =
    (treatStage bond (rowsMoved presence s)).lid := by
  rw [indexEvent_eq, settleFlow_lid, closeOnDrain_lid]

theorem indexEvent_lot : (indexEvent presence bond { s with idx.posCount := 0 }).lot =
    (treatStage bond (rowsMoved presence s)).lot := by
  rw [indexEvent_eq, settleFlow_lot, closeOnDrain_lot]

theorem indexEvent_rowAt (p : Nat) : (indexEvent presence bond { s with idx.posCount := 0 }).rowAt p =
    (treatStage bond (rowsMoved presence s)).rowAt p := rowAt_of_window (congrArg Idx.window (indexEvent_idx presence bond s)) p

theorem indexEvent_mainQ : (indexEvent presence bond { s with idx.posCount := 0 }).lnk.mainQ =
    (treatStage bond (rowsMoved presence s)).lnk.mainQ := by
  rw [indexEvent_eq, settleFlow_mainQ, closeOnDrain_lnk]

/-- The fields of HND that the end of the event leaves. -/
theorem indexEvent_hnd : (indexEvent presence bond { s with idx.posCount := 0 }).hnd =
    { (rowsMoved presence s).hnd with
      room := (indexEvent presence bond { s with idx.posCount := 0 }).hnd.room
      advertised := (indexEvent presence bond { s with idx.posCount := 0 }).hnd.advertised
      refreshAt := (indexEvent presence bond { s with idx.posCount := 0 }).hnd.refreshAt } := by
  rw [indexEvent_eq, settleFlow_hnd, closeOnDrain_hnd, (treated_treatStage bond _).hnd]

end Event

/-- The forward count of an index event. -/
theorem exec_indexEvent {presence bond : BitVec 8} {s : State} (h : takesCounts s = true) (hd : s.idx.debt = 0)
    (hc : s.countsPerIndex ≤ s.idx.posCount + 1) :
    exec (.forwardCount presence bond) s = .next (indexEvent presence bond { s with idx.posCount := 0 }) :=
  congrArg Host.Outcome.next (forwardStep_of_index h presence bond hd hc)

end Sys2Proof.Machine
end

section

/-! ## Family "other": the rows that move, the gate and the exit (R9 to R12, R17, R18) -/

namespace Sys2Proof.Machine

/-! ### The fill stage (R13 to R16) -/

/-- What the filling of position 0 leaves. -/
structure Filled (s t : State) : Prop where
  stc : t.stc = s.stc
  idx : t.idx = { s.idx with window := t.idx.window, nextRow := t.idx.nextRow, untracked := t.idx.untracked }
  hnd : t.hnd =
    { s.hnd with
      rowArrivals := t.hnd.rowArrivals, expected := t.hnd.expected, missing := t.hnd.missing, stray := t.hnd.stray }
  lnk : t.lnk = s.lnk
  tray : t.tray = s.tray
  lid : t.lid = s.lid
  nowMs : t.nowMs = s.nowMs

theorem filled_fillStage (presence : BitVec 8) (s : State) : Filled s (fillStage presence s) := by
  unfold fillStage
  dsimp only
  split
  · exact ⟨rfl, rfl, rfl, rfl, rfl, rfl, rfl⟩
  split
  · exact ⟨rfl, rfl, rfl, rfl, rfl, rfl, rfl⟩
  split
  · constructor <;> simp [createRow, enterRow]
  · unfold pairRow
    split
    · exact ⟨rfl, rfl, rfl, rfl, rfl, rfl, rfl⟩
    · constructor <;> simp [enterRow]

theorem settleSince_mainQ (s t : State) : (settleSince s t).lnk.mainQ = t.lnk.mainQ := by
  unfold settleSince settleAdvance
  split
  · exact settleFlow_mainQ t
  · simp [updatePermit]

theorem settleSince_hnd (s t : State) : (settleSince s t).hnd =
    { t.hnd with
      room := (settleSince s t).hnd.room
      advertised := (settleSince s t).hnd.advertised
      refreshAt := (settleSince s t).hnd.refreshAt } := by
  unfold settleSince
  split
  · rw [settleFlow_hnd]
  · have h := placeCredit_hnd { t with hnd.room := roomOf t }
    unfold settleAdvance updatePermit
    dsimp only
    rw [h]

section Moved

variable (presence : BitVec 8) (s : State)

theorem filled_rowsMoved : Filled (rowsAdvanced s) (fillStage presence (rowsAdvanced s)) := filled_fillStage _ _

theorem rowsMoved_idx : (rowsMoved presence s).idx =
    { s.idx with
      posCount := 0
      window := (rowsMoved presence s).idx.window
      nextRow := (rowsMoved presence s).idx.nextRow
      untracked := (rowsMoved presence s).idx.untracked
      lost := (exitStage { s with idx.posCount := 0 }).idx.lost } := by
  have hfill := (filled_rowsMoved presence s).idx
  have hexit := (exited_start s).idx
  rw [rowsMoved_eq, settleSince_idx, hfill]
  exact congrArg (fun x : Idx => { x with
    window := (fillStage presence (rowsAdvanced s)).idx.window
    nextRow := (fillStage presence (rowsAdvanced s)).idx.nextRow
    untracked := (fillStage presence (rowsAdvanced s)).idx.untracked }) hexit

theorem rowsMoved_nowMs : (rowsMoved presence s).nowMs = s.nowMs := by
  rw [rowsMoved_eq, settleSince_nowMs, (filled_rowsMoved presence s).nowMs]
  exact (exited_start s).nowMs

theorem rowsMoved_lid : (rowsMoved presence s).lid = s.lid := by
  rw [rowsMoved_eq, settleSince_lid, (filled_rowsMoved presence s).lid]
  exact (exited_start s).lid

theorem rowsMoved_latched : (rowsMoved presence s).stc = (exitStage { s with idx.posCount := 0 }).stc := by
  rw [rowsMoved_eq, settleSince_stc, (filled_rowsMoved presence s).stc]
  rfl

theorem rowsMoved_mainQ : (rowsMoved presence s).lnk.mainQ = (exitStage { s with idx.posCount := 0 }).lnk.mainQ := by
  rw [rowsMoved_eq, settleSince_mainQ, (filled_rowsMoved presence s).lnk]
  rfl

theorem rowsMoved_nextSeq : (rowsMoved presence s).hnd.nextSeq = (exitStage { s with idx.posCount := 0 }).hnd.nextSeq := by
  rw [rowsMoved_eq, settleSince_hnd, (filled_rowsMoved presence s).hnd]
  rfl

theorem rowsMoved_settings : (rowsMoved presence s).stc.settings = s.stc.settings := by rw [rowsMoved_stc]

theorem rowsMoved_role : (rowsMoved presence s).role = s.role := role_of_settings (rowsMoved_settings presence s)

theorem rowsMoved_mode : (rowsMoved presence s).mode = s.mode := by rw [State.mode, rowsMoved_stc]; rfl

theorem rowsMoved_positions : (rowsMoved presence s).lidPos = s.lidPos ∧ (rowsMoved presence s).bondPos = s.bondPos ∧
    (rowsMoved presence s).gatePos = s.gatePos ∧ (rowsMoved presence s).windowLength = s.windowLength ∧
    (rowsMoved presence s).laneCount = s.laneCount ∧ (rowsMoved presence s).upstream = s.upstream ∧
    (rowsMoved presence s).downstream = s.downstream := position_of_settings (rowsMoved_settings presence s)

theorem rowsMoved_zero_of_none (h : sensedCount presence s.laneCount = 0) :
    (rowsMoved presence s).rowAt 0 = none ∧ (rowsMoved presence s).idx.nextRow = s.idx.nextRow := by
  have hlanes : (rowsAdvanced s).laneCount = s.laneCount :=
    (position_of_settings (by rw [rowsAdvanced_settings])).2.2.2.2.1
  have hstage : fillStage presence (rowsAdvanced s) = rowsAdvanced s := by
    unfold fillStage
    rw [hlanes, h]
    rfl
  rw [rowsMoved_eq, hstage]
  refine ⟨?_, ?_⟩
  · rw [rowAt_of_window (congrArg Idx.window (settleSince_idx _ _))]
    rfl
  · rw [settleSince_idx]
    have h := congrArg (fun x : Idx => x.nextRow) (exited_start s).idx
    exact h

end Moved

/-! ### The rows after an event (O14) -/

/-- The treatments keep the number and the lot of every row. -/
theorem treatStage_alike (passes : BitVec 8) (s : State) (q : Nat) :
    ((treatStage passes s).rowAt q).map (fun r => (r.number, r.body.lot)) =
      (s.rowAt q).map (fun r => (r.number, r.body.lot)) := by
  have hlid : ((lidTreated passes s).rowAt q).map (fun r => (r.number, r.body.lot)) =
      (s.rowAt q).map (fun r => (r.number, r.body.lot)) := by
    have h := congrArg (Option.map fun x => (x.1, x.2.1)) (rowTreated_lidTreated passes s q).alike
    rwa [Option.map_map, Option.map_map] at h
  have hgate (u : State) : ((gateStage u).rowAt q).map (fun r => (r.number, r.body.lot)) =
      (u.rowAt q).map (fun r => (r.number, r.body.lot)) := by
    by_cases hq : q = u.gatePos
    · subst hq
      cases h : u.rowAt u.gatePos with
      | none => rw [gateStage_of_none h, h]
      | some r => rw [(gateStage_of_row h).1, if_pos rfl]; rfl
    · rw [gateStage_rowAt_of_ne hq]
  rw [treatStage_eq, hgate, hlid]

/-- Settles O14: the rows move at the advance stage, and the treatments keep their numbers and lots. -/
theorem indexEventMovesRowsOnePosition : Obligations.IndexEventMovesRowsOnePosition := by
  intro presence bond s htakes hdebt hcount
  have hidx := (treated_treatStage bond (rowsMoved presence s)).idx
  refine ⟨_, exec_indexEvent htakes hdebt hcount, ?_, ?_, fun p hp => ?_, fun hnone => ?_, settleFlow_permit _⟩
  · rw [indexEvent_idx, hidx, rowsMoved_idx]
  · rw [indexEvent_idx, hidx, rowsMoved_idx]
    exact hdebt
  · rw [indexEvent_rowAt, treatStage_alike, rowAt_rowsMoved_succ, if_pos hp]
  · obtain ⟨hrow, hnext⟩ := rowsMoved_zero_of_none presence s hnone
    refine ⟨?_, ?_⟩
    · have h := treatStage_alike bond (rowsMoved presence s) 0
      rw [hrow] at h
      rw [indexEvent_rowAt]
      exact Option.map_eq_none_iff.1 h
    · rw [indexEvent_idx, hidx]
      exact hnext

/-! ### The gate (O16) -/

theorem lidTreated_pulses (passes : BitVec 8) (s : State) : (lidTreated passes s).idx.pulses = s.idx.pulses := by
  have hpots (l : LotRec) (pots : List (Option Pot)) (u : State) : (lidPots l pots u).2.idx.pulses = u.idx.pulses := by
    rw [lidPots_idx]
  have hcheck (p : Nat) (b : RowBody) (l : LotRec) (u : State) : (checkReel p b l u).idx.pulses = u.idx.pulses := by
    unfold checkReel
    split
    · rfl
    split
    · exact hpots _ _ _
    · simp [reelMismatch, updateRow]
  have hlid : (lidStage s).idx.pulses = s.idx.pulses := by
    unfold lidStage
    dsimp only
    split
    · rfl
    split
    · rfl
    split
    · rfl
    split
    · simp [reelsOut, updateRow]
    · rw [hcheck]
      split <;> simp [splice]
  have hbond (p : Nat) (ks : List Nat) (u : State) : (bondLanes p passes ks u).idx.pulses = u.idx.pulses := by
    induction ks generalizing u with
    | nil => rfl
    | cons k ks ih =>
      rw [bondLanes, ih]
      split
      · unfold bondLane
        split
        · rfl
        · dsimp only
          split <;> simp [tripLane, updateRow]
      · rfl
  unfold lidTreated
  split
  · exact (hbond _ _ _).trans hlid
  · rfl

theorem slotAt_gatePulses (now : Nat) (pots : List (Option Pot)) (pulses : List (Option Nat)) (k : Nat)
    (h : pots.length = pulses.length) :
    slotAt (gatePulses now pots pulses) k = if (slotAt pots k).any Pot.marked then some (now + 50) else slotAt pulses k := by
  by_cases hk : k < pulses.length
  · have hk' : k < pots.length := h ▸ hk
    simp only [slotAt, gatePulses, List.getElem?_zipWith, List.getElem?_eq_getElem hk, List.getElem?_eq_getElem hk',
      Option.join_some]
  · rw [slotAt_of_length_le (by simp [gatePulses]; omega), slotAt_of_length_le (l := pots) (by omega),
      slotAt_of_length_le (l := pulses) (by omega)]
    rfl

/-- A marked lane is driven whatever the length of the row. -/
theorem slotAt_gatePulses_of_marked {now : Nat} {pots : List (Option Pot)} {pulses : List (Option Nat)} {k : Nat} {x : Pot}
    (hk : k < pulses.length) (h : slotAt pots k = some x) (hx : x.marked = true) :
    slotAt (gatePulses now pots pulses) k = some (now + 50) := by
  have hpot : pots[k]? = some (some x) := Option.join_eq_some_iff.1 h
  simp [slotAt, gatePulses, List.getElem?_zipWith, List.getElem?_eq_getElem hk, hpot, hx]

theorem slotAt_gated (b : RowBody) (k : Nat) :
    slotAt b.gated.pots k = (slotAt b.pots k).bind (fun p => if p.marked then none else some p) := by
  cases h : b.pots[k]? with
  | none => simp [slotAt, RowBody.gated, h]
  | some o => cases o <;> simp [slotAt, RowBody.gated, h]

theorem markedCount_gated (b : RowBody) : b.gated.markedCount = 0 := by
  rw [RowBody.markedCount, List.length_eq_zero_iff, List.filter_eq_nil_iff]
  intro o ho
  obtain ⟨o', -, rfl⟩ := List.mem_map.1 ho
  cases o' with
  | none => exact Bool.false_ne_true
  | some p =>
    rw [Option.bind_some]
    split
    · exact Bool.false_ne_true
    · next h => exact h

/-- The row that an index event brings to the gate, as the treatments before it leave it. -/
theorem lidTreated_gate {presence bond : BitVec 8} {s : State} (hpos : 1 ≤ s.gatePos) (hlen : s.gatePos < s.windowLength) :
    RowTreated (s.rowAt (s.gatePos - 1)) ((lidTreated bond (rowsMoved presence s)).rowAt s.gatePos) ∧
      (s.role ≠ .lidder ∨ s.lidPos ≠ s.gatePos ∧ s.bondPos ≠ s.gatePos →
        (lidTreated bond (rowsMoved presence s)).rowAt s.gatePos = s.rowAt (s.gatePos - 1)) := by
  have hmoved : (rowsMoved presence s).rowAt s.gatePos = s.rowAt (s.gatePos - 1) := by
    have h := rowAt_rowsMoved_succ presence s (s.gatePos - 1)
    rw [Nat.sub_add_cancel hpos] at h
    exact h.trans (if_pos hlen)
  obtain ⟨hl, hb, -⟩ := rowsMoved_positions presence s
  refine ⟨by rw [← hmoved]; exact rowTreated_lidTreated bond (rowsMoved presence s) s.gatePos, fun h => ?_⟩
  rw [rowAt_lidTreated_of_ne, hmoved]
  rw [hl, hb, rowsMoved_role]
  exact h.imp_right fun h' => ⟨h'.1.symm, h'.2.symm⟩

theorem lidTreated_gatePos (presence bond : BitVec 8) (s : State) :
    (lidTreated bond (rowsMoved presence s)).gatePos = s.gatePos :=
  (position_of_settings (treated_lidTreated bond _).settings).2.2.1.trans (rowsMoved_positions presence s).2.2.1

/-- What the gate of an index event leaves of the row it meets and of the pulses. -/
theorem indexEvent_gate (presence bond : BitVec 8) (s : State) :
    (match (lidTreated bond (rowsMoved presence s)).rowAt s.gatePos with
      | none => (indexEvent presence bond { s with idx.posCount := 0 }).rowAt s.gatePos = none ∧
          (indexEvent presence bond { s with idx.posCount := 0 }).idx.pulses = s.idx.pulses
      | some r => (indexEvent presence bond { s with idx.posCount := 0 }).rowAt s.gatePos =
            some { r with body := r.body.gated } ∧
          (indexEvent presence bond { s with idx.posCount := 0 }).idx.pulses =
            gatePulses s.nowMs r.body.pots s.idx.pulses) := by
  have hpulses : (lidTreated bond (rowsMoved presence s)).idx.pulses = s.idx.pulses := by
    rw [lidTreated_pulses, rowsMoved_idx]
  have hnow : (lidTreated bond (rowsMoved presence s)).nowMs = s.nowMs :=
    (treated_lidTreated bond _).nowMs.trans (rowsMoved_nowMs presence s)
  have hgate := lidTreated_gatePos presence bond s
  rw [indexEvent_rowAt, indexEvent_idx, treatStage_eq]
  split
  · next h =>
    rw [gateStage_of_none (by rwa [hgate])]
    exact ⟨h, hpulses⟩
  · next r h =>
    obtain ⟨hrow, hpulse⟩ := gateStage_of_row (s := lidTreated bond (rowsMoved presence s)) (by rwa [hgate])
    rw [hrow, if_pos hgate.symm, hpulse, hpulses, hnow]
    exact ⟨rfl, rfl⟩

/-- The end of a pulse (R18). -/
theorem pulseEnd_of {lane d : Nat} {s : State} (hl : 1 ≤ lane) (h : slotAt s.idx.pulses (lane - 1) = some d) :
    pulseEnd lane s = timeTo d { s with idx.pulses := s.idx.pulses.set (lane - 1) none } := by
  rw [pulseEnd, if_neg (by omega), h]

/-- A lane without a marked pot keeps its pulse; the gate of a window of eight-lane rows drives the marked lanes alone. -/
theorem indexEvent_pulses {presence bond : BitVec 8} {s : State} (hpos : 1 ≤ s.gatePos) (hlen : s.gatePos < s.windowLength)
    (height : s.idx.pulses.length = 8) (hrows : ∀ r, some r ∈ s.idx.window → r.body.pots.length = 8) (k : Nat) :
    slotAt (indexEvent presence bond { s with idx.posCount := 0 }).idx.pulses k =
      if ((lidTreated bond (rowsMoved presence s)).rowAt s.gatePos).any (fun r => (slotAt r.body.pots k).any Pot.marked) then
        some (s.nowMs + 50)
      else slotAt s.idx.pulses k := by
  obtain ⟨htreated, -⟩ := lidTreated_gate (presence := presence) (bond := bond) hpos hlen
  have hgate := indexEvent_gate presence bond s
  cases hrow : (lidTreated bond (rowsMoved presence s)).rowAt s.gatePos with
  | none =>
    rw [hrow] at hgate
    rw [hgate.2]
    rfl
  | some r =>
    rw [hrow] at hgate htreated
    have hlen8 : r.body.pots.length = 8 := by
      have halike := htreated.alike
      cases hs : s.rowAt (s.gatePos - 1) with
      | none => rw [hs] at halike; exact absurd halike (by simp)
      | some r' =>
        rw [hs] at halike
        have hmem : some r' ∈ s.idx.window := List.mem_of_getElem? (Option.join_eq_some_iff.1 hs)
        have h8 := hrows r' hmem
        simp only [Option.map_some, Option.some.injEq, Prod.mk.injEq] at halike
        rw [halike.2.2, h8]
    rw [hgate.2, slotAt_gatePulses _ _ _ _ (hlen8.trans height.symm)]
    rfl

/-- Settles O16: the gate pulses by the marks of the row it meets, whose marks the lid and bond treatments keep. -/
theorem gateRemovesMarkedPotsByPulse : Obligations.GateRemovesMarkedPotsByPulse := by
  refine ⟨fun presence bond s htakes hdebt hcount hpos hlen height => ?_, fun lane d s hl hpulse => ?_⟩
  · obtain ⟨htreated, hkept⟩ := lidTreated_gate (presence := presence) (bond := bond) hpos hlen
    have hgate := indexEvent_gate presence bond s
    refine ⟨_, exec_indexEvent htakes hdebt hcount, fun r hr => ?_, fun r hr k x hx hk hm => ?_,
      fun hrows => ⟨fun k => ?_, fun hrole k => ?_⟩, fun hrole r hr => ?_⟩
    · cases hrow : (lidTreated bond (rowsMoved presence s)).rowAt s.gatePos with
      | none => rw [hrow] at hgate; rw [hgate.1] at hr; exact absurd hr (by simp)
      | some q =>
        rw [hrow] at hgate
        rw [hgate.1] at hr
        obtain rfl := Option.some.inj hr
        exact markedCount_gated q.body
    · have halike := htreated.alike
      cases hrow : (lidTreated bond (rowsMoved presence s)).rowAt s.gatePos with
      | none => rw [hrow, hr] at halike; exact absurd halike (by simp)
      | some q =>
        rw [hrow] at hgate
        obtain ⟨y, hy, hmy⟩ := htreated.marked r q hr hrow k x hx hm
        rw [hgate.1, hgate.2]
        refine ⟨slotAt_gatePulses_of_marked (by omega) hy hmy, fun q' hq' => ?_⟩
        obtain rfl := Option.some.inj hq'
        show slotAt q.body.gated.pots k = none
        rw [slotAt_gated, hy, Option.bind_some, if_pos hmy]
    · rw [indexEvent_pulses hpos hlen height hrows]
      split
      · exact .inl rfl
      · exact .inr rfl
    · rw [indexEvent_pulses hpos hlen height hrows, hkept hrole]
    · rw [hkept (.inl hrole), hr] at hgate
      exact hgate.1
  · have hend := pulseEnd_of hl hpulse
    refine ⟨_, congrArg Host.Outcome.next hend, ?_, fun k hk => ?_, ?_, ?_⟩
    · exact slotAt_set_none _ _
    · exact slotAt_set_of_ne hk _
    · rfl
    · rfl

/-! ### The exit (O17) -/

theorem exitStage_of_row {s : State} {r : Row} (hrole : s.role ≠ .trayer) (hr : s.rowAt (s.windowLength - 1) = some r)
    (hpots : r.body.hasPots = true) :
    exitStage s = if maySend s then sendRow r.body s else writeOffRow r.body s := by
  unfold exitStage
  simp [hr, hpots, hrole]

/-- The row that leaves, or is written off, is the one that the state before the event has at the exit. -/
theorem exitStage_start {s : State} {r : Row} (hrole : s.role ≠ .trayer) (hr : s.rowAt (s.windowLength - 1) = some r)
    (hpots : r.body.hasPots = true) : exitStage { s with idx.posCount := 0 } =
      if maySend s then sendRow r.body { s with idx.posCount := 0 } else writeOffRow r.body { s with idx.posCount := 0 } :=
  exitStage_of_row (s := { s with idx.posCount := 0 }) hrole hr hpots

theorem indexEvent_lost (presence bond : BitVec 8) (s : State) :
    (indexEvent presence bond { s with idx.posCount := 0 }).idx.lost = (exitStage { s with idx.posCount := 0 }).idx.lost := by
  rw [indexEvent_idx, (treated_treatStage bond _).idx, rowsMoved_idx]

theorem indexEvent_sequence (presence bond : BitVec 8) (s : State) :
    (indexEvent presence bond { s with idx.posCount := 0 }).hnd.nextSeq =
      (exitStage { s with idx.posCount := 0 }).hnd.nextSeq := by
  rw [indexEvent_hnd, ← rowsMoved_nextSeq presence s]

/-- Settles O17: the exit stage decides, and no later stage touches the lost count, the sequence, the notice or the frame. -/
theorem exitRowLeavesByCreditOrIsWrittenOff : Obligations.ExitRowLeavesByCreditOrIsWrittenOff := by
  intro presence bond r s hrole htakes hdebt hcount hr hpots
  have hne : s.role ≠ .trayer := by rcases hrole with h | h <;> rw [h] <;> decide
  have hexit := exitStage_start hne hr hpots
  refine ⟨fun hsend => ?_, fun hsend => ?_⟩
  · rw [hsend] at hexit
    refine ⟨_, exec_indexEvent htakes hdebt hcount, ?_, ?_, ?_⟩
    · rw [indexEvent_lost, hexit]
      simp [writeOffRow, bump, countMax]
    · have hmoved : (rowsMoved presence s).latchedNotice .overrun = true := by
        rw [State.latchedNotice, rowsMoved_latched, hexit]
        exact latch_latchedNotice _ _
      rw [State.latchedNotice, indexEvent_stc]
      exact (treated_treatStage bond _).notices _ hmoved
    · rw [indexEvent_sequence, hexit]
      simp [writeOffRow]
  · rw [hsend] at hexit
    have hroom : mainHasRoom s 1 = true := (Bool.and_eq_true_iff.1 hsend).2
    refine ⟨_, exec_indexEvent htakes hdebt hcount, ?_, ?_, ?_⟩
    · rw [indexEvent_lost, hexit]
      simp [sendRow]
    · rw [indexEvent_sequence, hexit]
      simp [sendRow]
    · rw [indexEvent_mainQ]
      refine (treated_treatStage bond _).frames _ ?_ rfl
      rw [rowsMoved_mainQ, hexit]
      rw [if_pos rfl, sendRow, lotDepart_lnk, pushMain_room _ { s with idx.posCount := 0 } hroom]
      exact List.mem_append_right _ (List.mem_singleton.2 rfl)

end Sys2Proof.Machine
end

section

/-! ## Family "other": a row enters position 0 (R13 to R16, R33, R34, R37, R38) -/

namespace Sys2Proof.Machine

/-! ### The treatments leave position 0 -/

theorem treatStage_rowAt_zero {passes : BitVec 8} {s : State} (hgate : 1 ≤ s.gatePos)
    (h : s.role ≠ .lidder ∨ 1 ≤ s.lidPos ∧ 1 ≤ s.bondPos) : (treatStage passes s).rowAt 0 = s.rowAt 0 := by
  have hpos := (position_of_settings (treated_lidTreated passes s).settings).2.2.1
  rw [treatStage_eq, gateStage_rowAt_of_ne (by omega)]
  exact rowAt_lidTreated_of_ne (h.imp_right fun h' => ⟨by omega, by omega⟩)

section Filled

variable (presence : BitVec 8) (s : State)

/-- The state of an index event with position 0 filled, before room is worked out. -/
def rowFilled (presence : BitVec 8) (s : State) : State := fillStage presence (rowsAdvanced s)

theorem rowFilled_filled : Filled (rowsAdvanced s) (rowFilled presence s) := filled_fillStage _ _

theorem rowsMoved_of_rowFilled :
    rowsMoved presence s = settleSince { s with idx.posCount := 0 } (rowFilled presence s) := rfl

theorem rowsAdvanced_hnd : (rowsAdvanced s).hnd = { s.hnd with nextSeq := (rowsAdvanced s).hnd.nextSeq } :=
  (exited_start s).hnd

theorem rowsAdvanced_nextRow : (rowsAdvanced s).idx.nextRow = s.idx.nextRow := by
  have h := congrArg (fun x : Idx => x.nextRow) (exited_start s).idx
  exact h

theorem rowsAdvanced_untracked : (rowsAdvanced s).idx.untracked = s.idx.untracked := by
  have h := congrArg (fun x : Idx => x.untracked) (exited_start s).idx
  exact h

theorem rowsAdvanced_role : (rowsAdvanced s).role = s.role := role_of_settings (by rw [rowsAdvanced_settings])

theorem rowsAdvanced_mode : (rowsAdvanced s).mode = s.mode := by rw [State.mode, rowsAdvanced_settings]; rfl

theorem rowsAdvanced_laneCount : (rowsAdvanced s).laneCount = s.laneCount :=
  (position_of_settings (by rw [rowsAdvanced_settings])).2.2.2.2.1

theorem rowsAdvanced_terms : SameLots LotRec.terms s (rowsAdvanced s) := by
  have h : SameLots LotRec.terms { s with idx.posCount := 0 } (rowsAdvanced s) := (exited_start s).lots.trans (.of_lot rfl)
  have h₀ : SameLots LotRec.terms s { s with idx.posCount := 0 } := .of_lot rfl
  exact h₀.trans h

theorem rowFilled_role : (rowFilled presence s).role = s.role := by
  rw [← rowsAdvanced_role s]
  exact role_of_settings (by rw [(rowFilled_filled presence s).stc])

theorem rowFilled_mode : (rowFilled presence s).mode = s.mode := by
  rw [← rowsAdvanced_mode s, State.mode, (rowFilled_filled presence s).stc]
  rfl

theorem rowFilled_upstream : (rowFilled presence s).upstream = s.upstream := by
  have h : (rowFilled presence s).stc.settings = s.stc.settings := by
    rw [(rowFilled_filled presence s).stc, rowsAdvanced_settings]
  exact (position_of_settings h).2.2.2.2.2.1

/-- The row that enters position 0 stays as the fill stage made it. -/
theorem indexEvent_rowAt_zero {bond : BitVec 8} (hgate : 1 ≤ s.gatePos)
    (h : s.role ≠ .lidder ∨ 1 ≤ s.lidPos ∧ 1 ≤ s.bondPos) :
    (indexEvent presence bond { s with idx.posCount := 0 }).rowAt 0 = (rowFilled presence s).rowAt 0 := by
  obtain ⟨hl, hb, hg, -⟩ := rowsMoved_positions presence s
  rw [indexEvent_rowAt, treatStage_rowAt_zero (by rwa [hg]) (by rwa [rowsMoved_role, hl, hb]), rowsMoved_of_rowFilled]
  exact rowAt_of_window (congrArg Idx.window (settleSince_idx _ _)) 0

/-- IDX's row number and untracked count are as the fill stage left them. -/
theorem indexEvent_fillCounts (bond : BitVec 8) :
    (indexEvent presence bond { s with idx.posCount := 0 }).idx.nextRow = (rowFilled presence s).idx.nextRow ∧
      (indexEvent presence bond { s with idx.posCount := 0 }).idx.untracked = (rowFilled presence s).idx.untracked := by
  rw [indexEvent_idx, (treated_treatStage bond _).idx, rowsMoved_of_rowFilled, settleSince_idx]
  exact ⟨rfl, rfl⟩

/-- HND is as the fill stage left it, but for room, the advertised limit and the refresh period. -/
theorem indexEvent_fillHnd (bond : BitVec 8) :
    (indexEvent presence bond { s with idx.posCount := 0 }).hnd =
      { (rowFilled presence s).hnd with
        room := (indexEvent presence bond { s with idx.posCount := 0 }).hnd.room
        advertised := (indexEvent presence bond { s with idx.posCount := 0 }).hnd.advertised
        refreshAt := (indexEvent presence bond { s with idx.posCount := 0 }).hnd.refreshAt } := by
  rw [indexEvent_hnd, rowsMoved_of_rowFilled, settleSince_hnd]

end Filled

/-! ### The CREDIT of stage 3 (R34, R37, R38) -/

theorem settleFlow_creditSlot_of_le {s : State} (h : roomOf s ≤ s.hnd.room) :
    (settleFlow s).lnk.creditSlot = s.lnk.creditSlot ∧ (settleFlow s).hnd.advertised = s.hnd.advertised := by
  unfold settleFlow updateRoom
  rw [if_neg (by omega)]
  exact ⟨rfl, rfl⟩

section Places

variable {s : State} (hin : s.role.hasIncoming = true) (hup : s.upstream ≠ 0) (hm : s.mode ≠ .starting)
include hin hup hm

theorem placeCredit_slot (n : Nat) :
    (placeCredit { s with hnd.room := n }).lnk.creditSlot =
        some (frameTo s.upstream (.credit (s.hnd.expected + BitVec.ofNat 16 n) (BitVec.ofNat 8 n))) ∧
      (placeCredit { s with hnd.room := n }).hnd.advertised = s.hnd.expected + BitVec.ofNat 16 n := by
  rw [placeCredit_of (s := { s with hnd.room := n }) hin hup hm]
  exact ⟨rfl, rfl⟩

theorem settleFlow_creditSlot_of_lt (h : s.hnd.room < roomOf s) :
    (settleFlow s).lnk.creditSlot =
        some (frameTo s.upstream (.credit (s.hnd.expected + BitVec.ofNat 16 (roomOf s)) (BitVec.ofNat 8 (roomOf s)))) ∧
      (settleFlow s).hnd.advertised = s.hnd.expected + BitVec.ofNat 16 (roomOf s) := by
  have hplace := placeCredit_slot hin hup hm (roomOf s)
  unfold settleFlow updateRoom
  rw [if_pos h]
  exact hplace

theorem settleAdvance_creditSlot :
    (settleAdvance s).lnk.creditSlot =
        some (frameTo s.upstream (.credit (s.hnd.expected + BitVec.ofNat 16 (roomOf s)) (BitVec.ofNat 8 (roomOf s)))) ∧
      (settleAdvance s).hnd.advertised = s.hnd.expected + BitVec.ofNat 16 (roomOf s) :=
  placeCredit_slot hin hup hm (roomOf s)

end Places

theorem closeOnDrain_of_mode {s : State} (h : s.mode ≠ .draining) : closeOnDrain s = s := by
  unfold closeOnDrain
  simp [h]

theorem closeOnDrain_mode (s : State) : (closeOnDrain s).mode = s.mode := by rw [State.mode, closeOnDrain_stc]; rfl

/-- The treatments, and a tray that closes in a drain, make no room. -/
theorem roomOf_treated {s t : State} (h : Treated s t) : roomOf (closeOnDrain t) ≤ roomOf s := by
  by_cases hm : t.mode = .running
  · have hs : s.mode = .running := by
      rcases h.mode with hs | ⟨hs, -⟩
      · rw [← hs, hm]
      · exact hs
    rw [closeOnDrain_of_mode (by rw [hm]; decide)]
    refine Nat.le_of_eq ?_
    simp [roomOf, hm, hs, arrivalsCount, formedFull, freeCells, role_of_settings h.settings, h.hnd, h.tray]
  · rw [roomOf_of_mode (by rwa [closeOnDrain_mode])]
    exact Nat.zero_le _

theorem settleSince_room (s t : State) : (settleSince s t).hnd.room = roomOf t := by
  unfold settleSince
  split
  · rw [settleFlow_hnd]
  · have h := congrArg Hnd.room (placeCredit_hnd { t with hnd.room := roomOf t })
    exact h

/-- The CREDIT slot and the advertised limit at the end of the event are stage 3's. -/
theorem indexEvent_creditSlot (presence bond : BitVec 8) (s : State) :
    (indexEvent presence bond { s with idx.posCount := 0 }).lnk.creditSlot = (rowsMoved presence s).lnk.creditSlot ∧
      (indexEvent presence bond { s with idx.posCount := 0 }).hnd.advertised = (rowsMoved presence s).hnd.advertised := by
  have htreat := treated_treatStage bond (rowsMoved presence s)
  have hroom : (rowsMoved presence s).hnd.room = roomOf (rowsMoved presence s) := by
    rw [rowsMoved_of_rowFilled, settleSince_room]
    refine (roomOf_congr (settleSince_stc _ _) (settleSince_tray _ _) ?_ ?_).symm
    · rw [settleSince_hnd]
    · rw [settleSince_hnd]
  have hle : roomOf (closeOnDrain (treatStage bond (rowsMoved presence s))) ≤
      (closeOnDrain (treatStage bond (rowsMoved presence s))).hnd.room := by
    rw [closeOnDrain_hnd, htreat.hnd, hroom]
    exact roomOf_treated htreat
  obtain ⟨hslot, hadv⟩ := settleFlow_creditSlot_of_le hle
  rw [indexEvent_eq, hslot, hadv, closeOnDrain_lnk, closeOnDrain_hnd, htreat.slot, htreat.hnd]
  exact ⟨rfl, rfl⟩

/-- In RUNNING the formed trays are those of the exit stage. -/
theorem indexEvent_tray_of_running (presence bond : BitVec 8) {s : State} (h : s.mode = .running) :
    (indexEvent presence bond { s with idx.posCount := 0 }).tray = (rowFilled presence s).tray := by
  have htreat := treated_treatStage bond (rowsMoved presence s)
  have hm : (treatStage bond (rowsMoved presence s)).mode ≠ .draining := by
    rcases htreat.mode with hm | ⟨-, hm⟩
    · rw [hm, rowsMoved_mode, h]; decide
    · rw [hm]; decide
  rw [indexEvent_eq, settleFlow_tray, closeOnDrain_of_mode hm, htreat.tray, rowsMoved_of_rowFilled, settleSince_tray]

/-- The room of stage 3 at LIDDER and TRAYER. -/
theorem roomOf_rowFilled (presence bond : BitVec 8) {s : State} (hrole : s.role = .lidder ∨ s.role = .trayer) :
    roomOf (rowFilled presence s) =
      if s.mode = .running ∧
          ¬(s.role = .trayer ∧ 16 ≤ (indexEvent presence bond { s with idx.posCount := 0 }).tray.formed.length) then
        8 - (rowFilled presence s).hnd.rowArrivals.length
      else 0 := by
  have hfill := rowFilled_role presence s
  by_cases hm : s.mode = .running
  · have hm' : (rowFilled presence s).mode = .running := (rowFilled_mode presence s).trans hm
    rw [indexEvent_tray_of_running presence bond hm]
    unfold roomOf arrivalsCount formedFull formedCapacity arrivalsCapacity
    rcases hrole with h | h
    · simp [hm, hm', h, hfill]
    · by_cases hfull : 16 ≤ (rowFilled presence s).tray.formed.length <;> simp [hm, hm', h, hfill, hfull]
  · rw [roomOf_of_mode (by rwa [rowFilled_mode]), if_neg (by simp [hm])]

/-! ### The branches of the fill stage -/

section Branches

variable {presence : BitVec 8} {s : State} (hn : sensedCount presence s.laneCount ≠ 0)
include hn

theorem rowFilled_of_barred (h : fillAllowed s.role s.mode = false) :
    rowFilled presence s = { rowsAdvanced s with
      idx.untracked := bump (rowsAdvanced s).idx.untracked (sensedCount presence s.laneCount) } := by
  unfold rowFilled fillStage
  simp [rowsAdvanced_laneCount, rowsAdvanced_role, rowsAdvanced_mode, hn, h]

theorem rowFilled_of_filler (h : fillAllowed s.role s.mode = true) (hrole : s.role = .filler) :
    rowFilled presence s = createRow (sensedLanes presence s.laneCount) (rowsAdvanced s) := by
  unfold rowFilled fillStage
  rw [rowsAdvanced_laneCount, rowsAdvanced_role, rowsAdvanced_mode, h]
  simp [hn, hrole]

theorem rowFilled_of_pair (h : fillAllowed s.role s.mode = true) (hrole : s.role ≠ .filler) :
    rowFilled presence s = pairRow (sensedLanes presence s.laneCount) (rowsAdvanced s) := by
  unfold rowFilled fillStage
  rw [rowsAdvanced_laneCount, rowsAdvanced_role, rowsAdvanced_mode, h]
  simp [hn, hrole]

end Branches

/-! ### Lanes and pots -/

theorem sensed_of_le {presence : BitVec 8} {n k : Nat} (h : 8 ≤ k) : sensed presence n k = false := by
  rw [sensed, BitVec.getLsbD_of_ge _ _ h, Bool.and_false]

theorem getElem?_sensedLanes (presence : BitVec 8) (n : Nat) {k : Nat} (h : k < 8) :
    (sensedLanes presence n)[k]? = some (sensed presence n k) := by
  simp [sensedLanes, h]

theorem slotAt_sensedPots (presence : BitVec 8) (n : Nat) (reasons : BitVec 9) (k : Nat) :
    slotAt (sensedPots (sensedLanes presence n) reasons) k =
      if sensed presence n k then some (Pot.fresh reasons) else none := by
  by_cases hk : k < 8
  · simp [slotAt, sensedPots, getElem?_sensedLanes presence n hk]
  · rw [sensed_of_le (by omega), slotAt_of_length_le (by simp [sensedPots, sensedLanes]; omega)]
    rfl

theorem heldCount_sensedPots (lanes : List Bool) (reasons : BitVec 9) :
    heldCount (sensedPots lanes reasons) = (lanes.filter id).length := by
  unfold heldCount sensedPots
  rw [List.filter_map, List.length_map]
  congr 2
  funext b
  cases b <;> rfl

theorem slotAt_pairLane (presence : BitVec 8) (n : Nat) {pots : List (Option Pot)} (hlen : pots.length = 8) (k : Nat) :
    slotAt (List.zipWith pairLane pots (sensedLanes presence n)) k =
      if sensed presence n k then some ((slotAt pots k).getD (Pot.fresh Reason.stray.mask)) else none := by
  by_cases hk : k < 8
  · have hpot : pots[k]? = some (pots[k]'(by omega)) := List.getElem?_eq_getElem (by omega)
    simp only [slotAt, List.getElem?_zipWith, getElem?_sensedLanes presence n hk, hpot, Option.join_some]
    cases pots[k]'(by omega) <;> cases sensed presence n k <;> rfl
  · rw [sensed_of_le (by omega), slotAt_of_length_le (by simp [sensedLanes]; omega)]
    rfl

/-- The lanes counted by a pairing, lane by lane. -/
theorem length_filter_zip_lanes (presence : BitVec 8) (n : Nat) {pots : List (Option Pot)} (hlen : pots.length = 8)
    (p : Option Pot → Bool → Bool) :
    ((pots.zip (sensedLanes presence n)).filter (fun x => p x.1 x.2)).length =
      ((List.range 8).filter (fun k => p (slotAt pots k) (sensed presence n k))).length := by
  have hzip : pots.zip (sensedLanes presence n) = (List.range 8).map (fun k => (slotAt pots k, sensed presence n k)) := by
    refine List.ext_getElem? fun k => ?_
    by_cases hk : k < 8
    · have hpot : pots[k]? = some (pots[k]'(by omega)) := List.getElem?_eq_getElem (by omega)
      simp [slotAt, hk, hpot, List.zip, List.getElem?_zipWith, getElem?_sensedLanes presence n hk]
    · rw [List.getElem?_eq_none (by simp [hlen]; omega), List.getElem?_eq_none (by simp; omega)]
  rw [hzip, List.filter_map, List.length_map]
  rfl

theorem heldCount_pairLane (presence : BitVec 8) (n : Nat) {pots : List (Option Pot)} (hlen : pots.length = 8) :
    heldCount (List.zipWith pairLane pots (sensedLanes presence n)) = sensedCount presence n := by
  have hmap : List.zipWith pairLane pots (sensedLanes presence n) =
      (List.range 8).map (fun k => if sensed presence n k then some ((slotAt pots k).getD (Pot.fresh Reason.stray.mask))
        else none) := by
    refine List.ext_getElem? fun k => ?_
    by_cases hk : k < 8
    · have hpot : pots[k]? = some (pots[k]'(by omega)) := List.getElem?_eq_getElem (by omega)
      simp only [List.getElem?_zipWith, getElem?_sensedLanes presence n hk, hpot, List.getElem?_map, List.getElem?_range hk,
        slotAt, Option.join_some, Option.map_some]
      cases pots[k]'(by omega) <;> cases sensed presence n k <;> rfl
    · rw [List.getElem?_eq_none (by simp [hlen]; omega), List.getElem?_eq_none (by simp; omega)]
  rw [hmap, heldCount, sensedCount, sensedLanes, List.filter_map, List.filter_map, List.length_map, List.length_map]
  congr 2
  funext k
  simp only [Function.comp]
  cases sensed presence n k <;> rfl

end Sys2Proof.Machine
end

section

/-! ## Family "other": the rows created, paired, stray and untracked (O15) -/

namespace Sys2Proof.Machine

theorem SameLots.openLot {β : Type} {g : LotRec → β} {s t : State} (h : SameLots g s t) :
    (openLotRec t).map g = (openLotRec s).map g := by
  unfold openLotRec
  rw [h.openIdx]
  cases s.lot.openIdx with
  | none => rfl
  | some i => exact h.entry i

theorem SameLots.lotOf {β : Type} {g : LotRec → β} {s t : State} (h : SameLots g s t) (o : Option Nat) :
    (lotOf t o).map g = (Machine.lotOf s o).map g := by
  cases o with
  | none => rfl
  | some id => exact h.found id

theorem findLot_updateLot_same {id : Nat} {s : State} {l : LotRec} (f : LotRec → LotRec) (hid : ∀ r, (f r).id = r.id)
    (h : findLot s id = some l) : findLot (updateLot id f s) id = some (f l) := by
  unfold findLot updateLot
  rw [findLotIn_map _ _ _ (fun r => by split <;> simp [hid]), show findLotIn s.lot.table id = some l from h, Option.map_some,
    if_pos (findLotIn_id h)]

/-! ### FILLER creates a row (R8, R13, R14) -/

theorem createRow_enters (lanes : List Bool) (s : State) :
    (createRow lanes s).rowAt 0 =
        some { number := s.idx.nextRow, body := classifyRow (openLotRec s) true (filledRow (openLotRec s) lanes) } ∧
      (createRow lanes s).idx.nextRow = nextRowNumber s.idx.nextRow := by
  unfold createRow
  dsimp only
  rw [rowAt_enterRow_zero]
  simp [enterRow]

/-- A created row's pots carry UNKNOWN-LOT and PURGE by the open lot, with SPENT besides where the lot has no allowance. -/
theorem createdRow_pots (lot : Option LotRec) (presence : BitVec 8) (n k : Nat) :
    slotAt (classifyRow lot true (filledRow lot (sensedLanes presence n))).pots k =
      if sensed presence n k then
        some (Pot.fresh (fillReasons lot ||| if lot.any (fun r => r.allowance = 0) then Reason.spent.mask else 0#9))
      else none := by
  have hpots : slotAt (filledRow lot (sensedLanes presence n)).pots k =
      if sensed presence n k then some (Pot.fresh (fillReasons lot)) else none := slotAt_sensedPots presence n _ k
  have hzero : lot.any (fun r => decide (r.allowance ≤ (filledRow lot (sensedLanes presence n)).exposure)) =
      lot.any (fun r => decide (r.allowance = 0)) := by
    cases lot with
    | none => rfl
    | some r => exact decide_eq_decide.2 Nat.le_zero
  rw [classifyRow_eq, Bool.and_true, hzero]
  cases lot.any (fun r => decide (r.allowance = 0)) with
  | false =>
    rw [if_neg Bool.false_ne_true, if_neg Bool.false_ne_true, hpots, BitVec.or_zero]
  | true =>
    rw [if_pos rfl, if_pos rfl, slotAt_markAll_pots, hpots]
    cases sensed presence n k <;> rfl

theorem fresh_has (lot : Option LotRec) (spent : Bool) :
    (Pot.fresh (fillReasons lot ||| if spent then Reason.spent.mask else 0#9)).has .unknownLot = lot.isNone ∧
      (Pot.fresh (fillReasons lot ||| if spent then Reason.spent.mask else 0#9)).has .purge =
        lot.any (fun l => decide (l.purgeLeft ≠ 0)) := by
  cases lot with
  | none => cases spent <;> exact ⟨by decide, by decide⟩
  | some r =>
    by_cases h : r.purgeLeft = 0
    · rw [fillReasons, if_pos h]
      simp only [Option.isNone_some, Option.any_some, h, ne_eq, not_true_eq_false, decide_false]
      cases spent <;> exact ⟨by decide, by decide⟩
    · rw [fillReasons, if_neg h]
      simp only [Option.isNone_some, Option.any_some, h, ne_eq, not_false_eq_true, decide_true]
      cases spent <;> exact ⟨by decide, by decide⟩

/-- The open lot at the fill stage is the open lot before the event in its id and its purge rows. -/
theorem rowsAdvanced_openLot (s : State) :
    (openLotRec (rowsAdvanced s)).map LotRec.id = (openLotRec s).map LotRec.id ∧
      (openLotRec (rowsAdvanced s)).isNone = (openLotRec s).isNone ∧
      (openLotRec (rowsAdvanced s)).any (fun l => decide (l.purgeLeft ≠ 0)) =
        (openLotRec s).any (fun l => decide (l.purgeLeft ≠ 0)) := by
  have hterms := (rowsAdvanced_terms s).openLot
  cases ht : openLotRec (rowsAdvanced s) with
  | none =>
    cases hs : openLotRec s with
    | none => exact ⟨rfl, rfl, rfl⟩
    | some r => rw [ht, hs] at hterms; exact absurd hterms (by simp)
  | some r =>
    cases hs : openLotRec s with
    | none => rw [ht, hs] at hterms; exact absurd hterms (by simp)
    | some r' =>
      rw [ht, hs] at hterms
      have heq : r.terms = r'.terms := Option.some.inj hterms
      have hid : r.terms.id = r'.terms.id := by rw [heq]
      have hpurge : r.terms.purgeLeft = r'.terms.purgeLeft := by rw [heq]
      simp [show r.id = r'.id from hid, show r.purgeLeft = r'.purgeLeft from hpurge]

theorem fillerRow {presence bond : BitVec 8} {s : State} (hrole : s.role = .filler)
    (hmode : s.mode = .running ∨ s.mode = .held ∨ s.mode = .fault) (hdebt : s.idx.debt = 0)
    (hcount : s.countsPerIndex ≤ s.idx.posCount + 1) (hgate : 1 ≤ s.gatePos) (hn : sensedCount presence s.laneCount ≠ 0) :
    ∃ t r, exec (.forwardCount presence bond) s = .next t ∧ t.rowAt 0 = some r ∧ r.number = s.idx.nextRow ∧
      t.idx.nextRow = (if s.idx.nextRow = 65535 then 1 else s.idx.nextRow + 1) ∧
      r.body.lot = (openLotRec s).map LotRec.id ∧ r.body.exposure = 0 ∧ r.body.uncertain = false ∧
      r.body.purge = (openLotRec s).any (fun l => decide (l.purgeLeft ≠ 0)) ∧
      (∀ k, k < 8 → (slotAt r.body.pots k).isSome = sensed presence s.laneCount k) ∧
      ∀ k p, slotAt r.body.pots k = some p →
        p.lidded = false ∧ p.has .unknownLot = (openLotRec s).isNone ∧
          p.has .purge = (openLotRec s).any (fun l => decide (l.purgeLeft ≠ 0)) := by
  have htakes : takesCounts s = true := by
    rcases hmode with h | h | h <;> simp [takesCounts, hrole, h, Role.isRow]
  have hallowed : fillAllowed s.role s.mode = true := by
    rcases hmode with h | h | h <;> simp [fillAllowed, hrole, h]
  have hrow := rowFilled_of_filler hn hallowed hrole
  obtain ⟨henter, hnext⟩ := createRow_enters (sensedLanes presence s.laneCount) (rowsAdvanced s)
  obtain ⟨hid, hnone, hpurge⟩ := rowsAdvanced_openLot s
  refine ⟨_, _, exec_indexEvent htakes hdebt hcount,
    (indexEvent_rowAt_zero presence s hgate (.inl (by rw [hrole]; decide))).trans ((congrArg (State.rowAt · 0) hrow).trans henter),
    rowsAdvanced_nextRow s, ?_, ?_, ?_, ?_, ?_, fun k hk => ?_, fun k p hp => ?_⟩
  · rw [(indexEvent_fillCounts presence s bond).1, hrow, hnext, rowsAdvanced_nextRow, nextRowNumber]
  · rw [classifyRow_eq, ← hid]
    rfl
  · rw [classifyRow_eq]
    rfl
  · rw [classifyRow_eq]
    rfl
  · rw [classifyRow_eq, ← hpurge]
    rfl
  · show (slotAt (classifyRow _ _ _).pots k).isSome = _
    rw [createdRow_pots]
    cases sensed presence s.laneCount k <;> rfl
  · have hp' : slotAt (classifyRow (openLotRec (rowsAdvanced s)) true
        (filledRow (openLotRec (rowsAdvanced s)) (sensedLanes presence s.laneCount))).pots k = some p := hp
    rw [createdRow_pots] at hp'
    split at hp'
    · obtain rfl := Option.some.inj hp'
      obtain ⟨hunknown, hpur⟩ := fresh_has (openLotRec (rowsAdvanced s))
        ((openLotRec (rowsAdvanced s)).any (fun r : LotRec => decide (r.allowance = 0)))
      exact ⟨rfl, hunknown.trans hnone, hpur.trans hpurge⟩
    · cases hp'

end Sys2Proof.Machine
end

section

/-! ## Family "other": pairing, stray rows and untracked pots (O15) -/

namespace Sys2Proof.Machine

/-! ### Pairing (R15, R33) -/

/-- The pots of an entering row: announced and sensed ones stay, sensed ones of which nothing was announced are STRAY. -/
theorem enteredRow_pots (lot : Option LotRec) (b : RowBody) (presence : BitVec 8) (n : Nat) (hlen : b.pots.length = 8)
    (k : Nat) :
    slotAt (classifyRow lot true (pairedRow b (sensedLanes presence n))).pots k =
      if sensed presence n k then
        some { lidded := (slotAt b.pots k).any Pot.lidded
               reasons := ((slotAt b.pots k).map Pot.reasons).getD Reason.stray.mask |||
                 ((if b.uncertain then Reason.uncertain.mask else 0#9) |||
                   (if lot.any (fun l => l.allowance ≤ b.exposure) then Reason.spent.mask else 0#9)) }
      else none := by
  have hexp : (pairedRow b (sensedLanes presence n)).exposure = b.exposure := by
    unfold pairedRow
    dsimp only
    split <;> rfl
  have hpaired : slotAt (pairedRow b (sensedLanes presence n)).pots k =
      if sensed presence n k then
        some { lidded := (slotAt b.pots k).any Pot.lidded
               reasons := ((slotAt b.pots k).map Pot.reasons).getD Reason.stray.mask |||
                 (if b.uncertain then Reason.uncertain.mask else 0#9) }
      else none := by
    have hlane := slotAt_pairLane presence n hlen k
    unfold pairedRow
    dsimp only
    cases b.uncertain with
    | false =>
      rw [if_neg Bool.false_ne_true, if_neg Bool.false_ne_true, hlane, BitVec.or_zero]
      cases slotAt b.pots k <;> rfl
    | true =>
      rw [if_pos rfl, if_pos rfl, slotAt_markAll_pots, hlane]
      cases sensed presence n k with
      | false => rfl
      | true => cases slotAt b.pots k <;> rfl
  rw [classifyRow_eq, Bool.and_true, hexp]
  cases lot.any (fun r => decide (r.allowance ≤ b.exposure)) with
  | false =>
    rw [if_neg Bool.false_ne_true, if_neg Bool.false_ne_true, BitVec.or_zero]
    exact hpaired
  | true =>
    rw [if_pos rfl, if_pos rfl, slotAt_markAll_pots, hpaired, ← BitVec.or_assoc]
    cases sensed presence n k <;> rfl

theorem pairedRow_fields (b : RowBody) (lanes : List Bool) :
    pairedRow b lanes = { b with pots := (pairedRow b lanes).pots } := by
  unfold pairedRow
  dsimp only
  split <;> rfl

theorem heldCount_map_map {α : Type} (l : List (Option α)) (f : α → α) : heldCount (l.map (Option.map f)) = heldCount l := by
  unfold heldCount
  rw [List.filter_map, List.length_map]
  congr 2
  funext o
  cases o <;> rfl

theorem potCount_pairedRow (b : RowBody) (presence : BitVec 8) (n : Nat) (hlen : b.pots.length = 8) :
    (pairedRow b (sensedLanes presence n)).potCount = sensedCount presence n := by
  rw [← heldCount_pairLane presence n hlen]
  unfold pairedRow
  dsimp only
  split
  · exact heldCount_map_map _ _
  · rfl

/-- A pairing's state before the row enters. -/
def paired (e : RowEntry) (rest : List RowEntry) (lanes : List Bool) (s : State) : State :=
  updateNamed (pairedRow e.body lanes).lot
    (fun r => { r with potsReceived := bump r.potsReceived (pairedRow e.body lanes).potCount })
    { s with
      hnd.rowArrivals := rest
      hnd.missing := bump s.hnd.missing (missingPots e.body.pots lanes)
      hnd.stray := bump s.hnd.stray (strayPots e.body.pots lanes) }

theorem pairRow_of {e : RowEntry} {rest : List RowEntry} {s : State} (h : s.hnd.rowArrivals = e :: rest) (lanes : List Bool) :
    pairRow lanes s =
      enterRow (classifyRow (lotOf (paired e rest lanes s) (pairedRow e.body lanes).lot) true (pairedRow e.body lanes))
        (paired e rest lanes s) := by
  rw [pairRow, h]
  rfl

theorem paired_hnd (e : RowEntry) (rest : List RowEntry) (lanes : List Bool) (s : State) :
    (paired e rest lanes s).hnd =
      { s.hnd with
        rowArrivals := rest
        missing := bump s.hnd.missing (missingPots e.body.pots lanes)
        stray := bump s.hnd.stray (strayPots e.body.pots lanes) } := by
  simp [paired]

theorem paired_nextRow (e : RowEntry) (rest : List RowEntry) (lanes : List Bool) (s : State) :
    (paired e rest lanes s).idx = s.idx := by
  simp [paired]

/-- A pairing leaves the allowance of every lot. -/
theorem paired_terms (e : RowEntry) (rest : List RowEntry) (lanes : List Bool) (s : State) :
    SameLots LotRec.allowance (rowsAdvanced s) (paired e rest lanes (rowsAdvanced s)) := by
  have h₀ : SameLots LotRec.allowance (rowsAdvanced s)
      { rowsAdvanced s with
        hnd.rowArrivals := rest
        hnd.missing := bump (rowsAdvanced s).hnd.missing (missingPots e.body.pots lanes)
        hnd.stray := bump (rowsAdvanced s).hnd.stray (strayPots e.body.pots lanes) } := .of_lot rfl
  refine h₀.trans (sameLots_updateNamed ?_ ?_ _ _)
  · exact fun _ => rfl
  · exact fun _ => rfl

theorem rowsAdvanced_allowance (s : State) : SameLots LotRec.allowance s (rowsAdvanced s) :=
  (rowsAdvanced_terms s).comp LotRec.allowance

/-- Whether a lot's allowance is used up depends on its allowance alone. -/
theorem SameLots.spent {s t : State} (h : SameLots LotRec.allowance s t) (o : Option Nat) (exposure : Nat) :
    (Machine.lotOf t o).any (fun l => decide (l.allowance ≤ exposure)) =
      (Machine.lotOf s o).any (fun l => decide (l.allowance ≤ exposure)) := by
  have hany (x : Option LotRec) : x.any (fun l => decide (l.allowance ≤ exposure)) =
      (x.map LotRec.allowance).any (fun a => decide (a ≤ exposure)) := by cases x <;> rfl
  rw [hany, hany, h.lotOf]

/-! ### The three ways position 0 is filled at LIDDER and TRAYER -/

section Arrivals

variable {presence : BitVec 8} {s : State}

theorem takesPairs (hrole : s.role = .lidder ∨ s.role = .trayer) (hm : s.mode ≠ .sanitising) :
    fillAllowed s.role s.mode = true ∧ s.role ≠ .filler ∧ s.role.hasIncoming = true := by
  rcases hrole with h | h <;> rw [h] <;> exact ⟨by simp [fillAllowed, hm], by decide, by decide⟩

theorem not_starting_of_takesCounts (h : takesCounts s = true) : s.mode ≠ .starting := by
  intro hm
  simp [takesCounts, hm] at h

/-- The row that a pairing enters. -/
theorem rowFilled_pairs {e : RowEntry} {rest : List RowEntry} (hn : sensedCount presence s.laneCount ≠ 0)
    (hrole : s.role = .lidder ∨ s.role = .trayer) (hm : s.mode ≠ .sanitising) (he : s.hnd.rowArrivals = e :: rest) :
    rowFilled presence s =
      enterRow (classifyRow (lotOf (paired e rest (sensedLanes presence s.laneCount) (rowsAdvanced s))
          (pairedRow e.body (sensedLanes presence s.laneCount)).lot) true (pairedRow e.body (sensedLanes presence s.laneCount)))
        (paired e rest (sensedLanes presence s.laneCount) (rowsAdvanced s)) := by
  obtain ⟨hallowed, hne, -⟩ := takesPairs hrole hm
  rw [rowFilled_of_pair hn hallowed hne, pairRow_of]
  rw [rowsAdvanced_hnd]
  exact he

/-- The row that a stray arrival enters. -/
theorem rowFilled_stray (hn : sensedCount presence s.laneCount ≠ 0) (hrole : s.role = .lidder ∨ s.role = .trayer)
    (hm : s.mode ≠ .sanitising) (he : s.hnd.rowArrivals = []) :
    rowFilled presence s =
      enterRow (strayRow (sensedLanes presence s.laneCount))
        (strayAdvance { rowsAdvanced s with
          hnd.stray := bump (rowsAdvanced s).hnd.stray (strayRow (sensedLanes presence s.laneCount)).potCount }) := by
  obtain ⟨hallowed, hne, -⟩ := takesPairs hrole hm
  have hempty : (rowsAdvanced s).hnd.rowArrivals = [] := by rw [rowsAdvanced_hnd]; exact he
  rw [rowFilled_of_pair hn hallowed hne, pairRow, hempty]

end Arrivals

/-- The lot's count of pots received at the end of the event is the fill stage's. -/
theorem indexEvent_potsReceived (presence bond : BitVec 8) (s : State) (id : Nat) :
    (findLot (indexEvent presence bond { s with idx.posCount := 0 }) id).map LotRec.potsReceived =
      (findLot (rowFilled presence s) id).map LotRec.potsReceived := by
  have hlast : findLot (indexEvent presence bond { s with idx.posCount := 0 }) id =
      findLot (treatStage bond (rowsMoved presence s)) id := by
    unfold findLot
    rw [indexEvent_lot]
  have hfirst : findLot (rowsMoved presence s) id = findLot (rowFilled presence s) id := by
    unfold findLot
    rw [rowsMoved_of_rowFilled, settleSince_lot]
  rw [hlast, (treated_treatStage bond _).lots.found, hfirst]

theorem pairedEvent {presence bond : BitVec 8} {e : RowEntry} {rest : List RowEntry} {s : State}
    (htakes : takesCounts s = true) (hdebt : s.idx.debt = 0) (hcount : s.countsPerIndex ≤ s.idx.posCount + 1)
    (hrole : s.role = .lidder ∨ s.role = .trayer) (hm : s.mode ≠ .sanitising) (hgate : 1 ≤ s.gatePos)
    (hlid : 1 ≤ s.lidPos) (hbond : 1 ≤ s.bondPos) (hn : sensedCount presence s.laneCount ≠ 0)
    (he : s.hnd.rowArrivals = e :: rest) (hlen : e.body.pots.length = 8) :
    let lot := lotOf s e.body.lot
    let added : BitVec 9 :=
      (if e.body.uncertain then Reason.uncertain.mask else 0#9) |||
        (if lot.any (fun l => l.allowance ≤ e.body.exposure) then Reason.spent.mask else 0#9)
    let here := sensed presence s.laneCount
    let announced := fun (k : Nat) => (slotAt e.body.pots k).isSome
    ∃ t, exec (.forwardCount presence bond) s = .next t ∧
      (∃ r, t.rowAt 0 = some r ∧ r.number = s.idx.nextRow ∧ r.body.lot = e.body.lot ∧
        r.body.exposure = e.body.exposure ∧ r.body.purge = e.body.purge ∧ r.body.uncertain = e.body.uncertain ∧
        ∀ k, slotAt r.body.pots k =
          if here k then
            some { lidded := (slotAt e.body.pots k).any Pot.lidded,
                   reasons := ((slotAt e.body.pots k).map Pot.reasons).getD Reason.stray.mask ||| added }
          else none) ∧
      t.hnd.rowArrivals = rest ∧ t.hnd.expected = s.hnd.expected ∧ t.hnd.room = roomOf t ∧
      t.hnd.missing =
        min 4294967295 (s.hnd.missing + ((List.range 8).filter (fun k => announced k && !here k)).length) ∧
      t.hnd.stray =
        min 4294967295 (s.hnd.stray + ((List.range 8).filter (fun k => !announced k && here k)).length) ∧
      (∀ l, lot = some l →
        ∃ q, findLot t l.id = some q ∧
          q.potsReceived = min 4294967295 (l.potsReceived + sensedCount presence s.laneCount)) ∧
      (s.upstream ≠ 0 →
        let room := if s.mode = .running ∧ ¬(s.role = .trayer ∧ 16 ≤ t.tray.formed.length) then 8 - rest.length else 0
        (s.hnd.room < room →
            t.lnk.creditSlot =
                some (frameTo s.upstream (.credit (s.hnd.expected + BitVec.ofNat 16 room) (BitVec.ofNat 8 room))) ∧
              t.hnd.advertised = s.hnd.expected + BitVec.ofNat 16 room) ∧
          (room ≤ s.hnd.room → t.lnk.creditSlot = s.lnk.creditSlot ∧ t.hnd.advertised = s.hnd.advertised)) := by
  intro lot added here announced
  have hrow := rowFilled_pairs hn hrole hm he
  have hhnd : (rowFilled presence s).hnd =
      { (rowsAdvanced s).hnd with
        rowArrivals := rest
        missing := bump s.hnd.missing (missingPots e.body.pots (sensedLanes presence s.laneCount))
        stray := bump s.hnd.stray (strayPots e.body.pots (sensedLanes presence s.laneCount)) } := by
    rw [hrow]
    refine (paired_hnd e rest _ (rowsAdvanced s)).trans ?_
    rw [rowsAdvanced_hnd]
  have hspent := ((rowsAdvanced_allowance s).trans (paired_terms e rest (sensedLanes presence s.laneCount) s)).spent
    e.body.lot e.body.exposure
  have hlotName : (pairedRow e.body (sensedLanes presence s.laneCount)).lot = e.body.lot := by rw [pairedRow_fields]
  have hend := indexEvent_fillHnd presence s bond
  refine ⟨_, exec_indexEvent htakes hdebt hcount, ⟨_, (indexEvent_rowAt_zero presence s hgate (.inr ⟨hlid, hbond⟩)).trans
      ((congrArg (State.rowAt · 0) hrow).trans (rowAt_enterRow_zero _ _)), ?_, ?_, ?_, ?_, ?_, fun k => ?_⟩, ?_, ?_, ?_, ?_,
      ?_, fun l hl => ?_, fun hup => ?_⟩
  · show (paired e rest _ (rowsAdvanced s)).idx.nextRow = _
    rw [paired_nextRow, rowsAdvanced_nextRow]
  · rw [classifyRow_eq]; exact hlotName
  · rw [classifyRow_eq, pairedRow_fields]
  · rw [classifyRow_eq, pairedRow_fields]
  · rw [classifyRow_eq, pairedRow_fields]
  · refine (enteredRow_pots _ e.body presence s.laneCount hlen k).trans ?_
    rw [hlotName, hspent]
  · rw [hend, hhnd]
  · rw [hend, hhnd, rowsAdvanced_hnd]
  · exact indexEvent_room presence bond _
  · rw [hend, hhnd]
    exact congrArg (fun n => min 4294967295 (s.hnd.missing + n))
      (length_filter_zip_lanes presence s.laneCount hlen (fun o b => o.isSome && !b))
  · rw [hend, hhnd]
    refine congrArg (fun n => min 4294967295 (s.hnd.stray + n))
      ((length_filter_zip_lanes presence s.laneCount hlen (fun o b => o.isNone && b)).trans ?_)
    simp only [announced, Option.not_isSome, here]
  · have hname : e.body.lot = some l.id := lotOf_id hl
    have hfound : findLot s l.id = some l := by
      have h : lotOf s e.body.lot = some l := hl
      rw [hname] at h
      exact h
    obtain ⟨l', hl', hterms⟩ : ∃ l', findLot (rowsAdvanced s) l.id = some l' ∧ l'.potsReceived = l.potsReceived := by
      have h := (rowsAdvanced_terms s).found l.id
      rw [hfound] at h
      obtain ⟨l', hl', heq⟩ := Option.map_eq_some_iff.1 h
      have hpots : l'.terms.potsReceived = l.terms.potsReceived := by rw [heq]
      exact ⟨l', hl', hpots⟩
    have hpaired : findLot (rowFilled presence s) l.id =
        some { l' with potsReceived := bump l'.potsReceived (sensedCount presence s.laneCount) } := by
      rw [hrow]
      show findLot (paired e rest _ (rowsAdvanced s)) l.id = _
      unfold paired
      rw [hlotName, hname, potCount_pairedRow _ _ _ hlen]
      exact findLot_updateLot_same
        (fun r => { r with potsReceived := bump r.potsReceived (sensedCount presence s.laneCount) }) (fun _ => rfl) hl'
    have hend := indexEvent_potsReceived presence bond s l.id
    rw [hpaired] at hend
    obtain ⟨q, hq, hcount⟩ := Option.map_eq_some_iff.1 hend
    exact ⟨q, hq, hcount.trans (by rw [← hterms]; rfl)⟩
  · obtain ⟨-, -, hin⟩ := takesPairs hrole hm
    have hslots := indexEvent_creditSlot presence bond s
    have hroom := roomOf_rowFilled presence bond hrole
    have hrest : (rowFilled presence s).hnd.rowArrivals = rest := by rw [hhnd]
    have hsame : (rowFilled presence s).hnd.expected = s.hnd.expected := by rw [hhnd, rowsAdvanced_hnd]
    have hbefore : (rowFilled presence s).hnd.room = s.hnd.room := by rw [hhnd, rowsAdvanced_hnd]
    have hsettle : rowsMoved presence s = settleFlow (rowFilled presence s) := by
      rw [rowsMoved_of_rowFilled, settleSince]
      exact if_pos hsame
    rw [hrest] at hroom
    rw [hslots.1, hslots.2, hsettle, ← hroom]
    refine ⟨fun hlt => ?_, fun hle => ?_⟩
    · have hplace := settleFlow_creditSlot_of_lt (s := rowFilled presence s) (by rw [rowFilled_role]; exact hin)
        (by rw [rowFilled_upstream]; exact hup) (by rw [rowFilled_mode]; exact not_starting_of_takesCounts htakes)
        (by rw [hbefore]; exact hlt)
      rw [hsame, rowFilled_upstream] at hplace
      exact hplace
    · have hkeep := settleFlow_creditSlot_of_le (s := rowFilled presence s) (by rw [hbefore]; exact hle)
      rw [hkeep.1, hkeep.2, (rowFilled_filled presence s).lnk, hhnd, rowsAdvanced_hnd]
      exact ⟨(exited_start s).slot, rfl⟩

end Sys2Proof.Machine
end

section

/-! ## Family "other": stray arrivals and untracked pots (O15) -/

namespace Sys2Proof.Machine

theorem strayEvent {presence bond : BitVec 8} {s : State} (htakes : takesCounts s = true) (hdebt : s.idx.debt = 0)
    (hcount : s.countsPerIndex ≤ s.idx.posCount + 1) (hrole : s.role = .lidder ∨ s.role = .trayer)
    (hm : s.mode ≠ .sanitising) (hgate : 1 ≤ s.gatePos) (hlid : 1 ≤ s.lidPos) (hbond : 1 ≤ s.bondPos)
    (hn : sensedCount presence s.laneCount ≠ 0) (he : s.hnd.rowArrivals = []) :
    ∃ t, exec (.forwardCount presence bond) s = .next t ∧
      (∃ r, t.rowAt 0 = some r ∧ r.number = s.idx.nextRow ∧ r.body.lot = none ∧ r.body.exposure = 0 ∧
        r.body.purge = false ∧ r.body.uncertain = false ∧
        ∀ k, slotAt r.body.pots k =
          if sensed presence s.laneCount k then some { lidded := false, reasons := Reason.stray.mask } else none) ∧
      t.hnd.rowArrivals = [] ∧ t.hnd.expected = s.hnd.expected + 1#16 ∧ t.hnd.room = roomOf t ∧
      t.hnd.missing = s.hnd.missing ∧
      t.hnd.stray = min 4294967295 (s.hnd.stray + sensedCount presence s.laneCount) ∧
      (s.upstream ≠ 0 →
        let room := if s.mode = .running ∧ ¬(s.role = .trayer ∧ 16 ≤ t.tray.formed.length) then 8 else 0
        t.lnk.creditSlot =
            some (frameTo s.upstream (.credit (t.hnd.expected + BitVec.ofNat 16 room) (BitVec.ofNat 8 room))) ∧
          t.hnd.advertised = t.hnd.expected + BitVec.ofNat 16 room) := by
  have hrow := rowFilled_stray hn hrole hm he
  have hpots : (strayRow (sensedLanes presence s.laneCount)).potCount = sensedCount presence s.laneCount :=
    heldCount_sensedPots _ _
  have hhnd : (rowFilled presence s).hnd =
      { (rowsAdvanced s).hnd with
        expected := s.hnd.expected + 1#16
        stray := bump s.hnd.stray (sensedCount presence s.laneCount) } := by
    have hexp : (rowsAdvanced s).hnd.expected = s.hnd.expected := by rw [rowsAdvanced_hnd]
    have hstray : (rowsAdvanced s).hnd.stray = s.hnd.stray := by rw [rowsAdvanced_hnd]
    rw [hrow, hpots, ← hexp, ← hstray]
    rfl
  have hexpected : (rowFilled presence s).hnd.expected = s.hnd.expected + 1#16 := by rw [hhnd]
  have hend := indexEvent_fillHnd presence s bond
  have hafter : (indexEvent presence bond { s with idx.posCount := 0 }).hnd.expected = s.hnd.expected + 1#16 := by
    rw [hend]
    exact hexpected
  have hzero : (indexEvent presence bond { s with idx.posCount := 0 }).rowAt 0 =
      some { number := s.idx.nextRow, body := strayRow (sensedLanes presence s.laneCount) } := by
    rw [indexEvent_rowAt_zero presence s hgate (.inr ⟨hlid, hbond⟩), hrow, rowAt_enterRow_zero, ← rowsAdvanced_nextRow s]
    rfl
  refine ⟨_, exec_indexEvent htakes hdebt hcount, ⟨_, hzero, rfl, rfl, rfl, rfl, rfl,
      fun k => slotAt_sensedPots presence s.laneCount _ k⟩, ?_, ?_, ?_, ?_, ?_, fun hup => ?_⟩
  · rw [hend, hhnd, rowsAdvanced_hnd]
    exact he
  · rw [hend]
    exact hexpected
  · exact indexEvent_room presence bond _
  · rw [hend, hhnd, rowsAdvanced_hnd]
  · rw [hend, hhnd]
    rfl
  · obtain ⟨-, -, hin⟩ := takesPairs hrole hm
    have hslots := indexEvent_creditSlot presence bond s
    have hroom := roomOf_rowFilled presence bond hrole
    have hnone : (rowFilled presence s).hnd.rowArrivals = [] := by rw [hhnd, rowsAdvanced_hnd]; exact he
    have hsettle : rowsMoved presence s = settleAdvance (rowFilled presence s) := by
      rw [rowsMoved_of_rowFilled, settleSince]
      refine if_neg ?_
      rw [hexpected]
      show ¬ s.hnd.expected + 1#16 = s.hnd.expected
      bv_omega
    have hplace := settleAdvance_creditSlot (s := rowFilled presence s) (by rw [rowFilled_role]; exact hin)
      (by rw [rowFilled_upstream]; exact hup) (by rw [rowFilled_mode]; exact not_starting_of_takesCounts htakes)
    rw [hnone] at hroom
    rw [hexpected, rowFilled_upstream] at hplace
    rw [hslots.1, hslots.2, hsettle, hafter]
    simp only [List.length_nil, Nat.sub_zero] at hroom
    rw [← hroom]
    exact hplace

theorem untrackedEvent {presence bond : BitVec 8} {s : State} (htakes : takesCounts s = true) (hdebt : s.idx.debt = 0)
    (hcount : s.countsPerIndex ≤ s.idx.posCount + 1) (hbarred : fillAllowed s.role s.mode = false) (hgate : 1 ≤ s.gatePos)
    (hlid : 1 ≤ s.lidPos) (hbond : 1 ≤ s.bondPos) (hn : sensedCount presence s.laneCount ≠ 0) :
    ∃ t, exec (.forwardCount presence bond) s = .next t ∧ t.rowAt 0 = none ∧ t.idx.nextRow = s.idx.nextRow ∧
      t.idx.untracked = min 4294967295 (s.idx.untracked + sensedCount presence s.laneCount) ∧
      t.hnd.rowArrivals = s.hnd.rowArrivals ∧ t.hnd.expected = s.hnd.expected ∧ t.hnd.missing = s.hnd.missing ∧
      t.hnd.stray = s.hnd.stray ∧ t.hnd.room = roomOf t := by
  have hrow := rowFilled_of_barred hn hbarred
  obtain ⟨hnext, huntracked⟩ := indexEvent_fillCounts presence s bond
  have hend := indexEvent_fillHnd presence s bond
  have hhnd : (rowFilled presence s).hnd = { s.hnd with nextSeq := (rowsAdvanced s).hnd.nextSeq } := by
    rw [hrow]
    exact rowsAdvanced_hnd s
  refine ⟨_, exec_indexEvent htakes hdebt hcount,
    (indexEvent_rowAt_zero presence s hgate (.inr ⟨hlid, hbond⟩)).trans (congrArg (State.rowAt · 0) hrow),
    ?_, ?_, ?_, ?_, ?_, ?_, ?_⟩
  · rw [hnext, hrow]
    exact rowsAdvanced_nextRow s
  · rw [huntracked, hrow]
    show bump (rowsAdvanced s).idx.untracked _ = _
    rw [rowsAdvanced_untracked]
    rfl
  · rw [hend, hhnd]
  · rw [hend, hhnd]
  · rw [hend, hhnd]
  · rw [hend, hhnd]
  · exact indexEvent_room presence bond _

/-- Settles O15: one lemma for each way an index event fills position 0. -/
theorem fillerCreatesRowFromSensedLanes : Obligations.FillerCreatesRowFromSensedLanes := by
  refine ⟨⟨fun presence bond s hrole hmode hdebt hcount hgate _ hn => fillerRow hrole hmode hdebt hcount hgate hn,
    fun presence bond e rest s htakes hdebt hcount hrole hm hgate _ hlid hbond hn he hlen =>
      pairedEvent htakes hdebt hcount hrole hm hgate hlid hbond hn he hlen,
    fun presence bond s htakes hdebt hcount hrole hm hgate _ hlid hbond hn he =>
      strayEvent htakes hdebt hcount hrole hm hgate hlid hbond hn he⟩,
    fun presence bond s htakes hdebt hcount hbarred hgate _ hlid hbond hn =>
      untrackedEvent htakes hdebt hcount ?_ hgate hlid hbond hn⟩
  rcases hbarred with ⟨hrole, hmode⟩ | hmode
  · rw [hrole, hmode]
    decide
  · rw [hmode]
    cases s.role <;> decide

end Sys2Proof.Machine
end

section

/-! ## Family "other": the lid position (R65 to R69) -/

namespace Sys2Proof.Machine

/-! ### Lidding a row's pots (R68) -/

/-- The number of pots to lid. -/
def toLidCount (pots : List (Option Pot)) : Nat := (pots.filter (fun o => o.any Pot.toLid)).length

/-- A pot to lid with its lid on. -/
def Pot.withLid (x : Pot) : Pot := if x.toLid then { x with lidded := true } else x

/-- A pot to lid that found no lid. -/
def Pot.withoutLid (x : Pot) : Pot := if x.toLid then x.mark .noLid else x

theorem toLidCount_none (pots : List (Option Pot)) : toLidCount (none :: pots) = toLidCount pots := rfl

theorem toLidCount_toLid {p : Pot} (h : p.toLid = true) (pots : List (Option Pot)) :
    toLidCount (some p :: pots) = toLidCount pots + 1 := by
  simp [toLidCount, h]

theorem toLidCount_not_toLid {p : Pot} (h : p.toLid = false) (pots : List (Option Pot)) :
    toLidCount (some p :: pots) = toLidCount pots := by
  simp [toLidCount, h]

theorem toLidCount_append (pre post : List (Option Pot)) : toLidCount (pre ++ post) = toLidCount pre + toLidCount post := by
  simp [toLidCount]

section Cons

variable (l : LotRec) (rest : List (Option Pot)) (s : State)

theorem lidPots_none : lidPots l (none :: rest) s = (none :: (lidPots l rest s).1, (lidPots l rest s).2) := rfl

theorem lidPots_not_toLid {p : Pot} (h : p.toLid = false) :
    lidPots l (some p :: rest) s = (some p :: (lidPots l rest s).1, (lidPots l rest s).2) := by
  rw [lidPots, h]
  rfl

theorem lidPots_toLid {p : Pot} {r : Reel} (h : p.toLid = true) (ha : s.lid.active = some r) (hr : r.suits l = true) :
    lidPots l (some p :: rest) s =
      (some { p with lidded := true } :: (lidPots l rest (useLid r s)).1, (lidPots l rest (useLid r s)).2) := by
  rw [lidPots, h, ha]
  simp [hr]

end Cons

/-- The reels and the count after `n` lids of a reel that holds more. -/
def withLids (a : Reel) (n : Nat) (s : State) : State :=
  { s with
    lid.active := some { a with lids := a.lids - n }
    lid.applied := if n = 0 then s.lid.applied else bump s.lid.applied n }

theorem bump_bump (count m n : Nat) : bump (bump count m) n = bump count (m + n) := by
  unfold bump countMax
  omega

theorem withLids_useLid {a : Reel} {n : Nat} {s : State} (h : n + 1 < a.lids) :
    withLids { a with lids := a.lids - 1 } n (useLid a s) = withLids a (n + 1) s := by
  have hsub : a.lids - 1 - n = a.lids - (n + 1) := by omega
  unfold useLid
  rw [if_neg (by omega)]
  unfold withLids
  rw [hsub]
  by_cases hn : n = 0
  · subst hn
    rfl
  · rw [if_neg hn, if_neg (by omega), bump_bump, Nat.add_comm 1 n]

/-- A reel that matches and holds lids enough lids every pot to lid. -/
theorem lidPots_of_enough (l : LotRec) (pots : List (Option Pot)) {a : Reel} {s : State} (ha : s.lid.active = some a)
    (hsuits : a.suits l = true) (hn : toLidCount pots < a.lids) :
    lidPots l pots s = (pots.map (Option.map Pot.withLid), withLids a (toLidCount pots) s) := by
  induction pots generalizing s a with
  | nil =>
    have hsame : withLids a 0 s = { s with lid.active := s.lid.active } := by rw [ha]; rfl
    exact congrArg (Prod.mk []) hsame.symm
  | cons o rest ih =>
    cases o with
    | none =>
      rw [toLidCount_none] at hn ⊢
      rw [lidPots_none, ih ha hsuits hn]
      rfl
    | some p =>
      cases hp : p.toLid with
      | false =>
        rw [toLidCount_not_toLid hp] at hn ⊢
        rw [lidPots_not_toLid l rest s hp, ih ha hsuits hn]
        simp [Pot.withLid, hp]
      | true =>
        rw [toLidCount_toLid hp] at hn ⊢
        have hnext : (useLid a s).lid.active = some { a with lids := a.lids - 1 } := by
          rw [useLid, if_neg (by omega)]
        rw [lidPots_toLid l rest s hp ha hsuits,
          ih hnext (by simpa [Reel.suits] using hsuits) (show toLidCount rest < a.lids - 1 by omega), withLids_useLid hn]
        simp [Pot.withLid, hp]

/-- The state at the automatic splice that follows the last lid of a reel (R65). -/
def usedUp (a : Reel) (s : State) : State := splice { s with lid.applied := bump s.lid.applied a.lids }

theorem usedUp_useLid {a : Reel} {s : State} (h : 2 ≤ a.lids) :
    usedUp { a with lids := a.lids - 1 } (useLid a s) = usedUp a s := by
  have hsum : 1 + (a.lids - 1) = a.lids := by omega
  unfold useLid
  rw [if_neg (by omega)]
  unfold usedUp splice
  rw [bump_bump, hsum]

/-- A reel that matches lids the first pots to lid, in lane order, until its last lid; the rest meets the spliced reel. -/
theorem lidPots_of_usedUp (l : LotRec) (pots : List (Option Pot)) {a : Reel} {s : State} (ha : s.lid.active = some a)
    (hsuits : a.suits l = true) (h1 : 1 ≤ a.lids) (hn : a.lids ≤ toLidCount pots) :
    ∃ pre post, pots = pre ++ post ∧ toLidCount pre = a.lids ∧
      lidPots l pots s =
        (pre.map (Option.map Pot.withLid) ++ (lidPots l post (usedUp a s)).1, (lidPots l post (usedUp a s)).2) := by
  induction pots generalizing s a with
  | nil => exact absurd (h1.trans hn) (Nat.not_succ_le_zero 0)
  | cons o rest ih =>
    cases o with
    | none =>
      obtain ⟨pre, post, hsplit, hcount, hrun⟩ := ih ha hsuits h1 hn
      exact ⟨none :: pre, post, by rw [hsplit]; rfl, hcount, by rw [lidPots_none, hrun]; rfl⟩
    | some p =>
      cases hp : p.toLid with
      | false =>
        rw [toLidCount_not_toLid hp] at hn
        obtain ⟨pre, post, hsplit, hcount, hrun⟩ := ih ha hsuits h1 hn
        refine ⟨some p :: pre, post, by rw [hsplit]; rfl, by rw [toLidCount_not_toLid hp, hcount], ?_⟩
        rw [lidPots_not_toLid l rest s hp, hrun]
        simp [Pot.withLid, hp]
      | true =>
        rw [toLidCount_toLid hp] at hn
        by_cases hlast : a.lids = 1
        · refine ⟨[some p], rest, rfl, by rw [toLidCount_toLid hp, hlast]; rfl, ?_⟩
          have hused : useLid a s = usedUp a s := by
            unfold useLid usedUp
            rw [if_pos (by omega), hlast]
          rw [lidPots_toLid l rest s hp ha hsuits, hused]
          simp [Pot.withLid, hp]
        · have hnext : (useLid a s).lid.active = some { a with lids := a.lids - 1 } := by
            rw [useLid, if_neg (by omega)]
          obtain ⟨pre, post, hsplit, hcount, hrun⟩ := ih hnext (by simpa [Reel.suits] using hsuits)
            (show 1 ≤ a.lids - 1 by omega) (show a.lids - 1 ≤ toLidCount rest by omega)
          have hcount' : toLidCount pre = a.lids - 1 := hcount
          refine ⟨some p :: pre, post, by rw [hsplit]; rfl, by rw [toLidCount_toLid hp, hcount']; omega, ?_⟩
          rw [lidPots_toLid l rest s hp ha hsuits, hrun, usedUp_useLid (by omega)]
          simp [Pot.withLid, hp]

/-- The state a row leaves when its lidding stops: with no reel, or a reel that does not match (R68, R69). -/
def stopped (l : LotRec) (s : State) : State :=
  match s.lid.active with
  | none => reelsOut s
  | some r => if r.suits l then s else reelMismatch s

/-- With no reel, or a reel that does not match, every pot to lid gains NO-LID. -/
theorem lidPots_of_stopped (l : LotRec) (pots : List (Option Pot)) {s : State}
    (h : ∀ r, s.lid.active = some r → r.suits l = false) :
    lidPots l pots s = (pots.map (Option.map Pot.withoutLid), if toLidCount pots = 0 then s else stopped l s) := by
  induction pots with
  | nil => rfl
  | cons o rest ih =>
    cases o with
    | none =>
      rw [lidPots_none, ih]
      rfl
    | some p =>
      cases hp : p.toLid with
      | false =>
        rw [lidPots_not_toLid l rest s hp, ih, toLidCount_not_toLid hp]
        simp [Pot.withoutLid, hp]
      | true =>
        rw [toLidCount_toLid hp, if_neg (by omega), lidPots, hp, stopped]
        cases ha : s.lid.active with
        | none => rfl
        | some r => simp only [Bool.not_true, Bool.false_eq_true, if_false, h r ha]; rfl

/-- The pots of a row whose first lids came from one reel and whose rest found none. -/
theorem slotAt_usedUp_pots {pots pre post : List (Option Pot)} {n : Nat} (hsplit : pots = pre ++ post)
    (hcount : toLidCount pre = n) (k : Nat) :
    slotAt (pre.map (Option.map Pot.withLid) ++ post.map (Option.map Pot.withoutLid)) k =
      (slotAt pots k).map (fun x =>
        if x.toLid then if ((pots.take k).filter (fun o => o.any Pot.toLid)).length < n then { x with lidded := true }
          else x.mark .noLid
        else x) := by
  subst hsplit hcount
  have hslot (l : List (Option Pot)) (i : Nat) (f : Pot → Pot) : slotAt (l.map (Option.map f)) i = (slotAt l i).map f :=
    slotAt_map l f i
  by_cases hk : k < pre.length
  · have hleft : slotAt (pre ++ post) k = slotAt pre k := by rw [slotAt, slotAt, List.getElem?_append_left hk]
    have hmap : slotAt (pre.map (Option.map Pot.withLid) ++ post.map (Option.map Pot.withoutLid)) k =
        (slotAt pre k).map Pot.withLid := by
      rw [← hslot, slotAt, slotAt, List.getElem?_append_left (by simpa using hk)]
    rw [hleft, hmap, List.take_append_of_le_length (by omega)]
    cases hx : slotAt pre k with
    | none => rfl
    | some x =>
      rw [Option.map_some, Option.map_some, Pot.withLid]
      cases hlid : x.toLid with
      | false => rfl
      | true =>
        have hlt : toLidCount (pre.take k) < toLidCount pre := by
          have hget : pre[k]? = some (some x) := Option.join_eq_some_iff.1 hx
          have hdrop : pre.drop k = some x :: pre.drop (k + 1) := by
            rw [List.drop_eq_getElem_cons hk]
            congr 1
            rw [List.getElem?_eq_getElem hk] at hget
            exact Option.some.inj hget
          conv_rhs => rw [← List.take_append_drop k pre, hdrop, toLidCount_append, toLidCount_toLid hlid]
          omega
        simp only [if_true]
        exact congrArg some (if_pos hlt).symm
  · have hright : slotAt (pre ++ post) k = slotAt post (k - pre.length) := by
      rw [slotAt, slotAt, List.getElem?_append_right (by omega)]
    have hmap : slotAt (pre.map (Option.map Pot.withLid) ++ post.map (Option.map Pot.withoutLid)) k =
        (slotAt post (k - pre.length)).map Pot.withoutLid := by
      rw [← hslot, slotAt, slotAt, List.getElem?_append_right (by simp; omega), List.length_map]
    have hle : ¬ ((pre ++ post).take k |>.filter (fun o => o.any Pot.toLid)).length < toLidCount pre := by
      rw [List.take_append, List.take_of_length_le (by omega : pre.length ≤ k), List.filter_append, List.length_append]
      exact Nat.not_lt.2 (Nat.le_add_right _ _)
    rw [hright, hmap]
    cases slotAt post (k - pre.length) with
    | none => rfl
    | some x =>
      rw [Option.map_some, Option.map_some, Pot.withoutLid, if_neg hle]

/-! ### The lid stage -/

theorem lidStage_of {s : State} {r : Row} {l : LotRec} (hr : s.rowAt s.lidPos = some r) (hneeds : r.body.needsLid = true)
    (hl : lotOf s r.body.lot = some l) :
    lidStage s =
      if s.lid.active.isNone && s.lid.standby.isNone then
        reelsOut (updateRow s.lidPos (fun c => { c with pots := c.pots.map (Option.map Pot.withoutLid) }) s)
      else checkReel s.lidPos r.body l (if s.lid.active.isNone then splice s else s) := by
  unfold lidStage
  simp only [hr, hneeds, hl]
  rfl

theorem checkReel_of {p : Nat} {b : RowBody} {l : LotRec} {s : State} {a : Reel} (ha : s.lid.active = some a) :
    checkReel p b l s =
      if a.suits l then updateRow p (fun c => { c with pots := (lidPots l b.pots s).1 }) (lidPots l b.pots s).2
      else reelMismatch (updateRow p (fun c => c.markAll .lidMismatch) s) := by
  rw [checkReel, ha]

end Sys2Proof.Machine
end

section

/-! ## Family "other": an index event at LIDDER (R65 to R69, R71) -/

namespace Sys2Proof.Machine

/-! ### An event with nothing at the exit and nothing sensed -/

theorem exitStage_of_none {s : State} (h : s.rowAt (s.windowLength - 1) = none) : exitStage s = s := by rw [exitStage, h]

theorem rowsMoved_of_quiet {presence : BitVec 8} {s : State} (hexit : s.rowAt (s.windowLength - 1) = none)
    (hn : sensedCount presence s.laneCount = 0) :
    rowsMoved presence s = settleSince { s with idx.posCount := 0 } (advanceStage { s with idx.posCount := 0 }) := by
  have hstart : exitStage { s with idx.posCount := 0 } = { s with idx.posCount := 0 } := exitStage_of_none hexit
  have hfill : rowFilled presence s = advanceStage { s with idx.posCount := 0 } := by
    unfold rowFilled rowsAdvanced fillStage
    rw [hstart]
    have hsensed : sensedCount presence (advanceStage { s with idx.posCount := 0 }).laneCount = 0 := hn
    dsimp only
    rw [if_pos hsensed]
  rw [rowsMoved_of_rowFilled, hfill]

theorem rowsMoved_quiet {presence : BitVec 8} {s : State} (hexit : s.rowAt (s.windowLength - 1) = none)
    (hn : sensedCount presence s.laneCount = 0) :
    (rowsMoved presence s).stc = s.stc ∧ (rowsMoved presence s).lot = s.lot ∧ (rowsMoved presence s).lid = s.lid := by
  rw [rowsMoved_of_quiet hexit hn, settleSince_stc, settleSince_lot, settleSince_lid]
  exact ⟨rfl, rfl, rfl⟩

/-- The gate treatment leaves LID and Station Control. -/
theorem gateStage_frame (s : State) : (gateStage s).lid = s.lid ∧ (gateStage s).stc = s.stc := by
  have hcount (lot : Option Nat) (n : Nat) (u : State) :
      (countRejects lot n u).lid = u.lid ∧ (countRejects lot n u).stc = u.stc := by
    unfold countRejects
    split
    · exact ⟨rfl, rfl⟩
    · exact ⟨rfl, rfl⟩
  unfold gateStage
  split
  · exact ⟨rfl, rfl⟩
  · exact hcount _ _ _

theorem indexEvent_treated (presence bond : BitVec 8) (s : State) :
    (indexEvent presence bond { s with idx.posCount := 0 }).stc = (lidTreated bond (rowsMoved presence s)).stc ∧
      (indexEvent presence bond { s with idx.posCount := 0 }).lid = (lidTreated bond (rowsMoved presence s)).lid ∧
      ∀ q, q ≠ s.gatePos → (indexEvent presence bond { s with idx.posCount := 0 }).rowAt q =
        (lidTreated bond (rowsMoved presence s)).rowAt q := by
  obtain ⟨hlid, hstc⟩ := gateStage_frame (lidTreated bond (rowsMoved presence s))
  have hgate := lidTreated_gatePos presence bond s
  refine ⟨?_, ?_, fun q hq => ?_⟩
  · rw [indexEvent_stc, treatStage_eq, hstc]
  · rw [indexEvent_lid, treatStage_eq, hlid]
  · rw [indexEvent_rowAt, treatStage_eq, gateStage_rowAt_of_ne (by rwa [hgate])]

theorem bondLanes_of_none {p : Nat} {s : State} (h : s.rowAt p = none) (passes : BitVec 8) (ks : List Nat) :
    bondLanes p passes ks s = s := by
  induction ks with
  | nil => rfl
  | cons k ks ih =>
    rw [bondLanes, h]
    exact ih

/-! ### A row with a pot to lid at the lid position -/

/-- What an index event at LIDDER with a row coming to the lid position has in common in every form of O28. -/
structure LidEvent (presence : BitVec 8) (r : Row) (l : LotRec) (s : State) : Prop where
  role : s.role = .lidder
  takes : takesCounts s = true
  debt : s.idx.debt = 0
  count : s.countsPerIndex ≤ s.idx.posCount + 1
  lid : 1 ≤ s.lidPos
  lidBond : s.lidPos < s.bondPos
  bondGate : s.bondPos < s.gatePos
  gate : s.gatePos < s.windowLength
  row : s.rowAt (s.lidPos - 1) = some r
  needs : r.body.needsLid = true
  lot : r.body.lot = some l.id
  found : findLot s l.id = some l
  exit : s.rowAt (s.windowLength - 1) = none
  quiet : sensedCount presence s.laneCount = 0
  bond : s.rowAt (s.bondPos - 1) = none

theorem rowsMoved_rowAt {presence : BitVec 8} {s : State} {p : Nat} (h1 : 1 ≤ p) (hp : p < s.windowLength) :
    (rowsMoved presence s).rowAt p = s.rowAt (p - 1) := by
  have h := rowAt_rowsMoved_succ presence s (p - 1)
  rw [Nat.sub_add_cancel h1] at h
  exact h.trans (if_pos hp)

theorem toLidCount_pos {b : RowBody} (h : b.needsLid = true) : 1 ≤ toLidCount b.pots := by
  obtain ⟨o, ho, hlid⟩ := List.any_eq_true.1 h
  exact List.length_pos_of_mem (List.mem_filter.2 ⟨ho, hlid⟩)

section Event

variable {presence : BitVec 8} {r : Row} {l : LotRec} {s : State} (h : LidEvent presence r l s)
include h

/-- The lid stage is all that the event does to LID, to Station Control and to the row. -/
theorem lidEvent_exec (bond : BitVec 8) :
    ∃ t, exec (.forwardCount presence bond) s = .next t ∧ t.stc = (lidStage (rowsMoved presence s)).stc ∧
      t.lid = (lidStage (rowsMoved presence s)).lid ∧
      t.rowAt s.lidPos = (lidStage (rowsMoved presence s)).rowAt s.lidPos := by
  obtain ⟨hl, hb, -⟩ := rowsMoved_positions presence s
  obtain ⟨hstc, hlid, hrow⟩ := indexEvent_treated presence bond s
  have hbondPos := (position_of_settings (treated_lidStage (rowsMoved presence s)).settings).2.1
  have hbond : (lidStage (rowsMoved presence s)).rowAt (lidStage (rowsMoved presence s)).bondPos = none := by
    have hlt := h.lidBond
    rw [hbondPos, hb, rowAt_lidStage_of_ne (by rw [hl]; omega),
      rowsMoved_rowAt (by omega) (h.bondGate.trans h.gate), h.bond]
  have htreated : lidTreated bond (rowsMoved presence s) = lidStage (rowsMoved presence s) := by
    unfold lidTreated
    rw [if_pos ((rowsMoved_role presence s).trans h.role), bondStage]
    exact bondLanes_of_none hbond bond _
  rw [htreated] at hstc hlid hrow
  exact ⟨_, exec_indexEvent h.takes h.debt h.count, hstc, hlid, hrow _ (by have := h.lidBond; have := h.bondGate; omega)⟩

theorem lidEvent_row : (rowsMoved presence s).rowAt s.lidPos = some r := by
  have hbond := h.lidBond
  have hgate := h.bondGate
  have hlen := h.gate
  rw [rowsMoved_rowAt h.lid (by omega), h.row]

theorem lidEvent_stage :
    lidStage (rowsMoved presence s) =
      if s.lid.active.isNone && s.lid.standby.isNone then
        reelsOut (updateRow s.lidPos (fun c => { c with pots := c.pots.map (Option.map Pot.withoutLid) })
          (rowsMoved presence s))
      else checkReel s.lidPos r.body l
        (if s.lid.active.isNone then splice (rowsMoved presence s) else rowsMoved presence s) := by
  obtain ⟨-, hlot, hlid⟩ := rowsMoved_quiet h.exit h.quiet
  obtain ⟨hpos, -⟩ := rowsMoved_positions presence s
  have hfound : lotOf (rowsMoved presence s) r.body.lot = some l := by
    rw [h.lot]
    show findLotIn (rowsMoved presence s).lot.table l.id = _
    rw [hlot]
    exact h.found
  have hstage := lidStage_of (s := rowsMoved presence s) (by rw [hpos]; exact lidEvent_row h) h.needs hfound
  rwa [hpos, hlid] at hstage

/-- The row at the lid position after its body has been changed. -/
theorem lidEvent_changed {t : State} (f : RowBody → RowBody) (ht : t.idx.window = (rowsMoved presence s).idx.window) :
    (updateRow s.lidPos f t).rowAt s.lidPos = some { r with body := f r.body } :=
  rowAt_updateRow_same f ((rowAt_of_window ht _).trans (lidEvent_row h))

/-- The station's Station Control and LID when the row is treated. -/
theorem lidEvent_before : (rowsMoved presence s).stc = s.stc ∧ (rowsMoved presence s).lid = s.lid := by
  obtain ⟨hstc, -, hlid⟩ := rowsMoved_quiet h.exit h.quiet
  exact ⟨hstc, hlid⟩

end Event

/-! ### The forms of the lid stage -/

theorem reelsOut_frame (s : State) :
    (reelsOut s).stc.causes = s.stc.causes ||| 0x08#8 ∧ (reelsOut s).stc.latched = s.stc.latched ||| Notice.noLids.mask ∧
      (reelsOut s).lid = s.lid ∧ (reelsOut s).idx.window = s.idx.window := by
  refine ⟨?_, ?_, ?_, ?_⟩ <;> simp [reelsOut, Cause.mask]

theorem reelMismatch_frame (s : State) :
    (reelMismatch s).stc.causes = s.stc.causes ||| 0x04#8 ∧
      (reelMismatch s).stc.latched = s.stc.latched ||| Notice.lidMismatch.mask ∧
      (reelMismatch s).lid = { s.lid with mismatches := bump s.lid.mismatches 1 } ∧
      (reelMismatch s).idx.window = s.idx.window := by
  refine ⟨?_, ?_, ?_, ?_⟩ <;> simp [reelMismatch, Cause.mask]

theorem splice_frame (s : State) :
    (splice s).stc.causes = s.stc.causes ∧ (splice s).stc.latched = s.stc.latched ||| Notice.reelSpliced.mask ∧
      (splice s).lid =
        { s.lid with active := s.lid.standby, standby := none, splices := bump s.lid.splices 1 } ∧
      (splice s).idx.window = s.idx.window := ⟨rfl, rfl, rfl, rfl⟩

theorem latchedNotice_of_latched_or {s : State} {n : Notice} {x : BitVec 32} (h : s.stc.latched = x ||| n.mask) :
    s.latchedNotice n = true := by
  rw [State.latchedNotice, h]
  cases n <;> simp [Notice.mask, Notice.bit]

section Forms

variable {presence : BitVec 8} {r : Row} {l : LotRec} {s : State} (h : LidEvent presence r l s) (bond : BitVec 8)
include h

theorem lidEvent_noReel (ha : s.lid.active = none) (hb : s.lid.standby = none) :
    ∃ t q, exec (.forwardCount presence bond) s = .next t ∧ t.rowAt s.lidPos = some q ∧
      q.body.pots = r.body.pots.map (Option.map Pot.withoutLid) ∧
      t.stc.causes = s.stc.causes ||| 0x08#8 ∧ t.latchedNotice .noLids = true ∧ t.lid = s.lid := by
  obtain ⟨t, hexec, hstc, hlid, hrow⟩ := lidEvent_exec h bond
  obtain ⟨hstc', hlid'⟩ := lidEvent_before h
  have hstage := lidEvent_stage h
  rw [ha, hb] at hstage
  rw [hstage] at hstc hlid hrow
  obtain ⟨hcauses, hlatched, hsame, hwindow⟩ := reelsOut_frame
    (updateRow s.lidPos (fun c => { c with pots := c.pots.map (Option.map Pot.withoutLid) }) (rowsMoved presence s))
  refine ⟨t, _, hexec, hrow.trans ((rowAt_of_window hwindow _).trans (lidEvent_changed h _ rfl)), rfl, ?_, ?_, ?_⟩
  · rw [hstc, ← hstc']; exact hcauses
  · exact latchedNotice_of_latched_or ((congrArg Stc.latched hstc).trans hlatched)
  · rw [hlid, ← hlid']; exact hsame

/-- The state in which a row is checked against its reel. -/
theorem lidEvent_checked {t₀ : State} {a : Reel} (ha : t₀.lid.active = some a)
    (hstage : lidStage (rowsMoved presence s) = checkReel s.lidPos r.body l t₀)
    (hwindow : t₀.idx.window = (rowsMoved presence s).idx.window) :
    (a.suits l = false →
      ∃ t, exec (.forwardCount presence bond) s = .next t ∧
        (∃ q, t.rowAt s.lidPos = some q ∧ q.body.pots = r.body.pots.map (Option.map (fun x => x.mark .lidMismatch))) ∧
        t.stc.causes = t₀.stc.causes ||| 0x04#8 ∧ t.stc.latched = t₀.stc.latched ||| Notice.lidMismatch.mask ∧
        t.lid = { t₀.lid with mismatches := bump t₀.lid.mismatches 1 }) ∧
      (a.suits l = true →
        ∃ t, exec (.forwardCount presence bond) s = .next t ∧
          (∃ q, t.rowAt s.lidPos = some q ∧ q.body.pots = (lidPots l r.body.pots t₀).1) ∧
          t.stc = (lidPots l r.body.pots t₀).2.stc ∧ t.lid = (lidPots l r.body.pots t₀).2.lid) := by
  obtain ⟨t, hexec, hstc, hlid, hrow⟩ := lidEvent_exec h bond
  have hcheck := checkReel_of (p := s.lidPos) (b := r.body) (l := l) ha
  refine ⟨fun hsuits => ?_, fun hsuits => ?_⟩
  · rw [hstage, hcheck, hsuits] at hstc hlid hrow
    obtain ⟨hcauses, hlatched, hsame, hwin⟩ := reelMismatch_frame
      (updateRow s.lidPos (fun c => c.markAll .lidMismatch) t₀)
    exact ⟨t, hexec, ⟨_, hrow.trans ((rowAt_of_window hwin _).trans (lidEvent_changed h _ hwindow)), rfl⟩,
      (congrArg Stc.causes hstc).trans hcauses, (congrArg Stc.latched hstc).trans hlatched, hlid.trans hsame⟩
  · rw [hstage, hcheck, if_pos hsuits] at hstc hlid hrow
    have hwin : (lidPots l r.body.pots t₀).2.idx.window = (rowsMoved presence s).idx.window := by
      rw [lidPots_idx, hwindow]
    exact ⟨t, hexec, ⟨_, hrow.trans (lidEvent_changed h _ hwin), rfl⟩, hstc, hlid⟩

theorem lidEvent_stage_active {a : Reel} (ha : s.lid.active = some a) :
    lidStage (rowsMoved presence s) = checkReel s.lidPos r.body l (rowsMoved presence s) := by
  have hstage := lidEvent_stage h
  rwa [ha] at hstage

theorem lidEvent_stage_standby {b : Reel} (ha : s.lid.active = none) (hb : s.lid.standby = some b) :
    lidStage (rowsMoved presence s) = checkReel s.lidPos r.body l (splice (rowsMoved presence s)) := by
  have hstage := lidEvent_stage h
  rwa [ha, hb] at hstage

end Forms

end Sys2Proof.Machine
end

section

/-! ## Family "other": the forms of the lid position in O28 -/

namespace Sys2Proof.Machine

/-- The reels after `n` lids of a reel just spliced in. -/
theorem withLids_splice_lid {b : Reel} {n : Nat} {t : State} (hn : 1 ≤ n) :
    (withLids b n (splice t)).lid =
      { t.lid with
        active := some { b with lids := b.lids - n }
        standby := none
        splices := min 4294967295 (t.lid.splices + 1)
        applied := min 4294967295 (t.lid.applied + n) } := by
  unfold withLids
  rw [if_neg (by omega)]
  rfl

section Reels

variable {presence : BitVec 8} {r : Row} {l : LotRec} {s : State} (h : LidEvent presence r l s) (bond : BitVec 8)
include h

theorem lidEvent_mismatch {a : Reel} (ha : s.lid.active = some a) (hsuits : a.suits l = false) :
    ∃ t q, exec (.forwardCount presence bond) s = .next t ∧ t.rowAt s.lidPos = some q ∧
      q.body.pots = r.body.pots.map (Option.map (fun x => x.mark .lidMismatch)) ∧
      t.stc.causes = s.stc.causes ||| 0x04#8 ∧ t.latchedNotice .lidMismatch = true ∧
      t.lid = { s.lid with mismatches := min 4294967295 (s.lid.mismatches + 1) } := by
  obtain ⟨hstc, hlid⟩ := lidEvent_before h
  obtain ⟨t, hexec, ⟨q, hq, hpots⟩, hcauses, hlatched, hsame⟩ :=
    (lidEvent_checked h bond (by rw [hlid]; exact ha) (lidEvent_stage_active h ha) rfl).1 hsuits
  rw [hstc] at hcauses
  rw [hlid] at hsame
  exact ⟨t, q, hexec, hq, hpots, hcauses, latchedNotice_of_latched_or hlatched, hsame⟩

theorem lidEvent_enough {a : Reel} (ha : s.lid.active = some a) (hsuits : a.suits l = true)
    (hn : toLidCount r.body.pots < a.lids) :
    ∃ t q, exec (.forwardCount presence bond) s = .next t ∧ t.rowAt s.lidPos = some q ∧
      q.body.pots = r.body.pots.map (Option.map Pot.withLid) ∧
      t.lid.active = some { a with lids := a.lids - toLidCount r.body.pots } ∧
      t.lid.standby = s.lid.standby ∧ t.stc.causes = s.stc.causes ∧ t.stc.latched = s.stc.latched := by
  obtain ⟨hstc, hlid⟩ := lidEvent_before h
  have hactive : (rowsMoved presence s).lid.active = some a := by rw [hlid]; exact ha
  obtain ⟨t, hexec, ⟨q, hq, hpots⟩, hsame, hreels⟩ :=
    (lidEvent_checked h bond hactive (lidEvent_stage_active h ha) rfl).2 hsuits
  rw [lidPots_of_enough l r.body.pots hactive hsuits hn] at hpots hsame hreels
  have hstc' : t.stc = s.stc := hsame.trans hstc
  refine ⟨t, q, hexec, hq, hpots, ?_, ?_, by rw [hstc'], by rw [hstc']⟩
  · rw [hreels]
    rfl
  · rw [hreels, ← hlid]
    rfl

theorem lidEvent_spliced {b : Reel} (ha : s.lid.active = none) (hb : s.lid.standby = some b) :
    (b.suits l = true → toLidCount r.body.pots < b.lids →
      ∃ t, exec (.forwardCount presence bond) s = .next t ∧
        (∃ q, t.rowAt s.lidPos = some q ∧ q.body.pots = r.body.pots.map (Option.map Pot.withLid)) ∧
        t.lid = { s.lid with
          active := some { b with lids := b.lids - toLidCount r.body.pots }, standby := none
          splices := min 4294967295 (s.lid.splices + 1)
          applied := min 4294967295 (s.lid.applied + toLidCount r.body.pots) } ∧
        t.stc.latched = s.stc.latched ||| Notice.reelSpliced.mask ∧ t.stc.causes = s.stc.causes) ∧
      (b.suits l = false →
        ∃ t, exec (.forwardCount presence bond) s = .next t ∧
          (∃ q, t.rowAt s.lidPos = some q ∧
            q.body.pots = r.body.pots.map (Option.map (fun x => x.mark .lidMismatch))) ∧
          t.lid = { s.lid with
            active := some b, standby := none
            splices := min 4294967295 (s.lid.splices + 1), mismatches := min 4294967295 (s.lid.mismatches + 1) } ∧
          t.stc.latched = s.stc.latched ||| Notice.reelSpliced.mask ||| Notice.lidMismatch.mask ∧
          t.stc.causes = s.stc.causes ||| 0x04#8) := by
  obtain ⟨hstc, hlid⟩ := lidEvent_before h
  have hactive : (splice (rowsMoved presence s)).lid.active = some b := by
    show (rowsMoved presence s).lid.standby = _
    rw [hlid]
    exact hb
  obtain ⟨hmis, hsuit⟩ := lidEvent_checked h bond hactive (lidEvent_stage_standby h ha hb) rfl
  obtain ⟨hcauses₀, hlatched₀, hlid₀, -⟩ := splice_frame (rowsMoved presence s)
  rw [hstc] at hcauses₀ hlatched₀
  rw [hlid] at hlid₀
  refine ⟨fun hsuits hn => ?_, fun hsuits => ?_⟩
  · obtain ⟨t, hexec, ⟨q, hq, hpots⟩, hsame, hreels⟩ := hsuit hsuits
    rw [lidPots_of_enough l r.body.pots hactive hsuits hn] at hpots hsame hreels
    refine ⟨t, hexec, ⟨q, hq, hpots⟩, ?_, (congrArg Stc.latched hsame).trans hlatched₀,
      (congrArg Stc.causes hsame).trans hcauses₀⟩
    rw [hreels, withLids_splice_lid (toLidCount_pos h.needs), hlid]
  · obtain ⟨t, hexec, hrow, hcauses, hlatched, hsame⟩ := hmis hsuits
    rw [hcauses₀] at hcauses
    rw [hlatched₀] at hlatched
    rw [hlid₀, hb] at hsame
    exact ⟨t, hexec, hrow, hsame, hlatched, hcauses⟩

end Reels

/-! ### A reel used up in the row -/

theorem usedUp_frame (a : Reel) (s : State) :
    (usedUp a s).stc.causes = s.stc.causes ∧ (usedUp a s).stc.latched = s.stc.latched ||| Notice.reelSpliced.mask ∧
      (usedUp a s).lid =
        { s.lid with
          active := s.lid.standby, standby := none, splices := bump s.lid.splices 1
          applied := bump s.lid.applied a.lids } := ⟨rfl, rfl, rfl⟩

/-- The rest of a row behind a used-up reel: the reels and notices of what stops its lidding, where there is a pot left. -/
theorem stopped_frame {l : LotRec} {s : State} :
    (s.lid.active = none → (stopped l s).stc.causes = s.stc.causes ||| 0x08#8 ∧
      (stopped l s).stc.latched = s.stc.latched ||| Notice.noLids.mask ∧ (stopped l s).lid = s.lid) ∧
    (∀ b, s.lid.active = some b → b.suits l = false → (stopped l s).stc.causes = s.stc.causes ||| 0x04#8 ∧
      (stopped l s).stc.latched = s.stc.latched ||| Notice.lidMismatch.mask ∧
      (stopped l s).lid = { s.lid with mismatches := bump s.lid.mismatches 1 }) := by
  refine ⟨fun ha => ?_, fun b ha hb => ?_⟩
  · have hstop : stopped l s = reelsOut s := by rw [stopped, ha]
    obtain ⟨hcauses, hlatched, hlid, -⟩ := reelsOut_frame s
    rw [hstop]
    exact ⟨hcauses, hlatched, hlid⟩
  · have hstop : stopped l s = reelMismatch s := by
      rw [stopped, ha]
      simp [hb]
    obtain ⟨hcauses, hlatched, hlid, -⟩ := reelMismatch_frame s
    rw [hstop]
    exact ⟨hcauses, hlatched, hlid⟩

section UsedUp

variable {presence : BitVec 8} {r : Row} {l : LotRec} {s : State} (h : LidEvent presence r l s) (bond : BitVec 8)
  {a : Reel} (ha : s.lid.active = some a) (hsuits : a.suits l = true) (h1 : 1 ≤ a.lids)
  (hn : a.lids ≤ toLidCount r.body.pots)
include h ha hsuits h1 hn

/-- The event by which ACTIVE is used up: the pots before its last lid, and the row's rest. -/
theorem lidEvent_usedUp :
    ∃ pre post t q, r.body.pots = pre ++ post ∧ toLidCount pre = a.lids ∧ exec (.forwardCount presence bond) s = .next t ∧
      t.rowAt s.lidPos = some q ∧
      q.body.pots = pre.map (Option.map Pot.withLid) ++ (lidPots l post (usedUp a (rowsMoved presence s))).1 ∧
      t.stc = (lidPots l post (usedUp a (rowsMoved presence s))).2.stc ∧
      t.lid = (lidPots l post (usedUp a (rowsMoved presence s))).2.lid := by
  obtain ⟨-, hlid⟩ := lidEvent_before h
  have hactive : (rowsMoved presence s).lid.active = some a := by rw [hlid]; exact ha
  obtain ⟨t, hexec, ⟨q, hq, hpots⟩, hstc, hreels⟩ :=
    (lidEvent_checked h bond hactive (lidEvent_stage_active h ha) rfl).2 hsuits
  obtain ⟨pre, post, hsplit, hcount, hrun⟩ := lidPots_of_usedUp l r.body.pots hactive hsuits h1 hn
  rw [hrun] at hpots hstc hreels
  exact ⟨pre, post, t, q, hsplit, hcount, hexec, hq, hpots, hstc, hreels⟩

theorem lidEvent_usedUp_stopped (hstop : ∀ b, s.lid.standby = some b → b.suits l = false) :
    ∃ t, exec (.forwardCount presence bond) s = .next t ∧
      (∃ q, t.rowAt s.lidPos = some q ∧ ∀ k, slotAt q.body.pots k =
        (slotAt r.body.pots k).map (fun x =>
          if x.toLid then
            if ((r.body.pots.take k).filter (fun o => o.any Pot.toLid)).length < a.lids then { x with lidded := true }
            else x.mark .noLid
          else x)) ∧
      t.stc = (if a.lids = toLidCount r.body.pots then usedUp a (rowsMoved presence s)
        else stopped l (usedUp a (rowsMoved presence s))).stc ∧
      t.lid = (if a.lids = toLidCount r.body.pots then usedUp a (rowsMoved presence s)
        else stopped l (usedUp a (rowsMoved presence s))).lid := by
  obtain ⟨pre, post, t, q, hsplit, hcount, hexec, hq, hpots, hstc, hreels⟩ := lidEvent_usedUp h bond ha hsuits h1 hn
  obtain ⟨-, hlid⟩ := lidEvent_before h
  have hstop' : ∀ b, (usedUp a (rowsMoved presence s)).lid.active = some b → b.suits l = false := by
    intro b hb
    refine hstop b ?_
    rw [← hlid]
    exact hb
  have hrest : toLidCount post = 0 ↔ a.lids = toLidCount r.body.pots := by
    rw [hsplit, toLidCount_append, hcount]
    omega
  rw [lidPots_of_stopped l post hstop'] at hpots hstc hreels
  simp only [hrest] at hstc hreels
  exact ⟨t, hexec, ⟨q, hq, fun k => by rw [hpots]; exact slotAt_usedUp_pots hsplit hcount k⟩, hstc, hreels⟩

theorem lidEvent_usedUp_none (hb : s.lid.standby = none) :
    ∃ t, exec (.forwardCount presence bond) s = .next t ∧
      (∃ q, t.rowAt s.lidPos = some q ∧ ∀ k, slotAt q.body.pots k =
        (slotAt r.body.pots k).map (fun x =>
          if x.toLid then
            if ((r.body.pots.take k).filter (fun o => o.any Pot.toLid)).length < a.lids then { x with lidded := true }
            else x.mark .noLid
          else x)) ∧
      t.lid = { s.lid with
        active := none, splices := min 4294967295 (s.lid.splices + 1), applied := min 4294967295 (s.lid.applied + a.lids) } ∧
      t.stc.latched = (if a.lids = toLidCount r.body.pots then s.stc.latched ||| Notice.reelSpliced.mask
        else s.stc.latched ||| Notice.reelSpliced.mask ||| Notice.noLids.mask) ∧
      t.stc.causes = (if a.lids = toLidCount r.body.pots then s.stc.causes else s.stc.causes ||| 0x08#8) := by
  obtain ⟨hstc₀, hlid₀⟩ := lidEvent_before h
  obtain ⟨t, hexec, hrow, hstc, hlid⟩ := lidEvent_usedUp_stopped h bond ha hsuits h1 hn
    (fun b hb' => absurd (hb.symm.trans hb') (by simp))
  obtain ⟨hcauses, hlatched, hreels⟩ := usedUp_frame a (rowsMoved presence s)
  rw [hstc₀] at hcauses hlatched
  rw [hlid₀, hb] at hreels
  obtain ⟨hcauses', hlatched', hreels'⟩ := (stopped_frame (l := l)).1 (congrArg Lid.active hreels)
  refine ⟨t, hexec, hrow, ?_, ?_, ?_⟩
  · rw [hlid]
    split
    · rw [hreels]; simp only [hb]; rfl
    · rw [hreels', hreels]; simp only [hb]; rfl
  · rw [hstc]
    split
    · exact hlatched
    · rw [hlatched', hlatched]
  · rw [hstc]
    split
    · exact hcauses
    · rw [hcauses', hcauses]

theorem lidEvent_usedUp_mismatch {b : Reel} (hb : s.lid.standby = some b) (hbad : b.suits l = false) :
    ∃ t, exec (.forwardCount presence bond) s = .next t ∧
      (∃ q, t.rowAt s.lidPos = some q ∧ ∀ k, slotAt q.body.pots k =
        (slotAt r.body.pots k).map (fun x =>
          if x.toLid then
            if ((r.body.pots.take k).filter (fun o => o.any Pot.toLid)).length < a.lids then { x with lidded := true }
            else x.mark .noLid
          else x)) ∧
      t.lid = { s.lid with
        active := some b, standby := none, splices := min 4294967295 (s.lid.splices + 1)
        applied := min 4294967295 (s.lid.applied + a.lids)
        mismatches := if a.lids = toLidCount r.body.pots then s.lid.mismatches
          else min 4294967295 (s.lid.mismatches + 1) } ∧
      t.stc.latched = (if a.lids = toLidCount r.body.pots then s.stc.latched ||| Notice.reelSpliced.mask
        else s.stc.latched ||| Notice.reelSpliced.mask ||| Notice.lidMismatch.mask) ∧
      t.stc.causes = (if a.lids = toLidCount r.body.pots then s.stc.causes else s.stc.causes ||| 0x04#8) := by
  obtain ⟨hstc₀, hlid₀⟩ := lidEvent_before h
  obtain ⟨t, hexec, hrow, hstc, hlid⟩ := lidEvent_usedUp_stopped h bond ha hsuits h1 hn
    (fun b' hb' => by rw [Option.some.inj (hb'.symm.trans hb)]; exact hbad)
  obtain ⟨hcauses, hlatched, hreels⟩ := usedUp_frame a (rowsMoved presence s)
  rw [hstc₀] at hcauses hlatched
  rw [hlid₀, hb] at hreels
  obtain ⟨hcauses', hlatched', hreels'⟩ := (stopped_frame (l := l)).2 b (congrArg Lid.active hreels) hbad
  refine ⟨t, hexec, hrow, ?_, ?_, ?_⟩
  · rw [hlid]
    split
    · exact hreels
    · rw [hreels', hreels]; rfl
  · rw [hstc]
    split
    · exact hlatched
    · rw [hlatched', hlatched]
  · rw [hstc]
    split
    · exact hcauses
    · rw [hcauses', hcauses]

theorem lidEvent_usedUp_enough {b : Reel} (hb : s.lid.standby = some b) (hgood : b.suits l = true)
    (hlids : toLidCount r.body.pots < a.lids + b.lids) :
    ∃ t, exec (.forwardCount presence bond) s = .next t ∧
      (∃ q, t.rowAt s.lidPos = some q ∧ q.body.pots = r.body.pots.map (Option.map Pot.withLid)) ∧
      t.lid = { s.lid with
        active := some { b with lids := b.lids - (toLidCount r.body.pots - a.lids) }, standby := none
        splices := min 4294967295 (s.lid.splices + 1)
        applied := min 4294967295 (s.lid.applied + toLidCount r.body.pots) } ∧
      t.stc.latched = s.stc.latched ||| Notice.reelSpliced.mask ∧ t.stc.causes = s.stc.causes := by
  obtain ⟨hstc₀, hlid₀⟩ := lidEvent_before h
  obtain ⟨pre, post, t, q, hsplit, hcount, hexec, hq, hpots, hstc, hreels⟩ := lidEvent_usedUp h bond ha hsuits h1 hn
  obtain ⟨hcauses, hlatched, hlid⟩ := usedUp_frame a (rowsMoved presence s)
  rw [hstc₀] at hcauses hlatched
  rw [hlid₀, hb] at hlid
  have hpost : toLidCount post = toLidCount r.body.pots - a.lids := by
    rw [hsplit, toLidCount_append, hcount]
    omega
  rw [lidPots_of_enough l post (congrArg Lid.active hlid) hgood (by omega)] at hpots hstc hreels
  refine ⟨t, hexec, ⟨q, hq, by rw [hpots, hsplit, List.map_append]⟩, ?_, (congrArg Stc.latched hstc).trans hlatched,
    (congrArg Stc.causes hstc).trans hcauses⟩
  have happlied : (withLids b (toLidCount post) (usedUp a (rowsMoved presence s))).lid.applied =
      min 4294967295 (s.lid.applied + toLidCount r.body.pots) := by
    show (if toLidCount post = 0 then (usedUp a (rowsMoved presence s)).lid.applied else _) = _
    rw [hlid]
    split
    · next h0 =>
      have heq : a.lids = toLidCount r.body.pots := by omega
      rw [← heq]
      rfl
    · show bump (bump s.lid.applied a.lids) (toLidCount post) = _
      rw [bump_bump, hpost, Nat.add_sub_cancel' hn]
      rfl
  have hfields : (withLids b (toLidCount post) (usedUp a (rowsMoved presence s))).lid =
      { (usedUp a (rowsMoved presence s)).lid with
        active := some { b with lids := b.lids - toLidCount post }
        applied := (withLids b (toLidCount post) (usedUp a (rowsMoved presence s))).lid.applied } := rfl
  rw [hreels, hfields, happlied, hpost, hlid]
  rfl

end UsedUp

end Sys2Proof.Machine
end

section

/-! ## Family "other": the bond position (R71, R72), and O28 -/

namespace Sys2Proof.Machine

/-! ### The samples of a row, lane by lane -/

/-- The lane is sampled: its pot is lidded. -/
def RowBody.samples (b : RowBody) (k : Nat) : Bool := (slotAt b.pots k).any Pot.lidded

/-- The lane's sample fails. -/
def RowBody.fails (b : RowBody) (passes : BitVec 8) (k : Nat) : Bool := b.samples k && !passes.getLsbD k

/-- The lane's sample fails for the third time in a row. -/
def RowBody.trips (b : RowBody) (passes : BitVec 8) (counts : List Nat) (k : Nat) : Bool :=
  b.fails passes k && 2 ≤ counts.getD k 0

/-- The row with BOND on the pots of the lanes that fail. -/
def BondMarked (f : Nat → Bool) (b c : RowBody) : Prop :=
  ∀ k, slotAt c.pots k = (slotAt b.pots k).map (fun x => if f k then x.mark .bond else x)

/-- What sampling the lanes of a list does to the row, the lane counts, the tripped lanes, the causes and the notice. -/
structure BondTreated (p : Nat) (passes : BitVec 8) (ks : List Nat) (r : Row) (s t : State) : Prop where
  row : ∃ q, t.rowAt p = some q ∧ BondMarked (fun k => ks.contains k && r.body.fails passes k) r.body q.body
  length : t.lid.fails.length = s.lid.fails.length
  counts : ∀ k, k < s.lid.fails.length → t.lid.fails.getD k 0 =
    if ks.contains k && r.body.samples k then
      if passes.getLsbD k || r.body.trips passes s.lid.fails k then 0 else s.lid.fails.getD k 0 + 1
    else s.lid.fails.getD k 0
  tripped : ∀ k, k < 8 → t.lid.tripped.getLsbD k =
    (s.lid.tripped.getLsbD k || ks.contains k && r.body.trips passes s.lid.fails k)
  failures : t.lid.bondFailures = bumped s.lid.bondFailures ((ks.filter (r.body.fails passes)).map (fun _ => 1))
  reels : t.lid.active = s.lid.active ∧ t.lid.standby = s.lid.standby ∧ t.lid.applied = s.lid.applied
  causes : t.stc.causes = if ks.any (r.body.trips passes s.lid.fails) then s.stc.causes ||| 0x10#8 else s.stc.causes
  notice : t.latchedNotice .bondLane = (s.latchedNotice .bondLane || ks.any (r.body.trips passes s.lid.fails))

theorem getD_set_of_lt {l : List Nat} {i : Nat} (hi : i < l.length) (v k : Nat) :
    (l.set i v).getD k 0 = if k = i then v else l.getD k 0 := by
  rw [List.getD_eq_getElem?_getD, List.getD_eq_getElem?_getD, List.getElem?_set]
  by_cases h : i = k
  · subst h
    simp [hi]
  · rw [if_neg h, if_neg (Ne.symm h)]

theorem latch_latchedNotice_of_ne {n m : Notice} (h : n ≠ m) (s : State) :
    (latch n s).latchedNotice m = s.latchedNotice m := by
  rw [State.latchedNotice, State.latchedNotice, latch_latched, BitVec.getLsbD_or]
  have hbit : n.mask.getLsbD m.bit = false := by
    revert h
    cases n <;> cases m <;> decide
  rw [hbit, Bool.or_false]

/-- A lane that passes. -/
theorem bondLane_pass {p k : Nat} {s : State} : bondLane p k true s = { s with lid.fails := s.lid.fails.set k 0 } := rfl

/-- The state of a lane that fails, before it trips. -/
def bondFailed (p k : Nat) (s : State) : State :=
  { updateRow p (fun b => { b with pots := modifyAt b.pots k (Option.map (fun q => q.mark .bond)) }) s with
    lid.bondFailures := bump s.lid.bondFailures 1, lid.fails := s.lid.fails.set k (s.lid.fails.getD k 0 + 1) }

theorem bondLane_fail (p k : Nat) (s : State) :
    bondLane p k false s =
      if 3 ≤ s.lid.fails.getD k 0 + 1 then tripLane k (bondFailed p k s) else bondFailed p k s := rfl

theorem bondFailed_row {p k : Nat} {s : State} {r : Row} (hr : s.rowAt p = some r) :
    ∃ q, (bondFailed p k s).rowAt p = some q ∧ BondMarked (fun j => j == k) r.body q.body := by
  have hrow := rowAt_updateRow_same (fun b => { b with pots := modifyAt b.pots k (Option.map (fun q => q.mark .bond)) }) hr
  refine ⟨_, hrow, fun j => ?_⟩
  show slotAt (modifyAt r.body.pots k (Option.map (fun q => q.mark .bond))) j = _
  rw [slotAt_modifyAt_map]
  by_cases hj : j = k
  · simp [hj]
  · simp [hj]

/-- One lane whose pot is lidded is sampled. -/
theorem bondTreated_lane {p k : Nat} {passes : BitVec 8} {r : Row} {s : State} (hr : s.rowAt p = some r)
    (hk : k < s.lid.fails.length) (hsample : r.body.samples k = true) :
    BondTreated p passes [k] r s (bondLane p k (passes.getLsbD k) s) := by
  cases hpass : passes.getLsbD k with
  | true =>
    have hfail (j : Nat) : ([k].contains j && r.body.fails passes j) = false := by
      by_cases hj : j = k
      · subst hj
        simp [RowBody.fails, hpass]
      · simp [hj]
    have htrip : r.body.trips passes s.lid.fails k = false := by simp [RowBody.trips, RowBody.fails, hpass]
    rw [bondLane_pass]
    refine ⟨⟨r, hr, fun j => ?_⟩, by simp, fun j hj => ?_, fun j hj => ?_, ?_, ⟨rfl, rfl, rfl⟩, ?_, ?_⟩
    · simp only [hfail, Bool.false_eq_true, if_false, Option.map_id']
    · rw [getD_set_of_lt hk]
      by_cases hjk : j = k
      · subst hjk
        simp [hsample, hpass]
      · simp [hjk]
    · by_cases hjk : j = k
      · subst hjk
        simp [htrip]
      · simp [hjk]
    · simp [RowBody.fails, hpass, bumped]
    · simp [htrip]
    · simp [htrip, State.latchedNotice]
  | false =>
    have hfail : r.body.fails passes k = true := by simp [RowBody.fails, hsample, hpass]
    have htrips : r.body.trips passes s.lid.fails k = decide (3 ≤ s.lid.fails.getD k 0 + 1) := by
      rw [RowBody.trips, hfail, Bool.true_and]
      exact decide_eq_decide.2 ⟨fun h => by omega, fun h => by omega⟩
    obtain ⟨q, hq, hmarked⟩ := bondFailed_row (k := k) hr
    have hmarked' : BondMarked (fun j => [k].contains j && r.body.fails passes j) r.body q.body := by
      intro j
      rw [hmarked j]
      by_cases hjk : j = k
      · subst hjk
        simp [hfail]
      · simp [hjk]
    have hbump : bump s.lid.bondFailures 1 =
        bumped s.lid.bondFailures (([k].filter (r.body.fails passes)).map (fun _ => 1)) := by
      simp [hfail, bumped, bump, countMax]
    rw [bondLane_fail]
    by_cases h3 : 3 ≤ s.lid.fails.getD k 0 + 1
    · rw [if_pos h3]
      have htrip : r.body.trips passes s.lid.fails k = true := by rw [htrips]; exact decide_eq_true h3
      have hwindow : (tripLane k (bondFailed p k s)).idx.window = (bondFailed p k s).idx.window := by simp [tripLane]
      refine ⟨⟨q, (rowAt_of_window hwindow p).trans hq, hmarked'⟩, by simp [tripLane, bondFailed], fun j hj => ?_,
        fun j hj => ?_, ?_, ⟨by simp [tripLane, bondFailed], by simp [tripLane, bondFailed], by simp [tripLane, bondFailed]⟩,
        ?_, ?_⟩
      · have hfails : (tripLane k (bondFailed p k s)).lid.fails =
            (s.lid.fails.set k (s.lid.fails.getD k 0 + 1)).set k 0 := by simp [tripLane, bondFailed]
        rw [hfails, getD_set_of_lt (by rw [List.length_set]; exact hk), getD_set_of_lt hk]
        by_cases hjk : j = k
        · subst hjk
          simp [hsample, htrip]
        · simp [hjk]
      · have htripped : (tripLane k (bondFailed p k s)).lid.tripped = s.lid.tripped ||| BitVec.twoPow 8 k := by
          simp [tripLane, bondFailed]
        rw [htripped, BitVec.getLsbD_or, BitVec.getLsbD_twoPow]
        by_cases hjk : j = k
        · subst hjk
          simp [htrip, hj]
        · simp [hjk, Ne.symm hjk]
      · rw [← hbump]
        simp [tripLane, bondFailed]
      · simp [tripLane, bondFailed, updateRow, Cause.mask, htrip]
      · have hnotice : (tripLane k (bondFailed p k s)).latchedNotice .bondLane = true :=
          (treated_addCause _ _).notices _ (latch_latchedNotice _ _)
        rw [hnotice]
        simp [htrip]
    · rw [if_neg h3]
      have htrip : r.body.trips passes s.lid.fails k = false := by rw [htrips]; exact decide_eq_false h3
      refine ⟨⟨q, hq, hmarked'⟩, by simp [bondFailed], fun j hj => ?_, fun j hj => ?_, hbump, ⟨rfl, rfl, rfl⟩, ?_, ?_⟩
      · have hfails : (bondFailed p k s).lid.fails = s.lid.fails.set k (s.lid.fails.getD k 0 + 1) := rfl
        rw [hfails, getD_set_of_lt hk]
        by_cases hjk : j = k
        · subst hjk
          simp [hsample, hpass, htrip]
        · simp [hjk]
      · by_cases hjk : j = k
        · subst hjk
          simp [htrip]
          rfl
        · simp [hjk]
          rfl
      · simp [htrip]
        rfl
      · simp [htrip]
        rfl

/-! ### All lanes -/

theorem BondTreated.refl {p : Nat} {r : Row} {s : State} (hr : s.rowAt p = some r) (passes : BitVec 8) :
    BondTreated p passes [] r s s := by
  refine ⟨⟨r, hr, fun k => ?_⟩, rfl, fun k _ => rfl, fun k _ => ?_, rfl, ⟨rfl, rfl, rfl⟩, rfl, ?_⟩
  · simp
  · simp
  · simp

theorem BondMarked.samples {f : Nat → Bool} {b c : RowBody} (h : BondMarked f b c) (k : Nat) :
    c.samples k = b.samples k := by
  unfold RowBody.samples
  rw [h k]
  cases slotAt b.pots k with
  | none => rfl
  | some x =>
    rw [Option.map_some, Option.any_some, Option.any_some]
    split <;> rfl

theorem BondMarked.fails {f : Nat → Bool} {b c : RowBody} (h : BondMarked f b c) (passes : BitVec 8) (k : Nat) :
    c.fails passes k = b.fails passes k := by
  rw [RowBody.fails, RowBody.fails, h.samples]

/-- A lane sampled and then the lanes of a list that does not hold it. -/
theorem BondTreated.cons {p k : Nat} {passes : BitVec 8} {ks : List Nat} {r : Row} {s u t : State}
    (hu : BondTreated p passes [k] r s u)
    (ht : ∀ q, u.rowAt p = some q → BondTreated p passes ks q u t) (hk : k ∉ ks) (hks : ∀ j ∈ ks, j < s.lid.fails.length) :
    BondTreated p passes (k :: ks) r s t := by
  obtain ⟨q, hq, hmark⟩ := hu.row
  have hrest := ht q hq
  obtain ⟨q', hq', hmark'⟩ := hrest.row
  have hcount (j : Nat) (hj : j < s.lid.fails.length) (hne : j ≠ k) : u.lid.fails.getD j 0 = s.lid.fails.getD j 0 := by
    rw [hu.counts j hj]
    simp [hne]
  have htrip (j : Nat) (hj : j ∈ ks) : q.body.trips passes u.lid.fails j = r.body.trips passes s.lid.fails j := by
    rw [RowBody.trips, RowBody.trips, hmark.fails, hcount j (hks j hj) (fun h => hk (h ▸ hj))]
  have hany : ks.any (q.body.trips passes u.lid.fails) = ks.any (r.body.trips passes s.lid.fails) := by
    rw [Bool.eq_iff_iff, List.any_eq_true, List.any_eq_true]
    exact ⟨fun ⟨j, hj, h⟩ => ⟨j, hj, htrip j hj ▸ h⟩, fun ⟨j, hj, h⟩ => ⟨j, hj, (htrip j hj).symm ▸ h⟩⟩
  have hnot (j : Nat) (hj : j ∈ ks) : j ≠ k := fun h => hk (h ▸ hj)
  refine ⟨⟨q', hq', fun j => ?_⟩, hrest.length.trans hu.length, fun j hj => ?_, fun j hj => ?_, ?_, ?_, ?_, ?_⟩
  · rw [hmark' j, hmark j]
    simp only [hmark.fails]
    by_cases hmem : j ∈ ks
    · simp [hmem, hnot j hmem]
    · simp [hmem]
      rfl
  · rw [hrest.counts j (by rw [hu.length]; exact hj)]
    by_cases hmem : j ∈ ks
    · rw [hmark.samples, htrip j hmem, hcount j hj (hnot j hmem)]
      simp [hmem]
    · simp only [List.contains_eq_mem, hmem, decide_false, Bool.false_and, Bool.false_eq_true, if_false]
      rw [hu.counts j hj]
      simp [hmem]
  · rw [hrest.tripped j hj, hu.tripped j hj]
    by_cases hmem : j ∈ ks
    · rw [htrip j hmem]
      simp [hmem, hnot j hmem]
    · simp [hmem]
  · have hfun : q.body.fails passes = r.body.fails passes := funext fun j => hmark.fails passes j
    rw [hrest.failures, hu.failures, hfun]
    cases hf : r.body.fails passes k with
    | false => simp [hf, bumped_nil]
    | true =>
      have hone : bumped s.lid.bondFailures (([k].filter (r.body.fails passes)).map (fun _ => 1)) =
          bump s.lid.bondFailures 1 := by simp [hf, bumped, bump, countMax]
      rw [hone, bumped_bump, List.filter_cons, hf]
      rfl
  · obtain ⟨ha, hb, hc⟩ := hrest.reels
    obtain ⟨ha', hb', hc'⟩ := hu.reels
    exact ⟨ha.trans ha', hb.trans hb', hc.trans hc'⟩
  · rw [hrest.causes, hu.causes, hany]
    cases hx : r.body.trips passes s.lid.fails k <;> cases hy : ks.any (r.body.trips passes s.lid.fails) <;>
      simp [hx, hy, BitVec.or_assoc]
  · rw [hrest.notice, hu.notice, hany, List.any_cons, List.any_cons, List.any_nil, Bool.or_false, Bool.or_assoc]

/-- A lane without a lidded pot adds nothing. -/
theorem BondTreated.skip {p k : Nat} {passes : BitVec 8} {ks : List Nat} {r : Row} {s t : State}
    (h : BondTreated p passes ks r s t) (hk : r.body.samples k = false) : BondTreated p passes (k :: ks) r s t := by
  have hfail : r.body.fails passes k = false := by rw [RowBody.fails, hk, Bool.false_and]
  have htrip : r.body.trips passes s.lid.fails k = false := by rw [RowBody.trips, hfail, Bool.false_and]
  obtain ⟨q, hq, hmark⟩ := h.row
  refine ⟨⟨q, hq, fun j => ?_⟩, h.length, fun j hj => ?_, fun j hj => ?_, ?_, h.reels, ?_, ?_⟩
  · rw [hmark j]
    by_cases hjk : j = k
    · subst hjk
      simp [hfail]
    · simp [hjk]
  · rw [h.counts j hj]
    by_cases hjk : j = k
    · subst hjk
      simp [hk]
    · simp [hjk]
  · rw [h.tripped j hj]
    by_cases hjk : j = k
    · subst hjk
      simp [htrip]
    · simp [hjk]
  · rw [h.failures, List.filter_cons, hfail]
    rfl
  · rw [h.causes, List.any_cons, htrip, Bool.false_or]
  · rw [h.notice, List.any_cons, htrip, Bool.false_or]

theorem bondTreated_lanes {p : Nat} {passes : BitVec 8} {ks : List Nat} {r : Row} {s : State} (hr : s.rowAt p = some r)
    (h8 : s.lid.fails.length = 8) (hnodup : ks.Nodup) (hks : ∀ k ∈ ks, k < 8) :
    BondTreated p passes ks r s (bondLanes p passes ks s) := by
  induction ks generalizing s r with
  | nil => exact .refl hr passes
  | cons k ks ih =>
    obtain ⟨hk, hnodup'⟩ := List.nodup_cons.1 hnodup
    have hlt : k < s.lid.fails.length := by rw [h8]; exact hks k (List.mem_cons_self ..)
    have hks' : ∀ j ∈ ks, j < 8 := fun j hj => hks j (List.mem_cons_of_mem _ hj)
    rw [bondLanes, hr, Option.any_some]
    cases hsample : r.body.samples k with
    | false =>
      have hsample' : (slotAt r.body.pots k).any Pot.lidded = false := hsample
      rw [hsample', if_neg Bool.false_ne_true]
      exact (ih hr h8 hnodup' hks').skip hsample
    | true =>
      have hsample' : (slotAt r.body.pots k).any Pot.lidded = true := hsample
      rw [hsample', if_pos rfl]
      have hlane := bondTreated_lane (passes := passes) hr hlt hsample
      exact hlane.cons (fun q hq => ih hq (hlane.length.trans h8) hnodup' hks') hk (fun j hj => h8 ▸ hks' j hj)

end Sys2Proof.Machine
end

section

/-! ## Family "other": the treatments at LIDDER, settled (O28) -/

namespace Sys2Proof.Machine

/-- At FILLER and LIDDER the exit latches OVERRUN alone (R12). -/
theorem exitStage_latchedNotice {s : State} {n : Notice} (hrole : s.role ≠ .trayer) (hn : n ≠ .overrun) :
    (exitStage s).latchedNotice n = s.latchedNotice n := by
  have hdepart (o : Option Nat) (u : State) : (lotDepart o u).latchedNotice n = u.latchedNotice n := by
    simp [State.latchedNotice]
  have hoff (b : RowBody) : (writeOffRow b s).latchedNotice n = s.latchedNotice n :=
    (latch_latchedNotice_of_ne hn.symm _).trans (hdepart _ _)
  unfold exitStage
  split
  · rfl
  · split
    · exact hdepart _ _
    · split
      · simp [sendRow, State.latchedNotice]
      · exact hoff _

theorem filter_range_lt {m : Nat} (hm : m ≤ 8) (f : Nat → Bool) :
    (List.range 8).filter (fun k => k < m && f k) = (List.range m).filter f := by
  have hlt : (List.range 8).filter (fun k => k < m) = List.range m := by
    interval_cases m <;> decide
  rw [← hlt, List.filter_filter]
  congr 1
  funext k
  exact Bool.and_comm _ _

theorem any_range_lt {m : Nat} (hm : m ≤ 8) (f : Nat → Bool) :
    (List.range 8).any (fun k => k < m && f k) = (List.range m).any f := by
  rw [Bool.eq_iff_iff, List.any_eq_true, List.any_eq_true]
  constructor
  · rintro ⟨k, -, h⟩
    obtain ⟨hk, hf⟩ := Bool.and_eq_true_iff.1 h
    exact ⟨k, List.mem_range.2 (of_decide_eq_true hk), hf⟩
  · rintro ⟨k, hk, h⟩
    have hk' := List.mem_range.1 hk
    exact ⟨k, List.mem_range.2 (by omega), Bool.and_eq_true_iff.2 ⟨decide_eq_true hk', h⟩⟩

/-- An index event with a row at the bond position and none at the lid position. -/
theorem bondEvent {presence bond : BitVec 8} {r : Row} {s : State} (hrole : s.role = .lidder)
    (htakes : takesCounts s = true) (hdebt : s.idx.debt = 0) (hcount : s.countsPerIndex ≤ s.idx.posCount + 1)
    (hlid1 : 1 ≤ s.lidPos) (hlb : s.lidPos < s.bondPos) (hbg : s.bondPos < s.gatePos) (hgl : s.gatePos < s.windowLength)
    (hnone : s.rowAt (s.lidPos - 1) = none) (hr : s.rowAt (s.bondPos - 1) = some r) (h8 : s.lid.fails.length = 8)
    (hlanes : s.laneCount ≤ 8) :
    ∃ t, exec (.forwardCount presence bond) s = .next t ∧
      (∃ q, t.rowAt s.bondPos = some q ∧
        BondMarked (fun k => (List.range s.laneCount).contains k && r.body.fails bond k) r.body q.body) ∧
      (∀ k, k < 8 → t.lid.fails.getD k 0 =
        if (List.range s.laneCount).contains k && r.body.samples k then
          if bond.getLsbD k || r.body.trips bond s.lid.fails k then 0 else s.lid.fails.getD k 0 + 1
        else s.lid.fails.getD k 0) ∧
      (∀ k, k < 8 → t.lid.tripped.getLsbD k =
        (s.lid.tripped.getLsbD k || (List.range s.laneCount).contains k && r.body.trips bond s.lid.fails k)) ∧
      t.lid.bondFailures = bumped s.lid.bondFailures
        (((List.range s.laneCount).filter (r.body.fails bond)).map (fun _ => 1)) ∧
      (t.lid.active = s.lid.active ∧ t.lid.standby = s.lid.standby ∧ t.lid.applied = s.lid.applied) ∧
      t.stc.causes = (if (List.range s.laneCount).any (r.body.trips bond s.lid.fails) then s.stc.causes ||| 0x10#8
        else s.stc.causes) ∧
      t.latchedNotice .bondLane =
        (s.latchedNotice .bondLane || (List.range s.laneCount).any (r.body.trips bond s.lid.fails)) := by
  obtain ⟨hl, hb, -, -, hn, -⟩ := rowsMoved_positions presence s
  obtain ⟨hstc, hlid, hrow⟩ := indexEvent_treated presence bond s
  have hstage : lidStage (rowsMoved presence s) = rowsMoved presence s := by
    have hat : (rowsMoved presence s).rowAt (rowsMoved presence s).lidPos = none := by
      rw [hl, rowsMoved_rowAt hlid1 (by omega), hnone]
    rw [lidStage, hat]
  have hbondRow : (rowsMoved presence s).rowAt s.bondPos = some r := by rw [rowsMoved_rowAt (by omega) (by omega), hr]
  have hreels := rowsMoved_lid presence s
  have htreated := bondTreated_lanes (passes := bond) (ks := List.range s.laneCount) hbondRow (by rw [hreels]; exact h8)
    List.nodup_range (fun k hk => by have := List.mem_range.1 hk; omega)
  have hall : lidTreated bond (rowsMoved presence s) =
      bondLanes s.bondPos bond (List.range s.laneCount) (rowsMoved presence s) := by
    unfold lidTreated
    rw [if_pos ((rowsMoved_role presence s).trans hrole), hstage, bondStage, hb, hn]
  have hcauses₀ : (rowsMoved presence s).stc.causes = s.stc.causes := by rw [rowsMoved_stc]
  have hnotice₀ : (rowsMoved presence s).latchedNotice .bondLane = s.latchedNotice .bondLane := by
    have hexit := exitStage_latchedNotice (s := { s with idx.posCount := 0 }) (n := .bondLane)
      (show s.role ≠ .trayer by rw [hrole]; decide) (by decide)
    rw [State.latchedNotice, rowsMoved_latched]
    exact hexit
  rw [← hall] at htreated
  have hcounts := htreated.counts
  have htripped := htreated.tripped
  have hfailures := htreated.failures
  have hkept := htreated.reels
  have hcauses := htreated.causes
  have hnotice := htreated.notice
  rw [hreels] at hcounts htripped hfailures hkept hcauses hnotice
  refine ⟨_, exec_indexEvent htakes hdebt hcount, ?_, fun k hk => ?_, fun k hk => ?_, ?_, ?_, ?_, ?_⟩
  · rw [hrow _ (by omega)]
    exact htreated.row
  · rw [hlid]
    exact hcounts k (by omega)
  · rw [hlid]
    exact htripped k hk
  · rw [hlid]
    exact hfailures
  · rw [hlid]
    exact hkept
  · rw [hstc, hcauses, hcauses₀]
  · rw [State.latchedNotice, hstc, ← hnotice₀]
    exact hnotice

/-- Settles O28: the forms of the lid stage by the reels in the places, and the bond samples lane by lane. -/
theorem lidPositionTreatsRow : Obligations.LidPositionTreatsRow := by
  refine ⟨fun presence bond r l s hrole htakes hdebt hcount h1 hlb hbg hgl hrow hneeds hlot hfound hexit hquiet hbond => ?_,
    fun presence bond r l b s hrole htakes hdebt hcount h1 hlb hbg hgl hrow hneeds hlot hfound hexit hquiet hbond ha hb => ?_,
    fun presence bond r l a s hrole htakes hdebt hcount h1 hlb hbg hgl hrow hneeds hlot hfound hexit hquiet hbond ha hsuits
      hone hn => ?_,
    fun presence bond r s hrole htakes hdebt hcount h1 hlb hbg hgl hnone hr h8 hlanes => ?_⟩
  · have h : LidEvent presence r l s :=
      ⟨hrole, htakes, hdebt, hcount, h1, hlb, hbg, hgl, hrow, hneeds, hlot, hfound, hexit, hquiet, hbond⟩
    exact ⟨lidEvent_noReel h bond, fun a ha hsuits => lidEvent_mismatch h bond ha hsuits,
      fun a ha hsuits hn => lidEvent_enough h bond ha hsuits hn⟩
  · have h : LidEvent presence r l s :=
      ⟨hrole, htakes, hdebt, hcount, h1, hlb, hbg, hgl, hrow, hneeds, hlot, hfound, hexit, hquiet, hbond⟩
    exact lidEvent_spliced h bond ha hb
  · have h : LidEvent presence r l s :=
      ⟨hrole, htakes, hdebt, hcount, h1, hlb, hbg, hgl, hrow, hneeds, hlot, hfound, hexit, hquiet, hbond⟩
    exact ⟨fun hb => lidEvent_usedUp_none h bond ha hsuits hone hn hb,
      fun b hb => ⟨fun hgood hlids => lidEvent_usedUp_enough h bond ha hsuits hone hn hb hgood hlids,
        fun hbad => lidEvent_usedUp_mismatch h bond ha hsuits hone hn hb hbad⟩⟩
  · intro sampled failed trips n
    obtain ⟨t, hexec, ⟨q, hq, hmark⟩, hcounts, htripped, hfailures, ⟨hactive, hstandby, happlied⟩, hcauses, hnotice⟩ :=
      bondEvent (presence := presence) (bond := bond) hrole htakes hdebt hcount h1 hlb hbg hgl hnone hr h8 hlanes
    have hin (k : Nat) : (List.range s.laneCount).contains k = decide (k < s.laneCount) := by simp
    have hfailed (k : Nat) : ((List.range s.laneCount).contains k && r.body.fails bond k) = failed k := by
      rw [hin, RowBody.fails, ← Bool.and_assoc]
      rfl
    have htrips (k : Nat) : ((List.range s.laneCount).contains k && r.body.trips bond s.lid.fails k) = trips k := by
      rw [RowBody.trips, ← Bool.and_assoc, hfailed]
    have hany : (List.range s.laneCount).any (r.body.trips bond s.lid.fails) = (List.range 8).any trips := by
      rw [← any_range_lt hlanes]
      exact congrArg _ (funext fun k => by rw [← htrips, hin])
    have hlength : ((List.range s.laneCount).filter (r.body.fails bond)).length = n := by
      rw [← filter_range_lt hlanes]
      exact congrArg (fun f => ((List.range 8).filter f).length) (funext fun k => by rw [← hfailed, hin])
    refine ⟨t, hexec, ⟨q, hq, fun k => ?_⟩, fun k hk => ?_, fun k hk => ?_, ?_, hactive, hstandby, happlied, ?_⟩
    · rw [hmark k]
      simp only [hfailed]
    · have hsampled : ((List.range s.laneCount).contains k && r.body.samples k) = sampled k := by
        rw [hin]
        rfl
      rw [hcounts k hk, hsampled]
      cases hs : sampled k with
      | false => rfl
      | true =>
        have hlt : (List.range s.laneCount).contains k = true := by
          rw [← hsampled] at hs
          exact (Bool.and_eq_true_iff.1 hs).1
        have heq : r.body.trips bond s.lid.fails k = trips k := by rw [← htrips, hlt, Bool.true_and]
        rw [heq]
        rfl
    · rw [htripped k hk, htrips]
    · rw [hfailures, bumped_ones, hlength]
    · rw [hcauses, hnotice, hany]
      cases (List.range 8).any trips with
      | false => exact ⟨rfl, Bool.or_false _⟩
      | true => exact ⟨rfl, Bool.or_true _⟩

end Sys2Proof.Machine
end

section

/-! ## Family "other": trays close, and leave at the exit sensor (R79 to R81, R83) -/

namespace Sys2Proof.Machine

theorem num_of_settings {s t : State} (h : t.stc.settings = s.stc.settings) (n : Nat) : t.num n = s.num n := by
  rw [State.num, State.num, State.setting, State.setting, h]

theorem own_of_settings {s t : State} (h : t.stc.settings = s.stc.settings) : t.own = s.own := num_of_settings h 2

/-! ### Closing a tray (R79) -/

section Close

variable {s : State} {f : Forming} (hf : s.tray.forming = some f) (short : Bool)
include hf

theorem closeTray_of_room (hroom : s.tray.formed.length < 16) :
    (closeTray short s).tray =
      { s.tray with
        forming := none
        formed := s.tray.formed ++
          [{ f.tray with id := { origin := s.own, seq := s.tray.nextSeq }, short := f.tray.short || short }]
        nextSeq := if s.tray.nextSeq = 1048575 then 1 else s.tray.nextSeq + 1 } := by
  have hfull : formedFull s = false := decide_eq_false (by rw [formedCapacity]; omega)
  rw [closeTray, hf]
  simp only [hfull, Bool.false_eq_true, if_false, nextTraySeq]

theorem closeTray_of_full (hfull : 16 ≤ s.tray.formed.length) :
    (closeTray short s).tray = { s.tray with forming := some { f with closeDue := true } } := by
  have hfull' : formedFull s = true := decide_eq_true hfull
  rw [closeTray, hf]
  simp only [hfull', if_true]

end Close

theorem closeTray_of_none {s : State} (h : s.tray.forming = none) (short : Bool) : closeTray short s = s := by
  rw [closeTray, h]

theorem closeTimeOut_of {s : State} {f : Forming} {d : Nat} (hf : s.tray.forming = some f) (hd : f.deadline = some d) :
    closeTimeOut s =
      settleFlow (closeTray true (timeTo d { s with tray.forming := some { f with deadline := none } })) := by
  rw [closeTimeOut, hf]
  simp only [hd]

/-- The close time of a tray runs out (R79). -/
theorem closeTime_trays {f : Forming} {d : Nat} {s : State} (hf : s.tray.forming = some f) (hd : f.deadline = some d) :
    (s.tray.formed.length < 16 →
      ∃ t, exec .trayCloseTime s = .next t ∧
        t.tray = { s.tray with
          forming := none
          formed := s.tray.formed ++ [{ f.tray with id := { origin := s.own, seq := s.tray.nextSeq }, short := true }]
          nextSeq := if s.tray.nextSeq = 1048575 then 1 else s.tray.nextSeq + 1 } ∧
        t.idx = s.idx ∧ t.lot = s.lot ∧ t.stc = s.stc ∧ t.hnd.room = roomOf t) ∧
      (16 ≤ s.tray.formed.length →
        ∃ t, exec .trayCloseTime s = .next t ∧
          t.tray = { s.tray with forming := some { f with deadline := none, closeDue := true } } ∧ t.idx = s.idx ∧
          t.lot = s.lot ∧ t.stc = s.stc) := by
  have hout := closeTimeOut_of hf hd
  have hforming : (timeTo d { s with tray.forming := some { f with deadline := none } }).tray.forming =
      some { f with deadline := none } := rfl
  refine ⟨fun hroom => ⟨_, congrArg Host.Outcome.next hout, ?_, ?_, ?_, ?_, settleFlow_room _⟩,
    fun hfull => ⟨_, congrArg Host.Outcome.next hout, ?_, ?_, ?_, ?_⟩⟩
  · rw [settleFlow_tray, closeTray_of_room hforming true hroom, Bool.or_true]
    rfl
  · simp
  · simp
  · simp
  · rw [settleFlow_tray, closeTray_of_full hforming true hfull]
    rfl
  · simp
  · simp
  · simp

/-! ### The head leaves, or is written off (R80, R81, R83) -/

/-- A head tray that leaves takes the next sequence and the main queue's last place. -/
theorem releaseHead_sent {s u : State} (x : Tray) (hmay : maySend s = true) (hlnk : u.lnk = s.lnk) (hhnd : u.hnd = s.hnd)
    (hstc : u.stc = s.stc) :
    (releaseHead true x u).tray = u.tray ∧
      (releaseHead true x u).lnk =
        { s.lnk with mainQ := s.lnk.mainQ ++ [frameTo s.downstream (.trayPass (writeTrayPass s.hnd.nextSeq x))] } ∧
      (releaseHead true x u).hnd = { s.hnd with nextSeq := s.hnd.nextSeq + 1#16 } ∧ (releaseHead true x u).stc = s.stc ∧
      (releaseHead true x u).idx = u.idx ∧ (releaseHead true x u).nowMs = u.nowMs := by
  have hroom : mainHasRoom u 1 = true := by
    unfold mainHasRoom
    rw [hlnk]
    exact (Bool.and_eq_true_iff.1 hmay).2
  have hdown : u.downstream = s.downstream := (position_of_settings (by rw [hstc])).2.2.2.2.2.2
  have hsend : releaseHead true x u = lotDepart x.lot
      { u with
        lnk.mainQ := u.lnk.mainQ ++ [frameTo u.downstream (.trayPass (writeTrayPass u.hnd.nextSeq x))]
        hnd.nextSeq := u.hnd.nextSeq + 1#16 } := by
    rw [releaseHead, if_pos rfl, sendTray, pushMain_room _ u hroom]
  rw [hsend, hlnk, hhnd, hdown]
  refine ⟨?_, ?_, ?_, ?_, ?_, ?_⟩ <;> simp [hstc]

/-- A head tray that may not leave is counted lost, with OVERRUN. -/
theorem releaseHead_lost (u : State) (x : Tray) :
    (releaseHead false x u).tray = { u.tray with lost := min 4294967295 (u.tray.lost + 1) } ∧
      (releaseHead false x u).lnk = u.lnk ∧ (releaseHead false x u).hnd = u.hnd ∧
      (releaseHead false x u).stc = { u.stc with latched := u.stc.latched ||| Notice.overrun.mask } ∧
      (releaseHead false x u).idx = u.idx ∧ (releaseHead false x u).nowMs = u.nowMs := by
  have hoff : releaseHead false x u = latch .overrun
      { lotDepart x.lot u with tray.lost := bump (lotDepart x.lot u).tray.lost 1 } := rfl
  rw [hoff]
  refine ⟨?_, ?_, ?_, ?_, ?_, ?_⟩ <;> simp [bump, countMax, latch]

section AtTrayer

variable {s : State} {x : Tray} {rest : List Tray} (hrole : s.role = .trayer) (hm : s.mode ≠ .starting)
  (hq : s.tray.formed = x :: rest)
include hrole hm hq

theorem exitEvent_at_trayer :
    exec .exitSensorEvent s =
      .next (settleFlow (closeHeldBack (settleFlow (releaseHead (maySend s) x { s with tray.formed := rest })))) := by
  refine congrArg Host.Outcome.next ?_
  rw [exitEvent, if_neg hm, hrole]
  simp only [exitAtTrayer, hq]

end AtTrayer

theorem closeHeldBack_of_none {s : State} (h : s.tray.forming = none) : closeHeldBack s = s := by
  rw [closeHeldBack, h]
  rfl

theorem exit_at_trayer {s : State} {x : Tray} {rest : List Tray} (hrole : s.role = .trayer) (hm : s.mode ≠ .starting)
    (hq : s.tray.formed = x :: rest) (hnone : s.tray.forming = none) :
    (maySend s = true →
      ∃ t, exec .exitSensorEvent s = .next t ∧ t.tray = { s.tray with formed := rest } ∧
        t.lnk.mainQ = s.lnk.mainQ ++ [frameTo s.downstream (.trayPass (writeTrayPass s.hnd.nextSeq x))] ∧
        t.hnd.nextSeq = s.hnd.nextSeq + 1#16 ∧ t.stc = s.stc ∧ t.idx = s.idx) ∧
      (maySend s = false →
        ∃ t, exec .exitSensorEvent s = .next t ∧
          t.tray = { s.tray with formed := rest, lost := min 4294967295 (s.tray.lost + 1) } ∧
          t.lnk.mainQ = s.lnk.mainQ ∧ t.hnd.nextSeq = s.hnd.nextSeq ∧
          t.stc.latched = s.stc.latched ||| Notice.overrun.mask ∧ t.idx = s.idx) := by
  have hexec := exitEvent_at_trayer hrole hm hq
  refine ⟨fun hmay => ?_, fun hmay => ?_⟩
  · obtain ⟨htray, hlnk, hhnd, hstc, hidx, -⟩ :=
      releaseHead_sent (s := s) (u := { s with tray.formed := rest }) x hmay rfl rfl rfl
    rw [hmay, closeHeldBack_of_none (by rw [settleFlow_tray, htray]; exact hnone)] at hexec
    refine ⟨_, hexec, ?_, ?_, ?_, ?_, ?_⟩
    · rw [settleFlow_tray, settleFlow_tray, htray]
    · rw [settleFlow_mainQ, settleFlow_mainQ, hlnk]
    · rw [settleFlow_hnd, settleFlow_hnd, hhnd]
    · rw [settleFlow_stc, settleFlow_stc, hstc]
    · rw [settleFlow_idx, settleFlow_idx, hidx]
  · obtain ⟨htray, hlnk, hhnd, hstc, hidx, -⟩ := releaseHead_lost { s with tray.formed := rest } x
    rw [hmay, closeHeldBack_of_none (by rw [settleFlow_tray, htray]; exact hnone)] at hexec
    refine ⟨_, hexec, ?_, ?_, ?_, ?_, ?_⟩
    · rw [settleFlow_tray, settleFlow_tray, htray]
    · rw [settleFlow_mainQ, settleFlow_mainQ, hlnk]
    · rw [settleFlow_hnd, settleFlow_hnd, hhnd]
    · rw [settleFlow_stc, settleFlow_stc, hstc]
    · rw [settleFlow_idx, settleFlow_idx, hidx]

theorem exit_at_chill {s : State} {x : Tray} {rest : List Tray} (hrole : s.role = .chill) (hm : s.mode ≠ .starting)
    (hq : s.tray.queue = x :: rest) :
    (maySend s = true →
      ∃ t, exec .chillExitSensorEvent s = .next t ∧ t.tray = { s.tray with queue := rest } ∧
        t.lnk.mainQ = s.lnk.mainQ ++ [frameTo s.downstream (.trayPass (writeTrayPass s.hnd.nextSeq x))] ∧
        t.hnd.nextSeq = s.hnd.nextSeq + 1#16 ∧ t.stc = s.stc) ∧
      (maySend s = false →
        ∃ t, exec .chillExitSensorEvent s = .next t ∧
          t.tray = { s.tray with queue := rest, lost := min 4294967295 (s.tray.lost + 1) } ∧
          t.lnk.mainQ = s.lnk.mainQ ∧ t.hnd.nextSeq = s.hnd.nextSeq ∧
          t.stc.latched = s.stc.latched ||| Notice.overrun.mask) := by
  have hexec : exec .chillExitSensorEvent s =
      .next (settleFlow (releaseHead (maySend s) x { s with tray.queue := rest })) := by
    refine congrArg Host.Outcome.next ?_
    rw [exitEvent, if_neg hm, hrole]
    simp only [exitAtChill, hq]
  refine ⟨fun hmay => ?_, fun hmay => ?_⟩
  · obtain ⟨htray, hlnk, hhnd, hstc, -, -⟩ :=
      releaseHead_sent (s := s) (u := { s with tray.queue := rest }) x hmay rfl rfl rfl
    rw [hmay] at hexec
    refine ⟨_, hexec, ?_, ?_, ?_, ?_⟩
    · rw [settleFlow_tray, htray]
    · rw [settleFlow_mainQ, hlnk]
    · rw [settleFlow_hnd, hhnd]
    · rw [settleFlow_stc, hstc]
  · obtain ⟨htray, hlnk, hhnd, hstc, -, -⟩ := releaseHead_lost { s with tray.queue := rest } x
    rw [hmay] at hexec
    refine ⟨_, hexec, ?_, ?_, ?_, ?_⟩
    · rw [settleFlow_tray, htray]
    · rw [settleFlow_mainQ, hlnk]
    · rw [settleFlow_hnd, hhnd]
    · rw [settleFlow_stc, hstc]

theorem exit_unmatched {s : State} (hm : s.mode ≠ .starting)
    (h : s.role = .trayer ∧ s.tray.formed = [] ∨ s.role = .chill ∧ s.tray.queue = []) :
    exitEvent s = { s with tray.unmatched := min 4294967295 (s.tray.unmatched + 1) } := by
  rw [exitEvent, if_neg hm]
  rcases h with ⟨hrole, hq⟩ | ⟨hrole, hq⟩
  · have hout : exitAtTrayer s = unmatchedExit s := by rw [exitAtTrayer, hq]
    rw [hrole]
    exact hout
  · have hout : exitAtChill s = unmatchedExit s := by rw [exitAtChill, hq]
    rw [hrole]
    exact hout

/-! ### A held-back close takes the place the exit makes (R79, R81) -/

/-- What the exit of the head tray leaves for the close that follows. -/
theorem exit_heldBack {s : State} {x : Tray} {rest : List Tray} {f : Forming} (hrole : s.role = .trayer)
    (hm : s.mode ≠ .starting) (hq : s.tray.formed = x :: rest) (hf : s.tray.forming = some f) (hdue : f.closeDue = true)
    (hrest : rest.length < 16) :
    ∃ t, exec .exitSensorEvent s = .next t ∧ t.tray.forming = none ∧
      t.tray.formed = rest ++ [{ f.tray with id := { origin := s.own, seq := s.tray.nextSeq }, short := true }] ∧
      t.tray.nextSeq = (if s.tray.nextSeq = 1048575 then 1 else s.tray.nextSeq + 1) ∧ t.hnd.room = roomOf t ∧
      (maySend s = true →
        t.tray.lost = s.tray.lost ∧ t.hnd.nextSeq = s.hnd.nextSeq + 1#16 ∧
          t.lnk.mainQ = s.lnk.mainQ ++ [frameTo s.downstream (.trayPass (writeTrayPass s.hnd.nextSeq x))] ∧ t.stc = s.stc) ∧
      (maySend s = false →
        t.tray.lost = min 4294967295 (s.tray.lost + 1) ∧ t.hnd.nextSeq = s.hnd.nextSeq ∧ t.lnk.mainQ = s.lnk.mainQ ∧
          t.stc.latched = s.stc.latched ||| Notice.overrun.mask) ∧
      (s.mode = .running → rest.length = 15 → s.hnd.room = 0 → s.hnd.rowArrivals.length < 8 → s.upstream ≠ 0 →
        let free := 8 - s.hnd.rowArrivals.length
        t.lnk.creditSlot =
            some (frameTo s.upstream (.credit (s.hnd.expected + BitVec.ofNat 16 free) (BitVec.ofNat 8 free))) ∧
          t.hnd.room = 0) := by
  have hexec := exitEvent_at_trayer hrole hm hq
  generalize hv : releaseHead (maySend s) x { s with tray.formed := rest } = v at hexec
  have hv' : v.tray = { s.tray with formed := rest, lost := v.tray.lost } ∧ v.hnd = { s.hnd with nextSeq := v.hnd.nextSeq } ∧
      v.stc = { s.stc with latched := v.stc.latched } ∧ v.lnk.creditSlot = s.lnk.creditSlot := by
    rw [← hv]
    cases hmay : maySend s with
    | true =>
      obtain ⟨htray, hlnk, hhnd, hstc, -, -⟩ :=
        releaseHead_sent (s := s) (u := { s with tray.formed := rest }) x hmay rfl rfl rfl
      rw [htray, hlnk, hhnd, hstc]
      exact ⟨rfl, rfl, rfl, rfl⟩
    | false =>
      obtain ⟨htray, hlnk, hhnd, hstc, -, -⟩ := releaseHead_lost { s with tray.formed := rest } x
      rw [htray, hlnk, hhnd, hstc]
      exact ⟨rfl, rfl, rfl, rfl⟩
  obtain ⟨htray, hhnd, hstc, hslot⟩ := hv'
  have hforming : (settleFlow v).tray.forming = some f := by rw [settleFlow_tray, htray]; exact hf
  have hformed : (settleFlow v).tray.formed = rest := by rw [settleFlow_tray, htray]
  have hnext : (settleFlow v).tray.nextSeq = s.tray.nextSeq := by rw [settleFlow_tray, htray]
  have hlost : (settleFlow v).tray.lost = v.tray.lost := by rw [settleFlow_tray]
  have hsettings : (settleFlow v).stc.settings = s.stc.settings := by rw [settleFlow_stc, hstc]
  have hown : (settleFlow v).own = s.own := own_of_settings hsettings
  have hclose : closeHeldBack (settleFlow v) = closeTray true (settleFlow v) := by
    have hnotFull : formedFull (settleFlow v) = false := decide_eq_false (by rw [hformed, formedCapacity]; omega)
    unfold closeHeldBack
    rw [hforming, hnotFull, Option.any_some, hdue]
    rfl
  have hclosed := closeTray_of_room hforming true (by rw [hformed]; exact hrest)
  rw [hformed, hown, hnext, Bool.or_true] at hclosed
  rw [hclose] at hexec
  have hrole' : v.role = .trayer := (role_of_settings (s := s) (by rw [hstc])).trans hrole
  have hmode' : v.mode = s.mode := by rw [State.mode, hstc]; rfl
  refine ⟨_, hexec, ?_, ?_, ?_, settleFlow_room _, fun hmay => ?_, fun hmay => ?_, fun hrun h15 hzero hlt hup => ?_⟩
  · rw [settleFlow_tray, hclosed]
  · rw [settleFlow_tray, hclosed]
  · rw [settleFlow_tray, hclosed]
  · obtain ⟨htrayS, hlnkS, hhndS, hstcS, -, -⟩ :=
      releaseHead_sent (s := s) (u := { s with tray.formed := rest }) x hmay rfl rfl rfl
    rw [← hmay, hv] at htrayS hlnkS hhndS hstcS
    refine ⟨?_, ?_, ?_, ?_⟩
    · rw [settleFlow_tray, hclosed]
      refine hlost.trans ?_
      rw [htrayS]
    · rw [settleFlow_hnd, closeTray_hnd, settleFlow_hnd, hhndS]
    · rw [settleFlow_mainQ, closeTray_lnk, settleFlow_mainQ, hlnkS]
    · rw [settleFlow_stc, closeTray_stc, settleFlow_stc, hstcS]
  · obtain ⟨htrayS, hlnkS, hhndS, hstcS, -, -⟩ := releaseHead_lost { s with tray.formed := rest } x
    rw [← hmay, hv] at htrayS hlnkS hhndS hstcS
    refine ⟨?_, ?_, ?_, ?_⟩
    · rw [settleFlow_tray, hclosed]
      refine hlost.trans ?_
      rw [htrayS]
    · rw [settleFlow_hnd, closeTray_hnd, settleFlow_hnd, hhndS]
    · rw [settleFlow_mainQ, closeTray_lnk, settleFlow_mainQ, hlnkS]
    · rw [settleFlow_stc, closeTray_stc, settleFlow_stc, hstcS]
  · have hroom : roomOf v = 8 - s.hnd.rowArrivals.length := by
      have hnotFull : formedFull v = false := decide_eq_false (by rw [htray, formedCapacity]; simp; omega)
      unfold roomOf arrivalsCount
      rw [hmode', hrun, hrole', hnotFull, hhnd]
      rfl
    have hfinal : (settleFlow (closeTray true (settleFlow v))).hnd.room = 0 := by
      have hfull : formedFull (closeTray true (settleFlow v)) = true :=
        decide_eq_true (by rw [hclosed, formedCapacity]; simp; omega)
      have hroleC : (closeTray true (settleFlow v)).role = .trayer := 
        (role_of_settings (s := s) (by rw [closeTray_stc, hsettings])).trans hrole
      rw [settleFlow_hnd]
      show roomOf (closeTray true (settleFlow v)) = 0
      unfold roomOf
      rw [hroleC, hfull]
      simp
    have hplaced := settleFlow_creditSlot_of_lt (s := v) (by rw [hrole']; rfl)
      (by rw [(position_of_settings (s := s) (t := v) (by rw [hstc])).2.2.2.2.2.1]; exact hup)
      (by rw [hmode', hrun]; decide) (by rw [hroom, hhnd]; show s.hnd.room < _; omega)
    have hlast := settleFlow_creditSlot_of_le (s := closeTray true (settleFlow v)) (by
      have h := hfinal
      rw [settleFlow_hnd] at h
      have h' : roomOf (closeTray true (settleFlow v)) = 0 := h
      omega)
    refine ⟨?_, hfinal⟩
    rw [hlast.1, closeTray_lnk, hplaced.1, hroom, hhnd, (position_of_settings (s := s) (t := v) (by rw [hstc])).2.2.2.2.2.1]

end Sys2Proof.Machine
end

section

/-! ## Family "other": rows form trays at TRAYER (R10 to R12, R78, R79), and O29 -/

namespace Sys2Proof.Machine

/-! ### The Tray Unit at the end of an index event -/

/-- TRAYER's drain condition on a state. -/
def Drains (s : State) : Prop :=
  s.mode = .draining ∧ s.hnd.rowArrivals = [] ∧ s.idx.window.all (fun o => !o.any (fun r => r.body.hasPots)) = true

theorem closeOnDrain_of_drains {s : State} (hrole : s.role = .trayer) (h : Drains s) :
    closeOnDrain s = closeTray true s := by
  obtain ⟨hm, harr, hwin⟩ := h
  have hany : s.idx.window.any (fun o => o.any (fun r => r.body.hasPots)) = false := by
    rw [List.all_eq_not_any_not] at hwin
    simpa using hwin
  unfold closeOnDrain
  rw [hrole, hm, harr, hany]
  cases hf : s.tray.forming with
  | none => simp [closeTray_of_none hf]
  | some f => simp

theorem closeOnDrain_of_not_drains {s : State} (h : ¬ Drains s) : closeOnDrain s = s := by
  unfold closeOnDrain
  split
  · next hcond =>
    simp only [Bool.and_eq_true, decide_eq_true_eq, Bool.not_eq_true'] at hcond
    obtain ⟨⟨⟨⟨-, hm⟩, -⟩, harr⟩, hwin⟩ := hcond
    refine absurd ⟨hm, List.isEmpty_iff.1 harr, ?_⟩ h
    rw [List.all_eq_not_any_not]
    simpa using hwin
  · rfl

section Event

variable (presence bond : BitVec 8) (s : State)

theorem rowsMoved_tray : (rowsMoved presence s).tray = (exitStage { s with idx.posCount := 0 }).tray := by
  rw [rowsMoved_of_rowFilled, settleSince_tray, (rowFilled_filled presence s).tray]
  rfl

/-- The treated state has the Tray Unit of the exit stage, and drains as the event's end does. -/
theorem treated_tray : (treatStage bond (rowsMoved presence s)).tray = (exitStage { s with idx.posCount := 0 }).tray :=
  (treated_treatStage bond _).tray.trans (rowsMoved_tray presence s)

theorem treated_settings : (treatStage bond (rowsMoved presence s)).stc.settings = s.stc.settings :=
  (treated_treatStage bond _).settings.trans (rowsMoved_settings presence s)

theorem drains_treated_iff :
    Drains (treatStage bond (rowsMoved presence s)) ↔
      s.mode = .draining ∧ (indexEvent presence bond { s with idx.posCount := 0 }).hnd.rowArrivals = [] ∧
        (indexEvent presence bond { s with idx.posCount := 0 }).idx.window.all
          (fun o => !o.any (fun r => r.body.hasPots)) = true := by
  have hmode : (treatStage bond (rowsMoved presence s)).mode = .draining ↔ s.mode = .draining := by
    rcases (treated_treatStage bond (rowsMoved presence s)).mode with h | ⟨h, h'⟩
    · rw [h, rowsMoved_mode]
    · rw [rowsMoved_mode] at h
      rw [h, h']
      decide
  have harr : (indexEvent presence bond { s with idx.posCount := 0 }).hnd.rowArrivals =
      (treatStage bond (rowsMoved presence s)).hnd.rowArrivals := by
    rw [indexEvent_hnd, (treated_treatStage bond _).hnd]
  rw [Drains, hmode, harr, indexEvent_idx]

theorem indexEvent_tray : (indexEvent presence bond { s with idx.posCount := 0 }).tray =
    (closeOnDrain (treatStage bond (rowsMoved presence s))).tray := by
  rw [indexEvent_eq, settleFlow_tray]

theorem indexEvent_tray_of_not_drains (h : ¬ Drains (treatStage bond (rowsMoved presence s))) :
    (indexEvent presence bond { s with idx.posCount := 0 }).tray = (exitStage { s with idx.posCount := 0 }).tray := by
  rw [indexEvent_tray, closeOnDrain_of_not_drains h, treated_tray]

theorem indexEvent_tray_of_none (h : (exitStage { s with idx.posCount := 0 }).tray.forming = none) :
    (indexEvent presence bond { s with idx.posCount := 0 }).tray = (exitStage { s with idx.posCount := 0 }).tray := by
  rw [← treated_tray presence bond s] at h
  have hclose : closeOnDrain (treatStage bond (rowsMoved presence s)) = treatStage bond (rowsMoved presence s) := by
    unfold closeOnDrain
    rw [h]
    simp
  rw [indexEvent_tray, hclose, treated_tray]

end Event

section Drained

variable {presence bond : BitVec 8} {s : State} (hrole : s.role = .trayer) {f : Forming}
  (hf : (exitStage { s with idx.posCount := 0 }).tray.forming = some f)
  (hd : Drains (treatStage bond (rowsMoved presence s)))
include hrole hf hd

theorem indexEvent_tray_of_drains :
    ((exitStage { s with idx.posCount := 0 }).tray.formed.length < 16 →
      (indexEvent presence bond { s with idx.posCount := 0 }).tray =
        { (exitStage { s with idx.posCount := 0 }).tray with
          forming := none
          formed := (exitStage { s with idx.posCount := 0 }).tray.formed ++
            [{ f.tray with
                id := { origin := s.own, seq := (exitStage { s with idx.posCount := 0 }).tray.nextSeq }, short := true }]
          nextSeq := if (exitStage { s with idx.posCount := 0 }).tray.nextSeq = 1048575 then 1
            else (exitStage { s with idx.posCount := 0 }).tray.nextSeq + 1 }) ∧
      (16 ≤ (exitStage { s with idx.posCount := 0 }).tray.formed.length →
        (indexEvent presence bond { s with idx.posCount := 0 }).tray =
          { (exitStage { s with idx.posCount := 0 }).tray with forming := some { f with closeDue := true } }) := by
  have hsettings := treated_settings presence bond s
  have htray := treated_tray presence bond s
  have hrole' : (treatStage bond (rowsMoved presence s)).role = .trayer := (role_of_settings hsettings).trans hrole
  rw [← htray] at hf
  rw [indexEvent_tray, closeOnDrain_of_drains hrole' hd, ← htray, ← own_of_settings hsettings]
  refine ⟨fun hroom => ?_, fun hfull => closeTray_of_full hf true hfull⟩
  rw [closeTray_of_room hf true hroom, Bool.or_true]

end Drained

/-- A tray under construction that the exit stage leaves ends the event as R78 and R79 say. -/
theorem trayLeft_of {presence bond : BitVec 8} {s : State} (hrole : s.role = .trayer) {g : Tray} {q : List Tray} {n : Nat}
    {due : Bool}
    (htray : (exitStage { s with idx.posCount := 0 }).tray =
      { s.tray with forming := some ⟨g, some (s.nowMs + s.closeMs), due⟩, formed := q, nextSeq := n }) :
    TrayLeft s (indexEvent presence bond { s with idx.posCount := 0 }) q n g := by
  have hiff := drains_treated_iff presence bond s
  have hkept := indexEvent_tray_of_not_drains presence bond s
  have hdrained := indexEvent_tray_of_drains (presence := presence) (bond := bond) hrole
    (f := ⟨g, some (s.nowMs + s.closeMs), due⟩) (by rw [htray])
  generalize indexEvent presence bond { s with idx.posCount := 0 } = t at *
  rw [htray] at hkept hdrained
  refine ⟨fun hnot => ?_, fun hm harr hwin => ?_⟩
  · rw [hkept (fun h => hnot (hiff.1 h))]
    exact ⟨⟨_, rfl, rfl, rfl⟩, rfl, rfl⟩
  · obtain ⟨hroom, hfull⟩ := hdrained (hiff.2 ⟨hm, harr, hwin⟩)
    refine ⟨fun hlt => ?_, fun hge => ?_⟩
    · rw [hroom hlt]
      exact ⟨rfl, rfl, rfl⟩
    · rw [hfull hge]
      exact ⟨rfl, rfl, rfl⟩

/-! ### A row joins tray forming (R78) -/

/-- The tray after a row of lot record `lot` has joined. -/
def joined (lot : Option LotRec) (t : Tray) (b : RowBody) : Tray := classifyTray lot (t.join b)

theorem joined_rows (lot : Option LotRec) (t : Tray) (b : RowBody) : (joined lot t b).rows = t.rows + 1 := by
  rw [joined, classifyTray_eq]
  rfl

theorem joinTray_tray {s : State} {f : Forming} (hf : s.tray.forming = some f) (b : RowBody) :
    (f.tray.rows + 1 ≠ s.rowsPerTray →
      (joinTray b s).tray = { s.tray with
        forming := some { f with tray := joined (lotOf s b.lot) f.tray b, deadline := some (s.nowMs + s.closeMs) } }) ∧
      (f.tray.rows + 1 = s.rowsPerTray → s.tray.formed.length < 16 →
        (joinTray b s).tray = { s.tray with
          forming := none
          formed := s.tray.formed ++
            [{ joined (lotOf s b.lot) f.tray b with id := { origin := s.own, seq := s.tray.nextSeq } }]
          nextSeq := if s.tray.nextSeq = 1048575 then 1 else s.tray.nextSeq + 1 }) := by
  have hrows := joined_rows (lotOf s b.lot) f.tray b
  generalize hu : lotDepart b.lot
    { s with tray.forming := some { f with
        tray := joined (lotOf s b.lot) f.tray b, deadline := some (s.nowMs + s.closeMs) } } = u
  have hutray : u.tray = { s.tray with
      forming := some { f with tray := joined (lotOf s b.lot) f.tray b, deadline := some (s.nowMs + s.closeMs) } } := by
    rw [← hu, lotDepart_tray]
  have hjoin : joinTray b s = if (joined (lotOf s b.lot) f.tray b).rows = s.rowsPerTray then closeTray false u else u := by
    rw [← hu, joinTray, hf]
    rfl
  have hown : u.own = s.own := own_of_settings (by rw [← hu, lotDepart_stc])
  rw [hjoin, hrows]
  refine ⟨fun hne => by rw [if_neg hne, hutray], fun heq hroom => ?_⟩
  have hclosed := closeTray_of_room (s := u) (f := { f with
      tray := joined (lotOf s b.lot) f.tray b, deadline := some (s.nowMs + s.closeMs) })
    (by rw [hutray]) false (by rw [hutray]; exact hroom)
  rw [if_pos heq, hclosed, hown, hutray, Bool.or_false]

/-- The fields of a tray that a first row starts (R78). -/
theorem joined_new (s u : State) (b : RowBody) :
    let x := joined (lotOf u b.lot) (newTray s b.lot) b
    (lotOf u b.lot).any (fun l => decide (l.allowance ≤ b.exposure)) =
        (lotOf s b.lot).any (fun l => decide (l.allowance ≤ b.exposure)) →
      x.short = false ∧ x.lot = b.lot ∧ x.product = (lotOf s b.lot).map LotRec.product ∧
        x.useBy = (lotOf s b.lot).map LotRec.useBy ∧ x.rows = 1 ∧ x.pots = b.potCount ∧ x.exposure = b.exposure ∧
        x.quarantine =
          (b.lot.isNone || b.uncertain || (lotOf s b.lot).any (fun l => l.allowance ≤ b.exposure)) := by
  intro x hspent
  have hx : x = classifyTray (lotOf u b.lot) ((newTray s b.lot).join b) := rfl
  have hexp : max 0 b.exposure = b.exposure := Nat.zero_max _
  rw [hx, classifyTray_eq]
  refine ⟨rfl, rfl, rfl, rfl, rfl, ?_, hexp, ?_⟩
  · exact Nat.zero_add _
  · show (b.lot.isNone || b.uncertain || (lotOf u b.lot).any (fun r => r.allowance ≤ max 0 b.exposure)) = _
    rw [hexp, hspent]

/-- The fields of a tray that a further row joins (R78). -/
theorem joined_more (lot : Option LotRec) (t : Tray) (b : RowBody) :
    let x := joined lot t b
    x.lot = t.lot ∧ x.product = t.product ∧ x.useBy = t.useBy ∧ x.rows = t.rows + 1 ∧ x.pots = t.pots + b.potCount ∧
      x.exposure = max t.exposure b.exposure ∧ x.short = t.short ∧
      x.quarantine = (t.quarantine || b.uncertain || lot.any (fun l => l.allowance ≤ max t.exposure b.exposure)) := by
  intro x
  have hx : x = classifyTray lot (t.join b) := rfl
  rw [hx, classifyTray_eq]
  exact ⟨rfl, rfl, rfl, rfl, rfl, rfl, rfl, rfl⟩

theorem startTray_of_none {s : State} (h : s.tray.forming = none) (lot : Option Nat) :
    startTray lot s =
      lotArrive lot { s with tray.forming := some { tray := newTray s lot, deadline := none, closeDue := false } } := by
  rw [startTray, h]
  rfl

theorem startTray_of_some {s : State} {f : Forming} (h : s.tray.forming = some f) (lot : Option Nat) :
    startTray lot s = s := by
  rw [startTray, h]
  rfl

/-- A row that starts a new tray, the tray of another lot out of the way. -/
theorem startedTray {s : State} (b : RowBody) (hnone : s.tray.forming = none) :
    ∃ x,
      (s.rowsPerTray ≠ 1 → (joinTray b (startTray b.lot s)).tray =
        { s.tray with forming := some ⟨x, some (s.nowMs + s.closeMs), false⟩ }) ∧
      (s.rowsPerTray = 1 → s.tray.formed.length < 16 → (joinTray b (startTray b.lot s)).tray =
        { s.tray with
          forming := none
          formed := s.tray.formed ++ [{ x with id := { origin := s.own, seq := s.tray.nextSeq } }]
          nextSeq := if s.tray.nextSeq = 1048575 then 1 else s.tray.nextSeq + 1 }) ∧
      x.short = false ∧ x.lot = b.lot ∧ x.product = (lotOf s b.lot).map LotRec.product ∧
      x.useBy = (lotOf s b.lot).map LotRec.useBy ∧ x.rows = 1 ∧ x.pots = b.potCount ∧ x.exposure = b.exposure ∧
      x.quarantine = (b.lot.isNone || b.uncertain || (lotOf s b.lot).any (fun l => l.allowance ≤ b.exposure)) := by
  have hstart := startTray_of_none hnone b.lot
  have hterms : SameLots LotRec.terms s (startTray b.lot s) := by
    rw [hstart]
    have h₀ : SameLots LotRec.terms s
        { s with tray.forming := some { tray := newTray s b.lot, deadline := none, closeDue := false } } := .of_lot rfl
    exact h₀.trans (sameTerms_lotArrive _ _)
  have hspent := (hterms.comp LotRec.allowance).spent b.lot b.exposure
  have htray : (startTray b.lot s).tray =
      { s.tray with forming := some { tray := newTray s b.lot, deadline := none, closeDue := false } } := by
    rw [hstart, lotArrive_tray]
  have hsettings : (startTray b.lot s).stc.settings = s.stc.settings := by rw [hstart, lotArrive_stc]
  have hper : (startTray b.lot s).rowsPerTray = s.rowsPerTray := num_of_settings hsettings 19
  have hclose : (startTray b.lot s).closeMs = s.closeMs := congrArg (· * 1000) (num_of_settings hsettings 20)
  have hnow : (startTray b.lot s).nowMs = s.nowMs := by rw [hstart, lotArrive_nowMs]
  have hown : (startTray b.lot s).own = s.own := own_of_settings hsettings
  obtain ⟨hmore, hlast⟩ := joinTray_tray (s := startTray b.lot s)
    (f := { tray := newTray s b.lot, deadline := none, closeDue := false }) (by rw [htray]) b
  rw [hper, hnow, hclose, htray] at hmore
  rw [hper, hown, htray] at hlast
  exact ⟨joined (lotOf (startTray b.lot s) b.lot) (newTray s b.lot) b, fun hne => hmore (fun h => hne h.symm),
    fun heq hroom => hlast heq.symm hroom, joined_new s (startTray b.lot s) b hspent⟩

end Sys2Proof.Machine
end

section

/-! ## Family "other": the trays of an index event, settled (O29) -/

namespace Sys2Proof.Machine

theorem exitStage_trayer {s : State} {r : Row} (hrole : s.role = .trayer) (hr : s.rowAt (s.windowLength - 1) = some r)
    (hpots : r.body.hasPots = true) :
    exitStage s = if 16 ≤ s.tray.formed.length then writeOffRow r.body s else formRow r.body s := by
  unfold exitStage formedFull formedCapacity
  simp [hr, hpots, hrole]

theorem formRow_of_none {s : State} (h : s.tray.forming = none) (b : RowBody) :
    formRow b s = joinTray b (startTray b.lot s) := by
  unfold formRow
  rw [h]
  rfl

theorem formRow_of_same {s : State} {f : Forming} (h : s.tray.forming = some f) {b : RowBody} (hlot : f.tray.lot = b.lot) :
    formRow b s = joinTray b s := by
  have hsame : s.tray.forming.any (fun f => f.tray.lot ≠ b.lot) = false := by
    rw [h, Option.any_some]
    exact decide_eq_false (not_not.2 hlot)
  unfold formRow
  rw [hsame]
  exact congrArg (joinTray b) (startTray_of_some h b.lot)

theorem formRow_of_other {s : State} {f : Forming} (h : s.tray.forming = some f) {b : RowBody} (hlot : f.tray.lot ≠ b.lot) :
    formRow b s = joinTray b (startTray b.lot (closeTray true s)) := by
  have hother : s.tray.forming.any (fun f => f.tray.lot ≠ b.lot) = true := by
    rw [h, Option.any_some]
    exact decide_eq_true hlot
  unfold formRow
  rw [hother]
  rfl

/-- The parts of an index event at TRAYER that do not depend on the tray. -/
theorem trayerEvent {presence bond : BitVec 8} {s : State} (htakes : takesCounts s = true) (hdebt : s.idx.debt = 0)
    (hcount : s.countsPerIndex ≤ s.idx.posCount + 1) :
    ∃ t, t = indexEvent presence bond { s with idx.posCount := 0 } ∧ exec (.forwardCount presence bond) s = .next t ∧
      t.idx.lost = (exitStage { s with idx.posCount := 0 }).idx.lost ∧ t.hnd.room = roomOf t := by
  refine ⟨_, rfl, exec_indexEvent htakes hdebt hcount, ?_, ?_⟩
  · rw [indexEvent_lost]
  · exact indexEvent_room presence bond _

theorem formRow_idx (b : RowBody) (s : State) : (formRow b s).idx = s.idx := by
  have hstart (u : State) : (startTray b.lot u).idx = u.idx := by
    unfold startTray
    split
    · rfl
    · rw [lotArrive_idx]
  have hjoin (u : State) : (joinTray b u).idx = u.idx := by
    unfold joinTray
    split
    · rfl
    · dsimp only
      split <;> simp
  unfold formRow
  rw [hjoin, hstart]
  split
  · exact closeTray_idx true s
  · rfl

theorem exitStage_forms {r : Row} {s : State} (hrole : s.role = .trayer) (hr : s.rowAt (s.windowLength - 1) = some r)
    (hpots : r.body.hasPots = true) (hroom : s.tray.formed.length < 16) :
    exitStage { s with idx.posCount := 0 } = formRow r.body { s with idx.posCount := 0 } :=
  (exitStage_trayer (s := { s with idx.posCount := 0 }) hrole hr hpots).trans (if_neg (Nat.not_le.2 hroom))

section Rows

variable {presence bond : BitVec 8} {r : Row} {s : State} (hrole : s.role = .trayer)
  (hr : s.rowAt (s.windowLength - 1) = some r) (hpots : r.body.hasPots = true)
include hrole hr hpots

theorem trayer_firstRow (htakes : takesCounts s = true) (hdebt : s.idx.debt = 0)
    (hcount : s.countsPerIndex ≤ s.idx.posCount + 1) (hroom : s.tray.formed.length < 16) (hnone : s.tray.forming = none) :
    ∃ t, exec (.forwardCount presence bond) s = .next t ∧ t.idx.lost = s.idx.lost ∧ t.hnd.room = roomOf t ∧
      (s.rowsPerTray ≠ 1 →
        ∃ x, TrayLeft s t s.tray.formed s.tray.nextSeq x ∧ x.short = false ∧
        x.lot = r.body.lot ∧ x.product = (lotOf s r.body.lot).map LotRec.product ∧
        x.useBy = (lotOf s r.body.lot).map LotRec.useBy ∧ x.rows = 1 ∧ x.pots = r.body.potCount ∧
        x.exposure = r.body.exposure ∧
        x.quarantine =
          (r.body.lot.isNone || r.body.uncertain ||
            (lotOf s r.body.lot).any (fun l => l.allowance ≤ r.body.exposure))) ∧
      (s.rowsPerTray = 1 →
        t.tray.forming = none ∧ t.tray.nextSeq = (if s.tray.nextSeq = 1048575 then 1 else s.tray.nextSeq + 1) ∧
        ∃ x, t.tray.formed = s.tray.formed ++ [x] ∧
          x.id = { origin := s.own, seq := s.tray.nextSeq } ∧ x.short = false ∧
          x.lot = r.body.lot ∧ x.product = (lotOf s r.body.lot).map LotRec.product ∧
        x.useBy = (lotOf s r.body.lot).map LotRec.useBy ∧ x.rows = 1 ∧ x.pots = r.body.potCount ∧
        x.exposure = r.body.exposure ∧
        x.quarantine =
          (r.body.lot.isNone || r.body.uncertain ||
            (lotOf s r.body.lot).any (fun l => l.allowance ≤ r.body.exposure))) := by
  have hexit := exitStage_forms hrole hr hpots hroom
  obtain ⟨t, ht, hexec, hlost, hsettled⟩ := trayerEvent (presence := presence) (bond := bond) htakes hdebt hcount
  rw [hexit, formRow_idx] at hlost
  rw [formRow_of_none (s := { s with idx.posCount := 0 }) hnone] at hexit
  obtain ⟨x, hmore, hlast, hshort, hlot, hproduct, huseBy, hrows, hxpots, hexp, hquarantine⟩ :=
    startedTray (s := { s with idx.posCount := 0 }) r.body hnone
  rw [← hexit] at hmore hlast
  refine ⟨t, hexec, hlost, hsettled, fun hne => ⟨x, ?_, hshort, hlot, hproduct, huseBy, hrows, hxpots, hexp, hquarantine⟩,
    fun heq => ?_⟩
  · have htray := hmore hne
    rw [ht]
    exact trayLeft_of hrole htray
  · have htray := hlast heq hroom
    rw [ht, indexEvent_tray_of_none presence bond s (by rw [htray]), htray]
    exact ⟨rfl, rfl, _, rfl, rfl, hshort, hlot, hproduct, huseBy, hrows, hxpots, hexp, hquarantine⟩

theorem trayer_sameLot {f : Forming} (hroom : s.tray.formed.length < 16) (hf : s.tray.forming = some f)
    (hlot : f.tray.lot = r.body.lot) :
    ∃ x, (f.tray.rows + 1 ≠ s.rowsPerTray →
        TrayLeft s (indexEvent presence bond { s with idx.posCount := 0 }) s.tray.formed s.tray.nextSeq x) ∧
      (f.tray.rows + 1 = s.rowsPerTray →
        (indexEvent presence bond { s with idx.posCount := 0 }).tray =
          { s.tray with
            forming := none
            formed := s.tray.formed ++ [{ x with id := { origin := s.own, seq := s.tray.nextSeq } }]
            nextSeq := if s.tray.nextSeq = 1048575 then 1 else s.tray.nextSeq + 1 }) ∧
      x.lot = f.tray.lot ∧ x.product = f.tray.product ∧ x.useBy = f.tray.useBy ∧ x.rows = f.tray.rows + 1 ∧
      x.pots = f.tray.pots + r.body.potCount ∧ x.exposure = max f.tray.exposure r.body.exposure ∧
      x.short = f.tray.short ∧
      x.quarantine =
        (f.tray.quarantine || r.body.uncertain ||
          (lotOf s r.body.lot).any (fun l => l.allowance ≤ max f.tray.exposure r.body.exposure)) := by
  have hexit := exitStage_forms hrole hr hpots hroom
  rw [formRow_of_same (s := { s with idx.posCount := 0 }) hf hlot] at hexit
  obtain ⟨hmore, hlast⟩ := joinTray_tray (s := { s with idx.posCount := 0 }) hf r.body
  rw [← hexit] at hmore hlast
  refine ⟨joined (lotOf s r.body.lot) f.tray r.body, fun hne => ?_, fun heq => ?_, joined_more _ _ _⟩
  · have htray := hmore hne
    exact trayLeft_of hrole htray
  · have htray := hlast heq hroom
    rw [indexEvent_tray_of_none presence bond s (by rw [htray]), htray]
    rfl

theorem trayer_otherLot {f : Forming} (hroom : s.tray.formed.length < 16) (hf : s.tray.forming = some f)
    (hlot : f.tray.lot ≠ r.body.lot) (hper : s.rowsPerTray ≠ 1) :
    ∃ x, TrayLeft s (indexEvent presence bond { s with idx.posCount := 0 })
        (s.tray.formed ++ [{ f.tray with id := { origin := s.own, seq := s.tray.nextSeq }, short := true }])
        (if s.tray.nextSeq = 1048575 then 1 else s.tray.nextSeq + 1) x ∧
      x.short = false ∧
      x.lot = r.body.lot ∧ x.product = (lotOf s r.body.lot).map LotRec.product ∧
      x.useBy = (lotOf s r.body.lot).map LotRec.useBy ∧ x.rows = 1 ∧ x.pots = r.body.potCount ∧
      x.exposure = r.body.exposure ∧
      x.quarantine =
        (r.body.lot.isNone || r.body.uncertain ||
          (lotOf s r.body.lot).any (fun l => l.allowance ≤ r.body.exposure)) := by
  have hexit := exitStage_forms hrole hr hpots hroom
  rw [formRow_of_other (s := { s with idx.posCount := 0 }) hf hlot] at hexit
  have hclosed := closeTray_of_room (s := { s with idx.posCount := 0 }) hf true hroom
  generalize hc : closeTray true { s with idx.posCount := 0 } = c at hexit hclosed
  have hsettings : c.stc.settings = s.stc.settings := by rw [← hc, closeTray_stc]
  have hlots (o : Option Nat) : lotOf c o = lotOf s o := by
    cases o with
    | none => rfl
    | some id =>
      show findLotIn c.lot.table id = findLotIn s.lot.table id
      rw [← hc, closeTray_lot]
  have hclose : c.closeMs = s.closeMs := congrArg (· * 1000) (num_of_settings hsettings 20)
  have hnow : c.nowMs = s.nowMs := by rw [← hc, closeTray_nowMs]
  obtain ⟨x, hmore, -, hshort, hlot', hproduct, huseBy, hrows, hxpots, hexp, hquarantine⟩ :=
    startedTray (s := c) r.body (by rw [hclosed])
  rw [hlots] at hproduct huseBy hquarantine
  have htray := hmore (by rw [show c.rowsPerTray = s.rowsPerTray from num_of_settings hsettings 19]; exact hper)
  rw [← hexit, hclose, hnow, hclosed, Bool.or_true] at htray
  exact ⟨x, trayLeft_of hrole htray, hshort, hlot', hproduct, huseBy, hrows, hxpots, hexp, hquarantine⟩

theorem trayer_full (htakes : takesCounts s = true) (hdebt : s.idx.debt = 0)
    (hcount : s.countsPerIndex ≤ s.idx.posCount + 1) (hfull : 16 ≤ s.tray.formed.length) :
    ∃ t, exec (.forwardCount presence bond) s = .next t ∧ (s.mode ≠ .draining → t.tray = s.tray) ∧
      t.tray.formed = s.tray.formed ∧ t.tray.forming.map Forming.tray = s.tray.forming.map Forming.tray ∧
      t.idx.lost = min 4294967295 (s.idx.lost + r.body.potCount) ∧ t.latchedNotice .overrun = true := by
  have hexit : exitStage { s with idx.posCount := 0 } = writeOffRow r.body { s with idx.posCount := 0 } :=
    (exitStage_trayer (s := { s with idx.posCount := 0 }) hrole hr hpots).trans (if_pos hfull)
  have htray : (exitStage { s with idx.posCount := 0 }).tray = s.tray := by
    rw [hexit]
    simp [writeOffRow]
  obtain ⟨t, ht, hexec, hlost, -⟩ := trayerEvent (presence := presence) (bond := bond) htakes hdebt hcount
  have hiff := drains_treated_iff presence bond s
  have hend : t.tray = s.tray ∨ s.mode = .draining ∧
      ∃ f, s.tray.forming = some f ∧ t.tray = { s.tray with forming := some { f with closeDue := true } } := by
    by_cases hd : Drains (treatStage bond (rowsMoved presence s))
    · cases hf : s.tray.forming with
      | none =>
        left
        rw [ht, indexEvent_tray_of_none presence bond s (by rw [htray]; exact hf), htray]
      | some f =>
        right
        refine ⟨(hiff.1 hd).1, f, rfl, ?_⟩
        have hdrained := (indexEvent_tray_of_drains hrole (by rw [htray]; exact hf) hd).2 (by rw [htray]; exact hfull)
        rw [ht, hdrained, htray]
    · left
      rw [ht, indexEvent_tray_of_not_drains presence bond s hd, htray]
  refine ⟨t, hexec, fun hm => ?_, ?_, ?_, ?_, ?_⟩
  · rcases hend with h | ⟨hdrain, -⟩
    · exact h
    · exact absurd hdrain hm
  · rcases hend with h | ⟨-, f, -, h⟩
    · rw [h]
    · rw [h]
  · rcases hend with h | ⟨-, f, hf, h⟩
    · rw [h]
    · rw [h, hf]
      rfl
  · rw [hlost, hexit]
    simp [writeOffRow, bump, countMax]
  · have hmoved : (rowsMoved presence s).latchedNotice .overrun = true := by
      rw [State.latchedNotice, rowsMoved_latched, hexit]
      exact latch_latchedNotice _ _
    rw [ht, State.latchedNotice, indexEvent_stc]
    exact (treated_treatStage bond _).notices _ hmoved

end Rows

/-- The drain condition met at an event with nothing at the exit and nothing sensed (R79). -/
theorem trayer_drains {presence bond : BitVec 8} {f : Forming} {s : State} (hrole : s.role = .trayer)
    (hm : s.mode = .draining) (hdebt : s.idx.debt = 0) (hcount : s.countsPerIndex ≤ s.idx.posCount + 1)
    (hexit : s.rowAt (s.windowLength - 1) = none) (hf : s.tray.forming = some f) :
    ∃ t, exec (.forwardCount presence bond) s = .next t ∧ t.hnd.room = roomOf t ∧
      if t.hnd.rowArrivals = [] ∧ t.idx.window.all (fun o => !o.any (fun r => r.body.hasPots)) = true then
        t.tray =
          (if s.tray.formed.length < 16 then
            { s.tray with
              forming := none
              formed := s.tray.formed ++ [{ f.tray with id := { origin := s.own, seq := s.tray.nextSeq }, short := true }]
              nextSeq := (if s.tray.nextSeq = 1048575 then 1 else s.tray.nextSeq + 1) }
          else { s.tray with forming := some { f with closeDue := true } })
      else t.tray = s.tray := by
  have htakes : takesCounts s = true := by simp [takesCounts, hrole, hm, Role.isRow]
  have hstart : exitStage { s with idx.posCount := 0 } = { s with idx.posCount := 0 } := exitStage_of_none hexit
  obtain ⟨t, ht, hexec, -, hsettled⟩ := trayerEvent (presence := presence) (bond := bond) htakes hdebt hcount
  have hiff := drains_treated_iff presence bond s
  have hkept := indexEvent_tray_of_not_drains presence bond s
  have hdrained := indexEvent_tray_of_drains (presence := presence) (bond := bond) hrole
    (f := f) (by rw [hstart]; exact hf)
  rw [hstart] at hkept hdrained
  rw [← ht] at hiff hkept hdrained
  refine ⟨t, hexec, hsettled, ?_⟩
  split
  · next hcond =>
    obtain ⟨hroom, hfull⟩ := hdrained (hiff.2 ⟨hm, hcond⟩)
    split
    · next hlt => exact hroom hlt
    · next hge => exact hfull (Nat.le_of_not_lt hge)
  · next hcond => exact hkept fun h => hcond (hiff.1 h).2

/-- Settles O29: the close time, the exit sensor events, and the trays of an index event. -/
theorem traysCloseAndLeave : Obligations.TraysCloseAndLeave := by
  refine ⟨⟨⟨fun f d s hf hd => closeTime_trays hf hd,
      fun x rest s hrole hm hq hnone => exit_at_trayer hrole hm hq hnone,
      fun x rest s hrole hm hq => exit_at_chill hrole hm hq,
      fun s hm h => ⟨congrArg Host.Outcome.next (exit_unmatched hm h), congrArg Host.Outcome.next (exit_unmatched hm h)⟩⟩,
    fun presence bond r s hrole htakes hdebt hcount hr hpots hroom hnone =>
      trayer_firstRow hrole hr hpots htakes hdebt hcount hroom hnone,
    fun presence bond r f s hrole htakes hdebt hcount hr hpots hroom hf => ?_,
    fun presence bond r s hrole htakes hdebt hcount hr hpots hfull => trayer_full hrole hr hpots htakes hdebt hcount hfull,
    fun x rest f s hrole hm hq hf hdue hrest => exit_heldBack hrole hm hq hf hdue hrest⟩,
    fun presence bond f s hrole hm hdebt hcount _ _ hexit _ hf => trayer_drains hrole hm hdebt hcount hexit hf⟩
  obtain ⟨t, ht, hexec, hlost, hsettled⟩ := trayerEvent (presence := presence) (bond := bond) htakes hdebt hcount
  have hexit := exitStage_forms hrole hr hpots hroom
  rw [hexit, formRow_idx] at hlost
  refine ⟨t, hexec, hlost, hsettled, fun hlot hne => ?_, fun hlot heq => ?_, fun hlot hper => ?_⟩
  · obtain ⟨x, hleft, -, hfields⟩ :=
      trayer_sameLot (presence := presence) (bond := bond) hrole hr hpots hroom hf hlot
    exact ⟨x, ht ▸ hleft hne, hfields⟩
  · obtain ⟨x, -, hclosed, hfields⟩ :=
      trayer_sameLot (presence := presence) (bond := bond) hrole hr hpots hroom hf hlot
    have htray := hclosed heq
    rw [← ht] at htray
    rw [htray]
    exact ⟨rfl, rfl, _, rfl, rfl, hfields⟩
  · obtain ⟨x, hleft, hfields⟩ :=
      trayer_otherLot (presence := presence) (bond := bond) hrole hr hpots hroom hf hlot hper
    exact ⟨x, ht ▸ hleft, hfields⟩

end Sys2Proof.Machine
end

section

/-! ## Family "other": trays enter CHILL and DISPATCH (R35, R80, R82, R85, R112), and O30 -/

namespace Sys2Proof.Machine

/-! ### Finding an entry -/

theorem findIdx?_any_eq_none {α : Type} {l : List (Option α)} {p : α → Bool}
    (h : ∀ j o, slotAt l j = some o → p o = false) : l.findIdx? (fun e => e.any p) = none := by
  rw [List.findIdx?_eq_none_iff]
  intro x hx
  cases x with
  | none => rfl
  | some o =>
    obtain ⟨j, hj⟩ := List.mem_iff_getElem?.1 hx
    exact h j o (by rw [slotAt, hj]; rfl)

theorem findIdx?_any_eq_some {α : Type} {l : List (Option α)} {p : α → Bool} {j : Nat} {o : α} (ho : slotAt l j = some o)
    (hp : p o = true) (h : ∀ k q, slotAt l k = some q → k < j → p q = false) :
    l.findIdx? (fun e => e.any p) = some j := by
  have hget : l[j]? = some (some o) := Option.join_eq_some_iff.1 ho
  obtain ⟨hlt, hval⟩ := List.getElem?_eq_some_iff.1 hget
  rw [List.findIdx?_eq_some_iff_getElem]
  refine ⟨hlt, by rw [hval]; exact hp, fun k hk => ?_⟩
  have hk' : l[k]? = some (l[k]'(by omega)) := List.getElem?_eq_getElem (by omega)
  cases hx : l[k]'(by omega) with
  | none => simp
  | some q =>
    have hq := h k q (by rw [slotAt, hk', hx]; rfl) hk
    simp [hq]

theorem modifyAt_map_of_slot {α : Type} {l : List (Option α)} {j : Nat} {o : α} (f : α → α) (h : slotAt l j = some o) :
    modifyAt l j (Option.map f) = l.set j (some (f o)) := by
  have hget : l[j]? = some (some o) := Option.join_eq_some_iff.1 h
  obtain ⟨hlt, hval⟩ := List.getElem?_eq_some_iff.1 hget
  rw [modifyAt_eq_modify]
  refine List.ext_getElem? fun k => ?_
  rw [List.getElem?_modify, List.getElem?_set]
  by_cases hk : j = k
  · subst hk
    simp [hlt, hval]
  · simp [hk]

/-! ### Assignment (R112) -/

/-- What the routing of a placed tray leaves: the cell's tray but for its order, route, chambers and state, and the rest. -/
structure Assigned (i : Nat) (c : Cell) (s t : State) : Prop where
  cell : ∃ c', t.cellAt i = some c' ∧ c'.arrivalTime = c.arrivalTime ∧ c'.arrivalOrder = c.arrivalOrder ∧
    c'.tray = { c.tray with
      order := c'.tray.order, route := c'.tray.route, chambers := c'.tray.chambers, dstate := c'.tray.dstate }
  others : ∀ k, k ≠ i → t.cellAt k = s.cellAt k
  tray : t.tray = { s.tray with cells := t.tray.cells }
  hnd : t.hnd = s.hnd
  standby : standbyBank t = standbyBank s

theorem standbyBank_of_dsp {s t : State} (h : t.dsp = s.dsp) : standbyBank t = standbyBank s := by simp [standbyBank, h]

theorem standbyBank_updateEntry (j : Nat) (f : OrderEntry → OrderEntry) (s : State) :
    standbyBank (updateEntry j f s) = standbyBank s := by
  unfold updateEntry setActive standbyBank
  cases hs : s.dsp.swap <;> simp [hs]

/-- Routing by one change of the cell's tray, on a state whose Tray Unit and HND are those before it. -/
theorem assigned_update {i : Nat} {c : Cell} {s u : State} (h : s.cellAt i = some c) {f : Tray → Tray}
    (hf : ∀ x, f x = { x with order := (f x).order, route := (f x).route, chambers := (f x).chambers, dstate := (f x).dstate })
    (htray : u.tray = s.tray) (hhnd : u.hnd = s.hnd) (hstandby : standbyBank u = standbyBank s) :
    Assigned i c s (updateCellTray i f u) ∧ (updateCellTray i f u).cellAt i = some { c with tray := f c.tray } := by
  have hcell : u.cellAt i = some c := by rw [cellAt_of_tray htray, h]
  have hnew : (updateCellTray i f u).cellAt i = some { c with tray := f c.tray } :=
    cellAt_updateCell_same hcell (fun x => { x with tray := f x.tray })
  refine ⟨⟨⟨_, hnew, rfl, rfl, hf c.tray⟩, fun k hk => ?_, ?_, ?_, ?_⟩, hnew⟩
  · rw [← cellAt_of_tray htray]
    exact cellAt_updateCell_of_ne hk _ u
  · have hcells : (updateCellTray i f u).tray = { u.tray with cells := (updateCellTray i f u).tray.cells } := rfl
    rw [hcells, htray]
  · rw [updateCellTray_hnd, hhnd]
  · rw [standbyBank_of_dsp (updateCellTray_dsp _ _ _), hstandby]

section Assign

variable {i : Nat} {c : Cell} {s : State} (h : s.cellAt i = some c)
include h

theorem assignCell_zero (hid : c.tray.id = { origin := 0, seq := 0 }) :
    Assigned i c s (assignCell i s) ∧
      (assignCell i s).cellAt i = some { c with
        tray := { c.tray with order := none, route := some s.quarantineChamber, dstate := .routeHeld } } ∧
      activeBank (assignCell i s) = activeBank s ∧
      (assignCell i s).stc.latched = s.stc.latched ||| Notice.routeFailed.mask ∧
      (assignCell i s).dsp.unnamedTrays = min 4294967295 (s.dsp.unnamedTrays + 1) := by
  have hroute : assignCell i s = latch .routeFailed
      { updateCellTray i (fun x => { x with order := none, route := some s.quarantineChamber, dstate := .routeHeld }) s with
        dsp.unnamedTrays := bump s.dsp.unnamedTrays 1 } := by
    rw [assignCell, h]
    simp only [hid, if_true]
    rfl
  obtain ⟨hassigned, hcell⟩ := assigned_update (u := s) h
    (f := fun x => { x with order := none, route := some s.quarantineChamber, dstate := .routeHeld }) (fun _ => rfl) rfl rfl rfl
  rw [hroute]
  exact ⟨⟨hassigned.cell, hassigned.others, hassigned.tray, hassigned.hnd, hassigned.standby⟩, hcell, rfl, rfl, rfl⟩

theorem assignCell_flagged (hid : c.tray.id ≠ { origin := 0, seq := 0 }) (hq : c.tray.quarantine = true) :
    assignCell i s =
      updateCellTray i (fun x => { x with order := none, route := some s.quarantineChamber, dstate := .unasked }) s := by
  rw [assignCell, h]
  simp only [hid, hq, if_false, if_true]

theorem assignCell_stock (hid : c.tray.id ≠ { origin := 0, seq := 0 }) (hq : c.tray.quarantine = false)
    (hj : (activeBank s).findIdx? (fun e => e.any (fun r => r.fits c.tray)) = none) :
    assignCell i s =
      updateCellTray i (fun x => { x with order := none, route := some s.stockChamber, dstate := .unasked }) s := by
  rw [assignCell, h]
  simp only [hid, hq, if_false, Bool.false_eq_true, hj]

theorem assignCell_fits (hid : c.tray.id ≠ { origin := 0, seq := 0 }) (hq : c.tray.quarantine = false) {j : Nat}
    {o : OrderEntry} (hj : (activeBank s).findIdx? (fun e => e.any (fun r => r.fits c.tray)) = some j)
    (ho : slotAt (activeBank s) j = some o) :
    assignCell i s =
      updateCellTray i
        (fun x => { x with
          order := some o.order, route := some o.current, chambers := some (o.primary, o.alternate), dstate := .unasked })
        (updateEntry j OrderEntry.assign s) := by
  rw [assignCell, h]
  simp only [hid, hq, if_false, Bool.false_eq_true, hj, ho]

end Assign

/-- The entry that a search of the bank finds. -/
theorem slotAt_of_findIdx? {α : Type} {l : List (Option α)} {p : α → Bool} {j : Nat}
    (h : l.findIdx? (fun e => e.any p) = some j) : ∃ o, slotAt l j = some o ∧ p o = true := by
  obtain ⟨hlt, hany, -⟩ := List.findIdx?_eq_some_iff_getElem.1 h
  obtain ⟨o, ho, hp⟩ := (Option.any_eq_true _ _).1 hany
  exact ⟨o, by rw [slotAt, List.getElem?_eq_getElem hlt, ho]; rfl, hp⟩

/-- Every routing leaves the rest. -/
theorem assignCell_assigned {i : Nat} {c : Cell} {s : State} (h : s.cellAt i = some c) : Assigned i c s (assignCell i s) := by
  by_cases hid : c.tray.id = { origin := 0, seq := 0 }
  · exact (assignCell_zero h hid).1
  cases hq : c.tray.quarantine with
  | true =>
    rw [assignCell_flagged h hid hq]
    exact (assigned_update h (fun _ => rfl) rfl rfl rfl).1
  | false =>
    cases hj : (activeBank s).findIdx? (fun e => e.any (fun r => r.fits c.tray)) with
    | none =>
      rw [assignCell_stock h hid hq hj]
      exact (assigned_update h (fun _ => rfl) rfl rfl rfl).1
    | some j =>
      obtain ⟨o, ho, -⟩ := slotAt_of_findIdx? hj
      rw [assignCell_fits h hid hq hj ho]
      exact (assigned_update h (fun _ => rfl) (updateEntry_tray _ _ _) (updateEntry_hnd _ _ _)
        (standbyBank_updateEntry _ _ _)).1

/-- The routing of a tray that has an id: by its flag, and by the first entry of the ACTIVE bank that fits it (R112). -/
theorem assignCell_routed {i : Nat} {c c' : Cell} {s : State} (h : s.cellAt i = some c)
    (hid : c.tray.id ≠ { origin := 0, seq := 0 }) (hc' : (assignCell i s).cellAt i = some c') :
    (c'.tray.dstate = .unasked ∧ (assignCell i s).stc = s.stc ∧
      (assignCell i s).dsp.unnamedTrays = s.dsp.unnamedTrays) ∧
    (c.tray.quarantine = true → c'.tray.order = none ∧ c'.tray.route = some s.quarantineChamber ∧
      activeBank (assignCell i s) = activeBank s) ∧
    (c.tray.quarantine = false →
      ((∀ j o, slotAt (activeBank s) j = some o → o.fits c.tray = false) →
        c'.tray.order = none ∧ c'.tray.route = some s.stockChamber ∧ activeBank (assignCell i s) = activeBank s) ∧
      ∀ j o, slotAt (activeBank s) j = some o → o.fits c.tray = true →
        (∀ k q, slotAt (activeBank s) k = some q → k < j → q.fits c.tray = false) →
        c'.tray.order = some o.order ∧ c'.tray.route = some (if o.onAlternate then o.alternate else o.primary) ∧
          c'.tray.chambers = some (o.primary, o.alternate) ∧
          activeBank (assignCell i s) = (activeBank s).set j
            (some { o with
              assigned := o.assigned + 1, state := if o.assigned + 1 = o.quantity then .filled else .opened })) := by
  have hupdated (f : Tray → Tray) (u : State) (hu : u.cellAt i = some c) (hassign : assignCell i s = updateCellTray i f u) :
      c' = { c with tray := f c.tray } := by
    rw [hassign] at hc'
    exact Option.some.inj (hc'.symm.trans (cellAt_updateCell_same hu (fun y => { y with tray := f y.tray })))
  cases hq : c.tray.quarantine with
  | true =>
    have hassign := assignCell_flagged h hid hq
    have hnew := hupdated _ _ h hassign
    rw [hassign, hnew]
    exact ⟨⟨rfl, rfl, rfl⟩, fun _ => ⟨rfl, rfl, rfl⟩, fun hfalse => absurd hfalse (by decide)⟩
  | false =>
    cases hj : (activeBank s).findIdx? (fun e => e.any (fun r => r.fits c.tray)) with
    | none =>
      have hassign := assignCell_stock h hid hq hj
      have hnew := hupdated _ _ h hassign
      rw [hassign, hnew]
      refine ⟨⟨rfl, rfl, rfl⟩, fun htrue => absurd htrue (by decide), fun _ => ⟨fun _ => ⟨rfl, rfl, rfl⟩,
        fun k o ho hfits hfirst => ?_⟩⟩
      exact absurd (hj.symm.trans (findIdx?_any_eq_some ho hfits hfirst)) (by simp)
    | some j =>
      obtain ⟨e, he, hefits⟩ := slotAt_of_findIdx? hj
      have hassign := assignCell_fits h hid hq hj he
      have hnew := hupdated _ (updateEntry j OrderEntry.assign s) (by rw [cellAt_of_tray (updateEntry_tray _ _ _), h]) hassign
      have hunnamed : (updateEntry j OrderEntry.assign s).dsp.unnamedTrays = s.dsp.unnamedTrays := by
        unfold updateEntry setActive
        split <;> rfl
      have hopened : e.state = .opened := by
        simp only [OrderEntry.fits, Bool.and_eq_true, decide_eq_true_eq] at hefits
        exact hefits.1.1.1
      rw [hassign, hnew]
      refine ⟨⟨rfl, updateEntry_stc _ _ _, hunnamed⟩, fun htrue => absurd htrue (by decide), fun _ => ⟨fun hnone => ?_,
        fun k o ho hfits hfirst => ?_⟩⟩
      · exact absurd (hefits.symm.trans (hnone j e he)) (by decide)
      · obtain rfl := Option.some.inj (hj.symm.trans (findIdx?_any_eq_some ho hfits hfirst))
        obtain rfl := Option.some.inj (he.symm.trans ho)
        refine ⟨rfl, rfl, rfl, ?_⟩
        rw [activeBank_of_dsp (updateCellTray_dsp _ _ _), updateEntry, activeBank_setActive, modifyAt_map_of_slot _ he,
          OrderEntry.assign, hopened]

/-! ### Placing a tray in a cell (R85) -/

/-- The cell of a tray that is placed, before DSP routes it. -/
def placedCell (t : Tray) (s : State) : Cell :=
  { tray := { classifyTray (lotOf s t.lot) t with
      order := none, route := none, grant := none, retry := 0, dstate := .unasked, chambers := none }
    arrivalTime := s.stc.clock
    arrivalOrder := s.tray.nextArrival }

/-- The state in which a tray has taken cell `i`. -/
def inCell (i : Nat) (t : Tray) (s : State) : State :=
  receiveTray t
    { s with
      tray.cells := s.tray.cells.set i (some (placedCell t s)), tray.nextArrival := nextOrder s.tray.nextArrival }

theorem placeInCell_of {t : Tray} {s : State} {i : Nat} (h : lowestFree s.tray.cells = some i) :
    placeInCell t s = assignCell i (inCell i t s) := by
  rw [placeInCell, h]
  rfl

theorem receiveTray_frame (t : Tray) (s : State) :
    (receiveTray t s).tray = s.tray ∧ (receiveTray t s).hnd = s.hnd ∧ (receiveTray t s).dsp = s.dsp ∧
      (receiveTray t s).stc = s.stc := by
  refine ⟨?_, ?_, ?_, ?_⟩ <;> simp [receiveTray]

theorem inCell_frame (i : Nat) (t : Tray) (s : State) :
    (inCell i t s).tray =
        { s.tray with
          cells := s.tray.cells.set i (some (placedCell t s)), nextArrival := nextOrder s.tray.nextArrival } ∧
      (inCell i t s).hnd = s.hnd ∧ (inCell i t s).dsp = s.dsp ∧ (inCell i t s).stc = s.stc := receiveTray_frame _ _

theorem cellAt_inCell {i : Nat} {t : Tray} {s : State} (h : lowestFree s.tray.cells = some i) :
    (inCell i t s).cellAt i = some (placedCell t s) ∧ ∀ k, k ≠ i → (inCell i t s).cellAt k = s.cellAt k := by
  obtain ⟨htray, -⟩ := inCell_frame i t s
  refine ⟨?_, fun k hk => ?_⟩
  · rw [State.cellAt, htray]
    exact slotAt_set_same (lowestFree_lt h) _
  · rw [State.cellAt, htray]
    exact slotAt_set_of_ne hk _

end Sys2Proof.Machine
end

section

/-! ## Family "other": infeed events, settled (O30) -/

namespace Sys2Proof.Machine

/-! ### The tray that an infeed event places (R35) -/

/-- The oldest arrivals entry leaves the list. -/
def arrived (e : TrayEntry) (rest : List TrayEntry) (s : State) : State :=
  lotDepart e.tray.lot { s with hnd.trayArrivals := rest }

/-- An unannounced tray is counted, with its stray advance. -/
def strayArrived (s : State) : State := strayAdvance { s with hnd.stray := bump s.hnd.stray 1 }

theorem pairTray_of_entry {e : TrayEntry} {rest : List TrayEntry} {s : State} (h : s.hnd.trayArrivals = e :: rest) :
    pairTray s = placeTray e.tray (arrived e rest s) := by
  rw [pairTray, h]
  rfl

theorem pairTray_of_nil {s : State} (h : s.hnd.trayArrivals = []) : pairTray s = placeTray strayTray (strayArrived s) := by
  rw [pairTray, h]
  rfl

section Arrived

variable (e : TrayEntry) (rest : List TrayEntry) (s : State)

theorem arrived_frame :
    (arrived e rest s).tray = s.tray ∧ (arrived e rest s).hnd = { s.hnd with trayArrivals := rest } ∧
      (arrived e rest s).dsp = s.dsp ∧ (arrived e rest s).stc = s.stc := by
  refine ⟨?_, ?_, ?_, ?_⟩ <;> simp [arrived]

theorem arrived_spent (exposure : Nat) :
    (lotOf (arrived e rest s) e.tray.lot).any (fun l => decide (l.allowance ≤ exposure)) =
      (lotOf s e.tray.lot).any (fun l => decide (l.allowance ≤ exposure)) := by
  have h₀ : SameLots LotRec.terms s { s with hnd.trayArrivals := rest } := .of_lot rfl
  have hterms : SameLots LotRec.terms s (arrived e rest s) := h₀.trans (sameTerms_lotDepart _ _)
  exact (hterms.comp LotRec.allowance).spent e.tray.lot exposure

end Arrived

theorem exec_infeed {s : State} (hrole : s.role = .chill ∨ s.role = .dispatch)
    (hm : s.mode = .running ∨ s.mode = .held ∨ s.mode = .draining ∨ s.mode = .fault) :
    exec .infeedSensorEvent s = .next (settleSince s (pairTray s)) := by
  have htry : infeedAtTry s = settleSince s (pairTray s) := by
    rcases hm with h | h | h | h <;> simp [infeedAtTry, h]
  refine congrArg Host.Outcome.next ?_
  rw [← htry]
  rcases hrole with h | h <;> rw [infeedEvent, h]

theorem placeTray_chill {s : State} (h : s.role = .chill) (t : Tray) : placeTray t s = placeInQueue t s := if_pos h

theorem placeTray_dispatch {s : State} (h : s.role = .dispatch) (t : Tray) : placeTray t s = placeInCell t s :=
  if_neg (by rw [h]; decide)

/-! ### CHILL (R82) -/

theorem placeInQueue_of {t : Tray} {s : State} (h : s.tray.queue.length < 48) :
    (placeInQueue t s).tray = { s.tray with queue := s.tray.queue ++ [classifyTray (lotOf s t.lot) t] } ∧
      (placeInQueue t s).hnd = s.hnd ∧ (placeInQueue t s).stc = s.stc := by
  have hplace : placeInQueue t s =
      receiveTray t { s with tray.queue := s.tray.queue ++ [classifyTray (lotOf s t.lot) t] } := if_pos h
  obtain ⟨htray, hhnd, -, hstc⟩ := receiveTray_frame t
    { s with tray.queue := s.tray.queue ++ [classifyTray (lotOf s t.lot) t] }
  rw [hplace, htray, hhnd, hstc]
  exact ⟨rfl, rfl, rfl⟩

theorem infeed_chill {e : TrayEntry} {rest : List TrayEntry} {s : State} (hrole : s.role = .chill)
    (hm : s.mode = .running ∨ s.mode = .held ∨ s.mode = .draining ∨ s.mode = .fault)
    (he : s.hnd.trayArrivals = e :: rest) (hroom : s.tray.queue.length < 48) :
    ∃ t x, exec .infeedSensorEvent s = .next t ∧ t.tray = { s.tray with queue := s.tray.queue ++ [x] } ∧
      x.id = e.tray.id ∧ x.lot = e.tray.lot ∧ x.exposure = e.tray.exposure ∧ t.hnd.trayArrivals = rest ∧
      t.hnd.expected = s.hnd.expected ∧ t.hnd.room = roomOf t ∧ t.stc = s.stc := by
  obtain ⟨htray, hhnd, -, hstc⟩ := arrived_frame e rest s
  obtain ⟨hq, hh, hs⟩ := placeInQueue_of (t := e.tray) (s := arrived e rest s) (by rw [htray]; exact hroom)
  have hrole' : (arrived e rest s).role = .chill := (role_of_settings (by rw [hstc])).trans hrole
  have hexec := exec_infeed (.inl hrole) hm
  rw [pairTray_of_entry he, placeTray_chill hrole'] at hexec
  have hsettle : settleSince s (placeInQueue e.tray (arrived e rest s)) =
      settleFlow (placeInQueue e.tray (arrived e rest s)) := by
    rw [settleSince, hh, hhnd]
    exact if_pos rfl
  rw [hsettle] at hexec
  rw [htray] at hq
  refine ⟨_, classifyTray (lotOf (arrived e rest s) e.tray.lot) e.tray, hexec, (settleFlow_tray _).trans hq,
    by rw [classifyTray_eq], by rw [classifyTray_eq], by rw [classifyTray_eq], ?_, ?_, settleFlow_room _, ?_⟩
  · rw [settleFlow_hnd, hh, hhnd]
  · rw [settleFlow_hnd, hh, hhnd]
  · rw [settleFlow_stc, hs, hstc]

theorem infeed_chill_stray {s : State} (hrole : s.role = .chill)
    (hm : s.mode = .running ∨ s.mode = .held ∨ s.mode = .draining ∨ s.mode = .fault) (he : s.hnd.trayArrivals = [])
    (hroom : s.tray.queue.length < 48) :
    ∃ t x, exec .infeedSensorEvent s = .next t ∧ t.tray.queue = s.tray.queue ++ [x] ∧
      x.id = { origin := 0, seq := 0 } ∧ x.quarantine = true ∧ x.lot = none ∧
      t.hnd.stray = min 4294967295 (s.hnd.stray + 1) ∧ t.hnd.expected = s.hnd.expected + 1#16 := by
  obtain ⟨hq, hh, -⟩ := placeInQueue_of (t := strayTray) (s := strayArrived s) hroom
  have hexec := exec_infeed (.inl hrole) hm
  rw [pairTray_of_nil he, placeTray_chill (s := strayArrived s) hrole] at hexec
  refine ⟨_, _, hexec, by rw [settleSince_tray, hq]; rfl, rfl, rfl, rfl, ?_, ?_⟩
  · rw [settleSince_hnd, hh]
    rfl
  · rw [settleSince_hnd, hh]
    rfl

/-! ### DISPATCH (R85, R112) -/

/-- A placed tray in its cell after routing and the end of the step. -/
theorem infeed_cell {u s : State} {x : Tray} {i : Nat} (h : lowestFree u.tray.cells = some i) :
    ∃ c, (settleSince s (placeInCell x u)).cellAt i = some c ∧ c.arrivalTime = u.stc.clock ∧
      c.arrivalOrder = u.tray.nextArrival ∧
      c.tray = { (placedCell x u).tray with
        order := c.tray.order, route := c.tray.route, chambers := c.tray.chambers, dstate := c.tray.dstate } ∧
      (∀ k, k ≠ i → (settleSince s (placeInCell x u)).cellAt k = u.cellAt k) ∧
      (settleSince s (placeInCell x u)).tray.nextArrival = nextOrder u.tray.nextArrival ∧
      (settleSince s (placeInCell x u)).tray.lost = u.tray.lost ∧
      (settleSince s (placeInCell x u)).hnd.trayArrivals = u.hnd.trayArrivals ∧
      (settleSince s (placeInCell x u)).hnd.expected = u.hnd.expected ∧
      (settleSince s (placeInCell x u)).hnd.stray = u.hnd.stray ∧
      standbyBank (settleSince s (placeInCell x u)) = standbyBank u := by
  obtain ⟨hcell, hothers⟩ := cellAt_inCell (t := x) h
  obtain ⟨htray, hhnd, hdsp, -⟩ := inCell_frame i x u
  have hassigned := assignCell_assigned hcell
  rw [placeInCell_of h]
  obtain ⟨c, hc, htime, horder, hfields⟩ := hassigned.cell
  have hhnd' := hassigned.hnd.trans hhnd
  refine ⟨c, (cellAt_of_tray (settleSince_tray _ _) i).trans hc, htime, horder, hfields, fun k hk => ?_, ?_, ?_, ?_, ?_, ?_, ?_⟩
  · rw [cellAt_of_tray (settleSince_tray _ _), hassigned.others k hk, hothers k hk]
  · rw [settleSince_tray, hassigned.tray, htray]
  · rw [settleSince_tray, hassigned.tray, htray]
  · rw [settleSince_hnd, hhnd']
  · rw [settleSince_hnd, hhnd']
  · rw [settleSince_hnd, hhnd']
  · rw [standbyBank_of_dsp (settleSince_dsp _ _), hassigned.standby, standbyBank_of_dsp hdsp]

theorem infeed_dispatch {e : TrayEntry} {rest : List TrayEntry} {i : Nat} {s : State} (hrole : s.role = .dispatch)
    (hm : s.mode = .running ∨ s.mode = .held ∨ s.mode = .draining ∨ s.mode = .fault)
    (he : s.hnd.trayArrivals = e :: rest) (hi : lowestFree s.tray.cells = some i) :
    lowestFree (arrived e rest s).tray.cells = some i ∧
      exec .infeedSensorEvent s = .next (settleSince s (placeInCell e.tray (arrived e rest s))) := by
  obtain ⟨htray, -, -, hstc⟩ := arrived_frame e rest s
  have hrole' : (arrived e rest s).role = .dispatch := (role_of_settings (by rw [hstc])).trans hrole
  have hexec := exec_infeed (.inr hrole) hm
  rw [pairTray_of_entry he, placeTray_dispatch hrole'] at hexec
  exact ⟨by rw [htray]; exact hi, hexec⟩

/-- The tray, routed by its id, its flag and the ACTIVE bank (R112). -/
theorem infeed_routed {e : TrayEntry} {rest : List TrayEntry} {i : Nat} {s : State} (hrole : s.role = .dispatch)
    (hm : s.mode = .running ∨ s.mode = .held ∨ s.mode = .draining ∨ s.mode = .fault)
    (he : s.hnd.trayArrivals = e :: rest) (hi : lowestFree s.tray.cells = some i) :
    let flagged := e.tray.quarantine || (lotOf s e.tray.lot).any (fun l => l.allowance ≤ e.tray.exposure)
    let fits := fun (o : OrderEntry) =>
      o.state = .opened && e.tray.product = some o.product && e.tray.useBy.any (fun d => o.minUseBy ≤ d) &&
        o.assigned < o.quantity
    ∃ t, exec .infeedSensorEvent s = .next t ∧ ∃ c, t.cellAt i = some c ∧ c.tray.quarantine = flagged ∧
      standbyBank t = standbyBank s ∧
      (e.tray.id = { origin := 0, seq := 0 } →
        c.tray.order = none ∧ c.tray.route = some s.quarantineChamber ∧ c.tray.dstate = .routeHeld ∧
          activeBank t = activeBank s ∧ t.stc.latched = s.stc.latched ||| Notice.routeFailed.mask ∧
          t.dsp.unnamedTrays = min 4294967295 (s.dsp.unnamedTrays + 1)) ∧
      (e.tray.id ≠ { origin := 0, seq := 0 } →
        c.tray.dstate = .unasked ∧ t.stc = s.stc ∧ t.dsp.unnamedTrays = s.dsp.unnamedTrays ∧
          (flagged = true →
            c.tray.order = none ∧ c.tray.route = some s.quarantineChamber ∧ activeBank t = activeBank s) ∧
          (flagged = false →
            ((∀ j o, slotAt (activeBank s) j = some o → fits o = false) →
              c.tray.order = none ∧ c.tray.route = some s.stockChamber ∧ activeBank t = activeBank s) ∧
              ∀ j o, slotAt (activeBank s) j = some o → fits o = true →
                (∀ k q, slotAt (activeBank s) k = some q → k < j → fits q = false) →
                c.tray.order = some o.order ∧
                  c.tray.route = some (if o.onAlternate then o.alternate else o.primary) ∧
                  c.tray.chambers = some (o.primary, o.alternate) ∧
                  activeBank t =
                    (activeBank s).set j
                      (some { o with
                        assigned := o.assigned + 1
                        state := if o.assigned + 1 = o.quantity then .filled else .opened }))) := by
  intro flagged fits
  obtain ⟨hi', hexec⟩ := infeed_dispatch hrole hm he hi
  obtain ⟨-, -, hdsp, hstc⟩ := arrived_frame e rest s
  obtain ⟨hcell, -⟩ := cellAt_inCell (t := e.tray) hi'
  obtain ⟨-, -, hdsp', hstc'⟩ := inCell_frame i e.tray (arrived e rest s)
  have hbank : activeBank (inCell i e.tray (arrived e rest s)) = activeBank s := activeBank_of_dsp (hdsp'.trans hdsp)
  have hstcAll : (inCell i e.tray (arrived e rest s)).stc = s.stc := hstc'.trans hstc
  have hquarantine : (inCell i e.tray (arrived e rest s)).quarantineChamber = s.quarantineChamber :=
    num_of_stc hstcAll _
  have hstock : (inCell i e.tray (arrived e rest s)).stockChamber = s.stockChamber := num_of_stc hstcAll _
  have hunnamed : (inCell i e.tray (arrived e rest s)).dsp.unnamedTrays = s.dsp.unnamedTrays := by rw [hdsp', hdsp]
  have hflag : (placedCell e.tray (arrived e rest s)).tray.quarantine = flagged := by
    show (classifyTray (lotOf (arrived e rest s) e.tray.lot) e.tray).quarantine = _
    rw [classifyTray_eq]
    exact congrArg (e.tray.quarantine || ·) (arrived_spent e rest s e.tray.exposure)
  have hid : (placedCell e.tray (arrived e rest s)).tray.id = e.tray.id := by
    show (classifyTray (lotOf (arrived e rest s) e.tray.lot) e.tray).id = _
    rw [classifyTray_eq]
  have hfits (o : OrderEntry) : o.fits (placedCell e.tray (arrived e rest s)).tray = fits o := by
    show o.fits { classifyTray (lotOf (arrived e rest s) e.tray.lot) e.tray with
      order := none, route := none, grant := none, retry := 0, dstate := .unasked, chambers := none } = _
    rw [classifyTray_eq]
    rfl
  obtain ⟨c, hc, -, -, hfields, -, -, -, -, -, -, hstandby⟩ := infeed_cell (s := s) (x := e.tray) hi'
  have hcq : c.tray.quarantine = flagged := by rw [hfields]; exact hflag
  have hcell' : (assignCell i (inCell i e.tray (arrived e rest s))).cellAt i = some c := by
    rw [placeInCell_of hi', cellAt_of_tray (settleSince_tray _ _)] at hc
    exact hc
  have hplace := placeInCell_of (t := e.tray) hi'
  refine ⟨_, hexec, c, hc, hcq, hstandby.trans (standbyBank_of_dsp hdsp), fun hzero => ?_, fun hne => ?_⟩
  · obtain ⟨-, hat, hbank', hlatched, hcount⟩ := assignCell_zero hcell (hid.trans hzero)
    obtain rfl := Option.some.inj (hcell'.symm.trans hat)
    rw [hplace]
    refine ⟨rfl, congrArg some hquarantine, rfl, ?_, ?_, ?_⟩
    · rw [activeBank_of_dsp (settleSince_dsp _ _), hbank', hbank]
    · rw [settleSince_stc, hlatched, hstcAll]
    · rw [settleSince_dsp, hcount, hunnamed]
  · have hne' : (placedCell e.tray (arrived e rest s)).tray.id ≠ { origin := 0, seq := 0 } := by rw [hid]; exact hne
    have hstep := assignCell_routed hcell hne' hcell'
    rw [hstcAll, hunnamed, hbank, hquarantine, hstock, hflag] at hstep
    simp only [hfits] at hstep
    obtain ⟨⟨hstate, hstcEnd, hcountEnd⟩, hflagged, hfree⟩ := hstep
    rw [hplace, settleSince_stc, settleSince_dsp, activeBank_of_dsp (settleSince_dsp _ _)]
    exact ⟨hstate, hstcEnd, hcountEnd, hflagged, hfree⟩

theorem infeed_placed {e : TrayEntry} {rest : List TrayEntry} {i : Nat} {s : State} (hrole : s.role = .dispatch)
    (hm : s.mode = .running ∨ s.mode = .held ∨ s.mode = .draining ∨ s.mode = .fault)
    (he : s.hnd.trayArrivals = e :: rest) (hi : lowestFree s.tray.cells = some i) :
    ∃ t c, exec .infeedSensorEvent s = .next t ∧ t.cellAt i = some c ∧ c.tray.id = e.tray.id ∧
      c.tray.lot = e.tray.lot ∧ c.tray.exposure = e.tray.exposure ∧ c.arrivalTime = s.stc.clock ∧
      c.arrivalOrder = s.tray.nextArrival ∧ c.tray.grant = none ∧ c.tray.retry = 0 ∧
      t.tray.nextArrival = nextOrder s.tray.nextArrival ∧ (∀ k, k ≠ i → t.cellAt k = s.cellAt k) ∧
      t.hnd.trayArrivals = rest ∧ t.hnd.expected = s.hnd.expected := by
  obtain ⟨hi', hexec⟩ := infeed_dispatch hrole hm he hi
  obtain ⟨htray, hhnd, -, hstc⟩ := arrived_frame e rest s
  obtain ⟨c, hc, htime, horder, hfields, hothers, hnext, -, harr, hexpected, -, -⟩ := infeed_cell (s := s) (x := e.tray) hi'
  have hplaced : (placedCell e.tray (arrived e rest s)).tray =
      { classifyTray (lotOf (arrived e rest s) e.tray.lot) e.tray with
        order := none, route := none, grant := none, retry := 0, dstate := .unasked, chambers := none } := rfl
  rw [classifyTray_eq] at hplaced
  rw [hplaced] at hfields
  refine ⟨_, c, hexec, hc, by rw [hfields], by rw [hfields], by rw [hfields], by rw [htime, hstc], by rw [horder, htray],
    by rw [hfields], by rw [hfields], by rw [hnext, htray], fun k hk => ?_, by rw [harr, hhnd], by rw [hexpected, hhnd]⟩
  rw [hothers k hk, cellAt_of_tray htray]

theorem infeed_dispatch_stray {i : Nat} {s : State} (hrole : s.role = .dispatch)
    (hm : s.mode = .running ∨ s.mode = .held ∨ s.mode = .draining ∨ s.mode = .fault) (he : s.hnd.trayArrivals = [])
    (hi : lowestFree s.tray.cells = some i) :
    ∃ t, exec .infeedSensorEvent s = .next t ∧ ∃ c, t.cellAt i = some c ∧ c.tray.id = { origin := 0, seq := 0 } ∧
      c.tray.lot = none ∧ c.tray.product = none ∧ c.tray.useBy = none ∧ c.tray.rows = 1 ∧ c.tray.pots = 1 ∧
      c.tray.short = true ∧ c.tray.exposure = 0 ∧ c.tray.quarantine = true ∧ c.tray.order = none ∧
      c.tray.route = some s.quarantineChamber ∧ c.tray.dstate = .routeHeld ∧ c.arrivalTime = s.stc.clock ∧
      c.arrivalOrder = s.tray.nextArrival ∧ (∀ k, k ≠ i → t.cellAt k = s.cellAt k) ∧ t.hnd.trayArrivals = [] ∧
      t.hnd.stray = min 4294967295 (s.hnd.stray + 1) ∧ t.hnd.expected = s.hnd.expected + 1#16 ∧
      t.dsp.unnamedTrays = min 4294967295 (s.dsp.unnamedTrays + 1) ∧
      t.stc.latched = s.stc.latched ||| Notice.routeFailed.mask ∧ t.tray.lost = s.tray.lost := by
  have hi' : lowestFree (strayArrived s).tray.cells = some i := hi
  have hexec := exec_infeed (.inr hrole) hm
  rw [pairTray_of_nil he, placeTray_dispatch (s := strayArrived s) hrole] at hexec
  obtain ⟨c, hc, htime, horder, hfields, hothers, hnext, hlost, harr, hexpected, hstray, -⟩ :=
    infeed_cell (s := s) (x := strayTray) hi'
  obtain ⟨hcell, -⟩ := cellAt_inCell (t := strayTray) hi'
  obtain ⟨-, hat, -, hlatched, hcount⟩ := assignCell_zero hcell rfl
  obtain ⟨-, -, hdsp, hstc⟩ := inCell_frame i strayTray (strayArrived s)
  have hquarantine : (inCell i strayTray (strayArrived s)).quarantineChamber = s.quarantineChamber := num_of_stc hstc _
  have hrouted : c = { placedCell strayTray (strayArrived s) with
      tray := { (placedCell strayTray (strayArrived s)).tray with
        order := none, route := some s.quarantineChamber, dstate := .routeHeld } } := by
    rw [placeInCell_of hi', cellAt_of_tray (settleSince_tray _ _)] at hc
    rw [hquarantine] at hat
    exact Option.some.inj (hc.symm.trans hat)
  refine ⟨_, hexec, c, hc, ?_⟩
  rw [hlost, harr, hexpected, hstray, hrouted]
  refine ⟨rfl, rfl, rfl, rfl, rfl, rfl, rfl, rfl, rfl, rfl, rfl, rfl, rfl, rfl, fun k hk => hothers k hk, he, rfl, rfl,
    ?_, ?_, rfl⟩
  · rw [placeInCell_of hi', settleSince_dsp, hcount, hdsp]
    rfl
  · rw [placeInCell_of hi', settleSince_stc, hlatched, hstc]
    rfl

/-! ### A full store (R80) -/

theorem refuseTray_frame (s : State) :
    (refuseTray s).tray = { s.tray with lost := min 4294967295 (s.tray.lost + 1) } ∧ (refuseTray s).hnd = s.hnd ∧
      (refuseTray s).dsp = s.dsp ∧ (refuseTray s).stc.latched = s.stc.latched ||| Notice.overrun.mask ∧
      (refuseTray s).lot = s.lot := ⟨rfl, rfl, rfl, rfl, rfl⟩

theorem placeTray_of_full {s : State} (t : Tray)
    (h : s.role = .chill ∧ 48 ≤ s.tray.queue.length ∨ s.role = .dispatch ∧ lowestFree s.tray.cells = none) :
    placeTray t s = refuseTray s := by
  rcases h with ⟨hrole, hfull⟩ | ⟨hrole, hfull⟩
  · rw [placeTray_chill hrole, placeInQueue, if_neg (by rw [queueCapacity]; omega)]
  · rw [placeTray_dispatch hrole, placeInCell, hfull]

theorem infeed_full {s : State} (hm : s.mode = .running ∨ s.mode = .held ∨ s.mode = .draining ∨ s.mode = .fault)
    (h : s.role = .chill ∧ 48 ≤ s.tray.queue.length ∨ s.role = .dispatch ∧ lowestFree s.tray.cells = none) :
    ∃ t, exec .infeedSensorEvent s = .next t ∧
      t.tray = { s.tray with lost := min 4294967295 (s.tray.lost + 1) } ∧
      t.stc.latched = s.stc.latched ||| Notice.overrun.mask ∧ t.dsp = s.dsp ∧
      (∀ e rest, s.hnd.trayArrivals = e :: rest →
        t.hnd.trayArrivals = rest ∧ t.hnd.stray = s.hnd.stray ∧ t.hnd.expected = s.hnd.expected) ∧
      (s.hnd.trayArrivals = [] →
        t.hnd.trayArrivals = [] ∧ t.hnd.stray = min 4294967295 (s.hnd.stray + 1) ∧
          t.hnd.expected = s.hnd.expected + 1#16 ∧ t.lot = s.lot) := by
  have hexec := exec_infeed (h.imp And.left And.left) hm
  cases he : s.hnd.trayArrivals with
  | nil =>
    obtain ⟨htray, hhnd, hdsp, hlatched, hlot⟩ := refuseTray_frame (strayArrived s)
    rw [pairTray_of_nil he, placeTray_of_full (s := strayArrived s) strayTray h] at hexec
    refine ⟨_, hexec, ?_, ?_, ?_, fun e rest hcons => absurd hcons (by simp), fun _ => ⟨?_, ?_, ?_, ?_⟩⟩
    · rw [settleSince_tray, htray]; rfl
    · rw [settleSince_stc, hlatched]; rfl
    · rw [settleSince_dsp, hdsp]; rfl
    · rw [settleSince_hnd, hhnd]; exact he
    · rw [settleSince_hnd, hhnd]; rfl
    · rw [settleSince_hnd, hhnd]; rfl
    · rw [settleSince_lot, hlot]; rfl
  | cons e rest =>
    obtain ⟨htray', hhnd', hdsp', hstc'⟩ := arrived_frame e rest s
    obtain ⟨htray, hhnd, hdsp, hlatched, -⟩ := refuseTray_frame (arrived e rest s)
    have hfull : (arrived e rest s).role = .chill ∧ 48 ≤ (arrived e rest s).tray.queue.length ∨
        (arrived e rest s).role = .dispatch ∧ lowestFree (arrived e rest s).tray.cells = none := by
      rw [htray', role_of_settings (s := s) (by rw [hstc'])]
      exact h
    rw [pairTray_of_entry he, placeTray_of_full e.tray hfull] at hexec
    refine ⟨_, hexec, ?_, ?_, ?_, fun e' rest' hcons => ?_, fun hnil => absurd hnil (by simp)⟩
    · rw [settleSince_tray, htray, htray']
    · rw [settleSince_stc, hlatched, hstc']
    · rw [settleSince_dsp, hdsp, hdsp']
    · obtain ⟨-, rfl⟩ := List.cons.inj hcons
      rw [settleSince_hnd, hhnd, hhnd']
      exact ⟨rfl, rfl, rfl⟩

/-- Settles O30: the placing in each store and mode, and the routing of a tray that DISPATCH places. -/
theorem infeedPlacesTray : Obligations.InfeedPlacesTray := by
  refine ⟨⟨fun e rest s hrole hm he hroom => infeed_chill hrole hm he hroom,
      fun e rest i s hrole hm he hi => infeed_placed hrole hm he hi,
      fun s hrole hm he hroom => infeed_chill_stray hrole hm he hroom, fun s hrole hm => ?_⟩,
    fun e rest i s hrole hm he hi => infeed_routed hrole hm he hi,
    fun i s hrole hm he hi => infeed_dispatch_stray hrole hm he hi, fun s hm h => infeed_full hm h⟩
  have htry : infeedAtTry s = { s with tray.untracked := bump s.tray.untracked 1 } := by
    rcases hm with h | h <;> simp [infeedAtTry, h]
  refine congrArg Host.Outcome.next ?_
  rcases hrole with h | h
  · rw [infeedEvent, h]
    exact htry
  · rw [infeedEvent, h]
    exact htry

end Sys2Proof.Machine
end

section

/-! ## Family "other": a tray handed to DSP for quarantine (R102, R103, R113) -/

namespace Sys2Proof.Machine

/-! ### What taking a tray off its order leaves -/

theorem unassign_frame (o : Option Nat) (s : State) :
    unassign o s = { s with dsp := (unassign o s).dsp } ∧
      (unassign o s).dsp = { s.dsp with bank0 := (unassign o s).dsp.bank0, bank1 := (unassign o s).dsp.bank1 } ∧
      standbyBank (unassign o s) = standbyBank s := by
  unfold unassign
  split
  · exact ⟨rfl, rfl, rfl⟩
  · refine ⟨?_, ?_, standbyBank_updateEntry _ _ _⟩
    · unfold updateEntry setActive
      split <;> rfl
    · unfold updateEntry setActive
      split <;> rfl

theorem unassign_rest (o : Option Nat) (s : State) :
    { unassign o s with
      tray.cells := s.tray.cells, dsp.bank0 := s.dsp.bank0, dsp.bank1 := s.dsp.bank1, dsp.slots := s.dsp.slots } = s := by
  unfold unassign
  split
  · rfl
  · unfold updateEntry setActive
    split <;> rfl

/-! ### The hand-over of one tray (R113) -/

/-- The tray of a hand-over, off its order and routed to the quarantine chamber. -/
def Tray.toQuarantine (s : State) (t : Tray) : Tray :=
  { t with order := none, route := some s.quarantineChamber, chambers := none }

/-- The slot that a hand-over frees: that of a series whose MANIFEST went out without the flag. -/
def freedSlot (s : State) (i : Nat) (t : Tray) : Option Nat :=
  if t.dstate = .asking then (slotOfCell s i).filter (fun j => !(s.slot j).any Slot.flagged) else none

/-- The tray after a hand-over. -/
def handedTray (s : State) (i : Nat) (t : Tray) : Tray :=
  match t.dstate with
  | .releasing => t
  | .asking => if (freedSlot s i t).isSome then { t.toQuarantine s with dstate := .unasked } else t.toQuarantine s
  | .granted => if t.grant.any Grant.marked then t.toQuarantine s else (t.toQuarantine s).drop
  | _ => t.toQuarantine s

/-- What a hand-over of the tray in cell `i` does. -/
structure HandedOver (i : Nat) (c : Cell) (s t : State) : Prop where
  cell : t.cellAt i = some { c with tray := handedTray s i c.tray }
  others : ∀ k, k ≠ i → t.cellAt k = s.cellAt k
  slot : ∀ k, t.slot k = if freedSlot s i c.tray = some k then none else s.slot k
  bank : ∀ k, slotAt (activeBank t) k =
    if c.tray.dstate ≠ .releasing ∧ entryIndex s c.tray.order = some k then
      (slotAt (activeBank s) k).map (fun e => e.unassign s.stc.clock)
    else slotAt (activeBank s) k
  index : ∀ o, entryIndex t o = entryIndex s o
  standby : standbyBank t = standbyBank s
  rest : { t with
    tray.cells := s.tray.cells, dsp.bank0 := s.dsp.bank0, dsp.bank1 := s.dsp.bank1, dsp.slots := s.dsp.slots } = s

theorem updateCellTray_updateCellTray (i : Nat) (f g : Tray → Tray) (s : State) :
    updateCellTray i g (updateCellTray i f s) = updateCellTray i (fun x => g (f x)) s := by
  have hcells : modifyAt (modifyAt s.tray.cells i (Option.map (fun c => { c with tray := f c.tray }))) i
      (Option.map (fun c => { c with tray := g c.tray })) =
      modifyAt s.tray.cells i (Option.map (fun c => { c with tray := g (f c.tray) })) := by
    rw [modifyAt_eq_modify, modifyAt_eq_modify, modifyAt_eq_modify, List.modify_modify_eq]
    congr 1
    funext o
    cases o <;> rfl
  exact congrArg (fun x => { s with tray.cells := x }) hcells

section HandOver

variable {i : Nat} {c : Cell} {s : State} (h : s.cellAt i = some c)
include h

theorem handOver_releasing (hd : c.tray.dstate = .releasing) : handOver i s = s := by
  rw [handOver, h]
  simp only [hd, if_true]

/-- The order is given up and the tray changed by one function: a hand-over that frees no slot. -/
theorem handedOver_of_update (hd : c.tray.dstate ≠ .releasing) (hfree : freedSlot s i c.tray = none) {f : Tray → Tray}
    (hf : f c.tray = handedTray s i c.tray) :
    HandedOver i c s (updateCellTray i f (unassign c.tray.order s)) := by
  obtain ⟨hframe, hdsp, hstandby⟩ := unassign_frame c.tray.order s
  have hcell : (unassign c.tray.order s).cellAt i = some c := by rw [hframe]; exact h
  refine ⟨?_, fun k hk => ?_, fun k => ?_, fun k => ?_, fun o => ?_, ?_, ?_⟩
  · rw [← hf]
    exact cellAt_updateCell_same hcell (fun x => { x with tray := f x.tray })
  · refine (cellAt_updateCell_of_ne hk _ _).trans ?_
    rw [hframe]
    rfl
  · rw [hfree, if_neg (by simp)]
    show slotAt (unassign c.tray.order s).dsp.slots k = slotAt s.dsp.slots k
    rw [hdsp]
  · rw [activeBank_of_dsp (updateCellTray_dsp _ _ _), slotAt_activeBank_unassign]
    simp only [hd, ne_eq, not_false_eq_true, true_and]
  · rw [show entryIndex (updateCellTray i f (unassign c.tray.order s)) o = entryIndex (unassign c.tray.order s) o from rfl,
      entryIndex_unassign]
  · exact hstandby
  · exact unassign_rest c.tray.order s

/-- A series without the flag is abandoned: its slot is freed and the tray is UNASKED. -/
theorem handedOver_of_freed (hd : c.tray.dstate = .asking) {j : Nat} (hfree : freedSlot s i c.tray = some j) :
    HandedOver i c s
      (updateCellTray i (fun x => { x with dstate := .unasked })
        (setSlot j none (updateCellTray i (Tray.toQuarantine s) (unassign c.tray.order s)))) := by
  obtain ⟨hframe, hdsp, hstandby⟩ := unassign_frame c.tray.order s
  have hcell : (unassign c.tray.order s).cellAt i = some c := by rw [hframe]; exact h
  have hslots : (unassign c.tray.order s).dsp.slots = s.dsp.slots := by rw [hdsp]
  have hone := cellAt_updateCell_same hcell (fun x => { x with tray := Tray.toQuarantine s x.tray })
  refine ⟨?_, fun k hk => ?_, fun k => ?_, fun k => ?_, fun o => ?_, ?_, ?_⟩
  · have htray : handedTray s i c.tray = { c.tray.toQuarantine s with dstate := .unasked } := by
      rw [handedTray, hd]
      simp only [hfree, Option.isSome_some, if_true]
    rw [htray]
    exact cellAt_updateCell_same (s := setSlot j none (updateCellTray i (Tray.toQuarantine s) (unassign c.tray.order s)))
      hone (fun x => { x with tray := { x.tray with dstate := .unasked } })
  · refine (cellAt_updateCell_of_ne hk _ _).trans ((cellAt_updateCell_of_ne hk _ _).trans ?_)
    rw [hframe]
    rfl
  · show (setSlot j none (unassign c.tray.order s)).slot k = _
    rw [slot_setSlot_none, hfree]
    have hslot : (unassign c.tray.order s).slot k = s.slot k := by rw [State.slot, hslots]; rfl
    by_cases hk : k = j
    · simp [hk]
    · rw [if_neg hk, if_neg (fun hs => hk (Option.some.inj hs).symm), hslot]
  · show slotAt (activeBank (unassign c.tray.order s)) k = _
    rw [slotAt_activeBank_unassign]
    simp [hd]
  · show entryIndex (unassign c.tray.order s) o = _
    rw [entryIndex_unassign]
  · exact hstandby
  · exact unassign_rest c.tray.order s

theorem handOver_asking_none (hd : c.tray.dstate = .asking) (hj : slotOfCell s i = none) :
    handOver i s = updateCellTray i (Tray.toQuarantine s) (unassign c.tray.order s) := by
  rw [handOver, h]
  simp only [hd, hj]
  rfl

theorem handOver_asking_some (hd : c.tray.dstate = .asking) {j : Nat} (hj : slotOfCell s i = some j) :
    handOver i s =
      if (s.slot j).any Slot.flagged then updateCellTray i (Tray.toQuarantine s) (unassign c.tray.order s)
      else updateCellTray i (fun x => { x with dstate := .unasked })
        (setSlot j none (updateCellTray i (Tray.toQuarantine s) (unassign c.tray.order s))) := by
  rw [handOver, h]
  simp only [hd, hj]
  rfl

theorem handOver_granted (hd : c.tray.dstate = .granted) :
    handOver i s =
      if c.tray.grant.any Grant.marked then updateCellTray i (Tray.toQuarantine s) (unassign c.tray.order s)
      else updateCellTray i Tray.drop (updateCellTray i (Tray.toQuarantine s) (unassign c.tray.order s)) := by
  rw [handOver, h]
  simp only [hd]
  rfl

theorem handOver_other (hd : c.tray.dstate = .unasked ∨ c.tray.dstate = .routeHeld) :
    handOver i s = updateCellTray i (Tray.toQuarantine s) (unassign c.tray.order s) := by
  rw [handOver, h]
  rcases hd with hd | hd
  · simp only [hd]
    rfl
  · simp only [hd]
    rfl

theorem handedOver_handOver : HandedOver i c s (handOver i s) := by
  cases hd : c.tray.dstate with
  | unasked =>
    rw [handOver_other h (.inl hd)]
    exact handedOver_of_update h (by rw [hd]; decide) (by rw [freedSlot, hd]; rfl) (by rw [handedTray, hd])
  | routeHeld =>
    rw [handOver_other h (.inr hd)]
    exact handedOver_of_update h (by rw [hd]; decide) (by rw [freedSlot, hd]; rfl) (by rw [handedTray, hd])
  | releasing =>
    have htray : handedTray s i c.tray = c.tray := by rw [handedTray, hd]
    have hfree : freedSlot s i c.tray = none := by rw [freedSlot, hd]; rfl
    rw [handOver_releasing h hd]
    refine ⟨by rw [htray]; exact h, fun _ _ => rfl, fun k => by rw [hfree, if_neg (by simp)], fun k => ?_, fun _ => rfl,
      rfl, rfl⟩
    rw [if_neg (fun hk => hk.1 hd)]
  | granted =>
    have hfree : freedSlot s i c.tray = none := by rw [freedSlot, hd]; rfl
    rw [handOver_granted h hd]
    cases hm : c.tray.grant.any Grant.marked with
    | true =>
      rw [if_pos rfl]
      exact handedOver_of_update h (by rw [hd]; decide) hfree (by rw [handedTray, hd]; simp only [hm, if_true])
    | false =>
      rw [if_neg Bool.false_ne_true, updateCellTray_updateCellTray]
      exact handedOver_of_update h (by rw [hd]; decide) hfree
        (by rw [handedTray, hd]; simp only [hm, Bool.false_eq_true, if_false])
  | asking =>
    cases hj : slotOfCell s i with
    | none =>
      have hfree : freedSlot s i c.tray = none := by rw [freedSlot, if_pos hd, hj]; rfl
      rw [handOver_asking_none h hd hj]
      exact handedOver_of_update h (by rw [hd]; decide) hfree
        (by rw [handedTray, hd]; simp only [hfree, Option.isSome_none, Bool.false_eq_true, if_false])
    | some j =>
      rw [handOver_asking_some h hd hj]
      cases hm : (s.slot j).any Slot.flagged with
      | true =>
        have hfree : freedSlot s i c.tray = none := by
          rw [freedSlot, if_pos hd, hj, Option.filter_some]
          simp [hm]
        rw [if_pos rfl]
        exact handedOver_of_update h (by rw [hd]; decide) hfree
          (by rw [handedTray, hd]; simp only [hfree, Option.isSome_none, Bool.false_eq_true, if_false])
      | false =>
        rw [if_neg Bool.false_ne_true]
        exact handedOver_of_freed h hd (by rw [freedSlot, if_pos hd, hj, Option.filter_some]; simp [hm])

end HandOver

end Sys2Proof.Machine
end

section

/-! ## Family "other": the station second hands trays over (R97 to R102, R113, R114) -/

namespace Sys2Proof.Machine

/-! ### Several hand-overs -/

/-- A search by the held entries depends on which places hold an entry that meets it. -/
theorem findIdx?_any_congr {α : Type} {l l' : List (Option α)} {p : α → Bool}
    (h : ∀ k, (slotAt l k).any p = (slotAt l' k).any p) : l.findIdx? (fun e => e.any p) = l'.findIdx? (fun e => e.any p) := by
  have hfalse {m : List (Option α)} {k : Nat} {q : α} (hq : slotAt m k = some q) (hn : (slotAt m k).any p = false) :
      p q = false := by rwa [hq] at hn
  cases hj : l'.findIdx? (fun e => e.any p) with
  | none =>
    refine findIdx?_any_eq_none fun k o ho => hfalse ho ?_
    rw [h k]
    cases hk : slotAt l' k with
    | none => rfl
    | some q => exact Bool.eq_false_iff.2 (List.findIdx?_eq_none_iff.1 hj (some q) (mem_of_slotAt hk) ▸ Bool.false_ne_true)
  | some j =>
    obtain ⟨o, ho, hp⟩ := slotAt_of_findIdx? hj
    obtain ⟨hlt, -, hmin⟩ := List.findIdx?_eq_some_iff_getElem.1 hj
    have hat := h j
    rw [ho, Option.any_some, hp] at hat
    obtain ⟨o', ho', hp'⟩ := (Option.any_eq_true _ _).1 hat
    refine findIdx?_any_eq_some ho' hp' fun k q hq hk => hfalse hq ?_
    rw [h k, ← getElem_eq_slotAt (by omega)]
    exact Bool.eq_false_iff.2 (hmin k hk)

/-- An entry from which `n` trays have been taken, at a clock (R113). -/
def OrderEntry.unassignedBy (clock : BitVec 32) (n : Nat) (e : OrderEntry) : OrderEntry :=
  { e with
    assigned := e.assigned - n
    state := if n = 0 then e.state else if e.state = .filled then (if e.past clock then .cut else .opened) else e.state }

theorem unassignedBy_unassign (clock : BitVec 32) (n : Nat) (e : OrderEntry) :
    (e.unassign clock).unassignedBy clock n = e.unassignedBy clock (n + 1) := by
  have hsub : e.assigned - 1 - n = e.assigned - (n + 1) := by omega
  unfold OrderEntry.unassignedBy OrderEntry.unassign
  rw [hsub]
  congr 1
  by_cases hn : n = 0
  · simp [hn]
  · by_cases hf : e.state = .filled
    · cases hp : e.past clock <;> simp [hn, hf]
    · simp [hn, hf]

/-- How many trays of the cells of a list a hand-over takes from entry `k`. -/
def takenFrom (s : State) (k : Nat) (is : List Nat) : Nat :=
  (is.filter (fun i => (s.cellAt i).any (fun c =>
    c.tray.dstate ≠ .releasing && entryIndex s c.tray.order = some k))).length

/-- What the hand-over of the trays in the cells of a list does. -/
structure HandedAll (is : List Nat) (s t : State) : Prop where
  cell : ∀ i ∈ is, ∀ c, s.cellAt i = some c → t.cellAt i = some { c with tray := handedTray s i c.tray }
  others : ∀ i, i ∉ is → t.cellAt i = s.cellAt i
  freed : ∀ i ∈ is, ∀ c, s.cellAt i = some c → ∀ j, freedSlot s i c.tray = some j → t.slot j = none
  kept : ∀ j x, s.slot j = some x →
    (∀ i ∈ is, ∀ c, s.cellAt i = some c → freedSlot s i c.tray ≠ some j) → t.slot j = some x
  idle : ∀ j, s.slot j = none → t.slot j = none
  bank : ∀ k, slotAt (activeBank t) k =
    (slotAt (activeBank s) k).map (fun e => e.unassignedBy s.stc.clock (takenFrom s k is))
  standby : standbyBank t = standbyBank s
  rest : { t with
    tray.cells := s.tray.cells, dsp.bank0 := s.dsp.bank0, dsp.bank1 := s.dsp.bank1, dsp.slots := s.dsp.slots } = s

theorem HandedAll.nil (s : State) : HandedAll [] s s := by
  have hnone (i : Nat) : i ∉ [] := List.not_mem_nil
  refine ⟨fun i hi => absurd hi (hnone i), fun _ _ => rfl, fun i hi => absurd hi (hnone i), fun j x hx _ => hx,
    fun _ hj => hj, fun k => ?_, rfl, rfl⟩
  have hid : (fun e : OrderEntry => e.unassignedBy s.stc.clock (takenFrom s k [])) = id := rfl
  rw [hid, Option.map_id]
  rfl

/-- The slot of a series is for the cell the series is for. -/
theorem freedSlot_cell {s : State} {i j : Nat} {t : Tray} (h : freedSlot s i t = some j) :
    ∃ x, s.slot j = some x ∧ x.cell = i := by
  unfold freedSlot at h
  split at h
  · exact slotOfCell_eq_some (Option.eq_some_of_filter_eq_some h)
  · exact absurd h (by simp)

theorem HandedOver.stc {i : Nat} {c : Cell} {s t : State} (h : HandedOver i c s t) : t.stc = s.stc := by
  have hstc := congrArg State.stc h.rest
  exact hstc

section Other

variable {i i' : Nat} {c : Cell} {s t : State} (h : HandedOver i c s t) (hne : i' ≠ i)
include h hne

theorem HandedOver.slotOfCell_other : slotOfCell t i' = slotOfCell s i' := by
  refine findIdx?_any_congr fun k => ?_
  show (t.slot k).any _ = (s.slot k).any _
  rw [h.slot k]
  split
  · next hk =>
    obtain ⟨x, hx, hcell⟩ := freedSlot_cell hk
    rw [hx, Option.any_none, Option.any_some]
    exact (decide_eq_false (by rw [hcell]; exact hne.symm)).symm
  · rfl

theorem HandedOver.slot_other {j : Nat} (hj : slotOfCell s i' = some j) : t.slot j = s.slot j := by
  rw [h.slot j]
  refine if_neg fun hk => ?_
  obtain ⟨x, hx, hcell⟩ := freedSlot_cell hk
  obtain ⟨x', hx', hcell'⟩ := slotOfCell_eq_some hj
  obtain rfl := Option.some.inj (hx.symm.trans hx')
  exact hne (hcell'.symm.trans hcell)

theorem HandedOver.freedSlot_other (x : Tray) : freedSlot t i' x = freedSlot s i' x := by
  unfold freedSlot
  rw [h.slotOfCell_other hne]
  cases hj : slotOfCell s i' with
  | none => rfl
  | some j => rw [Option.filter_some, Option.filter_some, h.slot_other hne hj]

theorem HandedOver.handedTray_other (x : Tray) : handedTray t i' x = handedTray s i' x := by
  have hq : Tray.toQuarantine t x = Tray.toQuarantine s x := by
    have hroute : t.quarantineChamber = s.quarantineChamber := num_of_stc h.stc _
    rw [Tray.toQuarantine, Tray.toQuarantine, hroute]
  unfold handedTray
  rw [h.freedSlot_other hne, hq]

end Other

/-- One hand-over and then those of a list that does not hold its cell. -/
theorem HandedAll.cons {i : Nat} {is : List Nat} {c : Cell} {s u t : State} (hc : s.cellAt i = some c)
    (hu : HandedOver i c s u) (ht : HandedAll is u t) (hi : i ∉ is) : HandedAll (i :: is) s t := by
  have hne {k : Nat} (hk : k ∈ is) : k ≠ i := fun h => hi (h ▸ hk)
  have hclock : u.stc.clock = s.stc.clock := by rw [hu.stc]
  have hcount (k : Nat) : takenFrom u k is = takenFrom s k is := by
    unfold takenFrom
    refine congrArg List.length (List.filter_congr fun a ha => ?_)
    rw [hu.others a (hne ha)]
    simp only [hu.index]
  have hhead (k : Nat) : takenFrom s k (i :: is) =
      takenFrom s k is + if c.tray.dstate ≠ .releasing ∧ entryIndex s c.tray.order = some k then 1 else 0 := by
    unfold takenFrom
    rw [List.filter_cons, hc, Option.any_some]
    by_cases hk : c.tray.dstate ≠ .releasing ∧ entryIndex s c.tray.order = some k
    · rw [if_pos hk, if_pos (by simpa using hk), List.length_cons]
    · rw [if_neg hk, if_neg (by simpa using hk), Nat.add_zero]
  refine ⟨fun k hk d hd => ?_, fun k hk => ?_, fun k hk d hd j hj => ?_, fun j x hx hall => ?_, fun j hj => ?_,
    fun k => ?_, ?_, ?_⟩
  · rcases List.mem_cons.1 hk with rfl | hk
    · obtain rfl := Option.some.inj (hc.symm.trans hd)
      rw [ht.others k hi, hu.cell]
    · rw [ht.cell k hk d (by rw [hu.others k (hne hk), hd]), hu.handedTray_other (hne hk)]
  · rw [ht.others k (fun h => hk (List.mem_cons_of_mem _ h)), hu.others k (fun h => hk (h ▸ List.mem_cons_self ..))]
  · rcases List.mem_cons.1 hk with rfl | hk
    · obtain rfl := Option.some.inj (hc.symm.trans hd)
      exact ht.idle j (by rw [hu.slot j, if_pos hj])
    · exact ht.freed k hk d (by rw [hu.others k (hne hk), hd]) j (by rw [hu.freedSlot_other (hne hk)]; exact hj)
  · refine ht.kept j x ?_ fun k hk d hd => ?_
    · rw [hu.slot j, if_neg (hall i (List.mem_cons_self ..) c hc), hx]
    · rw [hu.freedSlot_other (hne hk)]
      rw [hu.others k (hne hk)] at hd
      exact hall k (List.mem_cons_of_mem _ hk) d hd
  · refine ht.idle j ?_
    rw [hu.slot j]
    split
    · rfl
    · exact hj
  · rw [ht.bank k, hu.bank k, hclock, hcount, hhead]
    split
    · rw [Option.map_map]
      congr 1
      funext e
      exact unassignedBy_unassign _ _ _
    · rfl
  · exact ht.standby.trans hu.standby
  · have hlast := congrArg (fun v : State => { v with
      tray.cells := s.tray.cells, dsp.bank0 := s.dsp.bank0, dsp.bank1 := s.dsp.bank1, dsp.slots := s.dsp.slots }) ht.rest
    exact hlast.trans hu.rest

theorem handedAll_handOverAll {is : List Nat} {s : State} (hnodup : is.Nodup) (hcells : ∀ i ∈ is, ∃ c, s.cellAt i = some c) :
    HandedAll is s (handOverAll is s) := by
  induction is generalizing s with
  | nil => exact .nil s
  | cons i is ih =>
    obtain ⟨hi, hnodup'⟩ := List.nodup_cons.1 hnodup
    obtain ⟨c, hc⟩ := hcells i (List.mem_cons_self ..)
    have hu := handedOver_handOver hc
    refine HandedAll.cons hc hu (ih hnodup' fun k hk => ?_) hi
    rw [hu.others k (fun h => hi (h ▸ hk))]
    exact hcells k (List.mem_cons_of_mem _ hk)

end Sys2Proof.Machine
end

section

/-! ## Family "other": the station second, settled (O32) -/

namespace Sys2Proof.Machine

/-! ### Accrual (R97 to R102) -/

theorem accrueTray_eq (s : State) (t : Tray) :
    accrueTray s t = { t with
      exposure := accrued s t.lot t.exposure
      urgency := (accrueTray s t).urgency
      quarantine := t.quarantine || (lotOf s t.lot).any (fun l => l.allowance ≤ accrued s t.lot t.exposure) } := by
  unfold accrueTray accrued
  cases h : lotOf s t.lot with
  | none => simp
  | some l =>
    simp only
    rw [classifyTray_eq]
    rfl

theorem accrueRow_parts (s : State) (before : Bool) (b : RowBody) :
    (accrueRow s before b).lot = b.lot ∧ (accrueRow s before b).exposure = accrued s b.lot b.exposure := by
  unfold accrueRow accrued
  cases h : lotOf s b.lot with
  | none => exact ⟨rfl, rfl⟩
  | some l =>
    simp only
    rw [classifyRow_eq]
    exact ⟨rfl, rfl⟩

/-- The state of a station second when the blocks do their work. -/
def ticked (s : State) : State :=
  timeTo s.stc.secondAt { s with stc.clock := s.stc.clock + 1#32, stc.secondAt := s.stc.secondAt + 1000 }

/-- The state in which EXP has accrued every store. -/
def accruedState (s : State) : State :=
  { accrueStores (ticked s) with
    exp.fallbackSeconds := if s.exp.probe = .failed then bump s.exp.fallbackSeconds 1 else s.exp.fallbackSeconds }

/-- The cells whose tray gains the quarantine flag at the second. -/
def gaining (s : State) : List Nat := newlyFlagged s.tray.cells (accruedState s).tray.cells

theorem secondStep_of_lots {s : State} (h : s.role.holdsLots = true) :
    secondStep s = cutOffSecond (handOverAll (gaining s) (accruedState s)) := by
  have hexp : exposureSecond (ticked s) = handOverAll (gaining s) (accruedState s) := by
    have hlots : (ticked s).role.holdsLots = true := h
    unfold exposureSecond
    rw [if_pos hlots]
    rfl
  exact congrArg cutOffSecond hexp

theorem cellAt_accruedState (s : State) (i : Nat) :
    (accruedState s).cellAt i = (s.cellAt i).map (fun c => { c with tray := accrueTray (ticked s) c.tray }) :=
  slotAt_map s.tray.cells _ i

theorem gaining_nodup (s : State) : (gaining s).Nodup := List.nodup_range.filter _

/-- Whether the tray in a cell gains the quarantine flag at the second. -/
def Cell.gains (s : State) (c : Cell) : Bool :=
  !c.tray.quarantine && (lotOf s c.tray.lot).any (fun l => l.allowance ≤ accrued s c.tray.lot c.tray.exposure)

theorem accrueTray_ticked (s : State) (t : Tray) :
    accrueTray (ticked s) t = { t with
      exposure := accrued s t.lot t.exposure
      urgency := (accrueTray (ticked s) t).urgency
      quarantine := t.quarantine || (lotOf s t.lot).any (fun l => l.allowance ≤ accrued s t.lot t.exposure) } :=
  accrueTray_eq (ticked s) t

theorem mem_gaining {s : State} {i : Nat} : i ∈ gaining s ↔ ∃ c, s.cellAt i = some c ∧ c.gains s = true := by
  have hold (k : Nat) : slotAt s.tray.cells k = s.cellAt k := rfl
  have hnew (k : Nat) : slotAt (accruedState s).tray.cells k =
      (s.cellAt k).map (fun c => { c with tray := accrueTray (ticked s) c.tray }) := cellAt_accruedState s k
  have hlen : (accruedState s).tray.cells.length = s.tray.cells.length := List.length_map ..
  unfold gaining newlyFlagged
  rw [List.mem_filter, List.mem_range, hlen, hnew, hold]
  cases hc : s.cellAt i with
  | none => simp
  | some c =>
    have hlt : i < s.tray.cells.length := lt_length_of_slotAt hc
    have hflag : (accrueTray (ticked s) c.tray).quarantine =
        (c.tray.quarantine || (lotOf s c.tray.lot).any (fun l => l.allowance ≤ accrued s c.tray.lot c.tray.exposure)) := by
      rw [accrueTray_ticked]
    simp only [hlt, true_and, Option.map_some, Option.any_some, hflag]
    constructor
    · intro h
      refine ⟨c, rfl, ?_⟩
      rw [Cell.gains]
      cases hq : c.tray.quarantine with
      | true => rw [hq] at h; simp at h
      | false => rw [hq] at h; simpa using h
    · rintro ⟨d, hd, hg⟩
      obtain rfl := Option.some.inj hd
      rw [Cell.gains] at hg
      obtain ⟨hq, hany⟩ := Bool.and_eq_true_iff.1 hg
      rw [hany, hq, Bool.or_true]
      rfl

theorem gaining_cells (s : State) : ∀ i ∈ gaining s, ∃ c, (accruedState s).cellAt i = some c := by
  intro i hi
  obtain ⟨c, hc, -⟩ := mem_gaining.1 hi
  exact ⟨_, by rw [cellAt_accruedState, hc]; rfl⟩

theorem handedAll_gaining (s : State) :
    HandedAll (gaining s) (accruedState s) (handOverAll (gaining s) (accruedState s)) :=
  handedAll_handOverAll (gaining_nodup s) (gaining_cells s)

/-! ### The cut-off (R114) -/

theorem cutOffSecond_frame (s : State) :
    (cutOffSecond s).tray = s.tray ∧ (cutOffSecond s).stc = s.stc ∧ (cutOffSecond s).dsp.slots = s.dsp.slots ∧
      standbyBank (cutOffSecond s) = standbyBank s ∧
      { cutOffSecond s with dsp.bank0 := s.dsp.bank0, dsp.bank1 := s.dsp.bank1 } = s := by
  unfold cutOffSecond
  split
  · unfold setActive standbyBank
    cases hs : s.dsp.swap
    · refine ⟨rfl, rfl, rfl, ?_, rfl⟩
      simp [hs]
    · refine ⟨rfl, rfl, rfl, ?_, rfl⟩
      simp [hs]
  · exact ⟨rfl, rfl, rfl, rfl, rfl⟩

theorem slotAt_cutOffSecond {s : State} (h : s.role = .dispatch) (j : Nat) :
    slotAt (activeBank (cutOffSecond s)) j = (slotAt (activeBank s) j).map (fun e => e.cutOffAt s.stc.clock) := by
  unfold cutOffSecond
  rw [if_pos h, activeBank_setActive]
  exact slotAt_map _ _ j

/-! ### The first part of O32: every store accrues -/

section Second

variable {s : State} (h : s.role.holdsLots = true)
include h

/-- The stores a station second leaves, but for the cells and the ACTIVE bank, are those EXP accrued. -/
theorem secondStep_rest :
    { secondStep s with
      tray.cells := (accruedState s).tray.cells, dsp.bank0 := s.dsp.bank0, dsp.bank1 := s.dsp.bank1,
      dsp.slots := s.dsp.slots } = accruedState s := by
  have hall := (handedAll_gaining s).rest
  obtain ⟨-, -, -, -, hcut⟩ := cutOffSecond_frame (handOverAll (gaining s) (accruedState s))
  rw [secondStep_of_lots h]
  have hcut' := congrArg (fun v : State => { v with
    tray.cells := (accruedState s).tray.cells, dsp.bank0 := s.dsp.bank0, dsp.bank1 := s.dsp.bank1,
    dsp.slots := s.dsp.slots }) hcut
  exact hcut'.trans hall

theorem secondStep_cell {i : Nat} {c : Cell} (hc : s.cellAt i = some c) :
    (secondStep s).cellAt i =
      some { c with tray := (if c.gains s then handedTray (accruedState s) i (accrueTray (ticked s) c.tray)
        else accrueTray (ticked s) c.tray) } := by
  have hall := handedAll_gaining s
  obtain ⟨htray, -, -, -, -⟩ := cutOffSecond_frame (handOverAll (gaining s) (accruedState s))
  have hc' : (accruedState s).cellAt i = some { c with tray := accrueTray (ticked s) c.tray } := by
    rw [cellAt_accruedState, hc]
    rfl
  rw [secondStep_of_lots h, cellAt_of_tray htray]
  cases hg : c.gains s with
  | true => exact hall.cell i (mem_gaining.2 ⟨c, hc, hg⟩) _ hc'
  | false =>
    refine (hall.others i fun hmem => ?_).trans hc'
    obtain ⟨d, hd, hgd⟩ := mem_gaining.1 hmem
    obtain rfl := Option.some.inj (hc.symm.trans hd)
    exact absurd (hg.symm.trans hgd) (by decide)

end Second

/-- A hand-over keeps the tray's id, exposure, retry status and flag. -/
theorem handedTray_keeps (s : State) (i : Nat) (t : Tray) :
    (handedTray s i t).id = t.id ∧ (handedTray s i t).exposure = t.exposure ∧ (handedTray s i t).retry = t.retry ∧
      (handedTray s i t).quarantine = t.quarantine := by
  unfold handedTray
  split
  · exact ⟨rfl, rfl, rfl, rfl⟩
  · split <;> exact ⟨rfl, rfl, rfl, rfl⟩
  · split <;> exact ⟨rfl, rfl, rfl, rfl⟩
  · exact ⟨rfl, rfl, rfl, rfl⟩

theorem slotAt_accrueWindow (s : State) (p : Nat) :
    slotAt (accrueWindow s) p = (slotAt s.idx.window p).map (fun r =>
      { r with body := accrueRow s (p < s.gatePos) r.body }) :=
  slotAt_mapIdx s.idx.window (fun p r => Row.mk r.number (accrueRow s (decide (p < s.gatePos)) r.body)) p

end Sys2Proof.Machine
end

section

/-! ## Family "other": the forms of O32 -/

namespace Sys2Proof.Machine

/-- Every store of a role that holds lots accrues; what EXP does not hold stays. -/
theorem second_accrues {s : State} (h : s.role.holdsLots = true) :
    ∃ t, exec .stationSecond s = .next t ∧ t.stc.clock = s.stc.clock + 1#32 ∧
      t.stc.secondAt = s.stc.secondAt + 1000 ∧ t.nowMs = max s.nowMs s.stc.secondAt ∧ t.stc.mode = s.stc.mode ∧
      t.stc.latched = s.stc.latched ∧
      (∀ p r, s.rowAt p = some r →
        ∃ q, t.rowAt p = some q ∧ q.number = r.number ∧ q.body.lot = r.body.lot ∧
          q.body.exposure = accrued s r.body.lot r.body.exposure) ∧
      t.hnd.rowArrivals.map (fun e => (e.seq, e.body.exposure)) =
        s.hnd.rowArrivals.map (fun e => (e.seq, accrued s e.body.lot e.body.exposure)) ∧
      t.hnd.trayArrivals.map (fun e => (e.seq, e.tray.exposure)) =
        s.hnd.trayArrivals.map (fun e => (e.seq, accrued s e.tray.lot e.tray.exposure)) ∧
      t.tray.forming.map (fun f => f.tray.exposure) =
        s.tray.forming.map (fun f => accrued s f.tray.lot f.tray.exposure) ∧
      t.tray.formed.map (fun x => (x.id, x.exposure)) = s.tray.formed.map (fun x => (x.id, accrued s x.lot x.exposure)) ∧
      t.tray.queue.map (fun x => (x.id, x.exposure)) = s.tray.queue.map (fun x => (x.id, accrued s x.lot x.exposure)) ∧
      (∀ i c, s.cellAt i = some c →
        ∃ d, t.cellAt i = some d ∧ d.tray.id = c.tray.id ∧ d.tray.exposure = accrued s c.tray.lot c.tray.exposure) ∧
      t.exp.fallbackSeconds =
        (if s.exp.probe = .failed then min 4294967295 (s.exp.fallbackSeconds + 1) else s.exp.fallbackSeconds) ∧
      t.hnd.expected = s.hnd.expected ∧ t.lid = s.lid ∧ t.lot = s.lot ∧ t.lnk = s.lnk ∧ t.adm = s.adm ∧ t.trc = s.trc := by
  have hrest := secondStep_rest h
  have hstc : (secondStep s).stc = (accruedState s).stc := by have h := congrArg State.stc hrest; exact h
  have hnow : (secondStep s).nowMs = (accruedState s).nowMs := by have h := congrArg State.nowMs hrest; exact h
  have hidx : (secondStep s).idx = (accruedState s).idx := by have h := congrArg State.idx hrest; exact h
  have hhnd : (secondStep s).hnd = (accruedState s).hnd := by have h := congrArg State.hnd hrest; exact h
  have hforming : (secondStep s).tray.forming = (accruedState s).tray.forming := by
    have h := congrArg (fun v : State => v.tray.forming) hrest; exact h
  have hformed : (secondStep s).tray.formed = (accruedState s).tray.formed := by
    have h := congrArg (fun v : State => v.tray.formed) hrest; exact h
  have hqueue : (secondStep s).tray.queue = (accruedState s).tray.queue := by
    have h := congrArg (fun v : State => v.tray.queue) hrest; exact h
  have htray (x : Tray) : (accrueTray (ticked s) x).id = x.id ∧
      (accrueTray (ticked s) x).exposure = accrued s x.lot x.exposure := by
    rw [accrueTray_ticked]
    exact ⟨rfl, rfl⟩
  refine ⟨_, rfl, by rw [hstc]; rfl, by rw [hstc]; rfl, by rw [hnow]; rfl, by rw [hstc]; rfl, by rw [hstc]; rfl,
    fun p r hr => ?_, ?_, ?_, ?_, ?_, ?_, fun i c hc => ?_, ?_, by rw [hhnd]; rfl, ?_, ?_, ?_, ?_, ?_⟩
  · have hrow : (secondStep s).rowAt p = (s.rowAt p).map (fun r =>
        { r with body := accrueRow (ticked s) (p < (ticked s).gatePos) r.body }) := by
      rw [rowAt_of_window (congrArg Idx.window hidx)]
      exact slotAt_accrueWindow (ticked s) p
    rw [hr] at hrow
    obtain ⟨hlot, hexp⟩ := accrueRow_parts (ticked s) (p < (ticked s).gatePos) r.body
    exact ⟨_, hrow, rfl, hlot, hexp⟩
  · rw [hhnd]
    refine List.map_map.trans (List.map_congr_left fun e _ => ?_)
    exact congrArg (Prod.mk e.seq) (accrueRow_parts (ticked s) true e.body).2
  · rw [hhnd]
    refine List.map_map.trans (List.map_congr_left fun e _ => ?_)
    exact congrArg (Prod.mk e.seq) (htray e.tray).2
  · rw [hforming]
    show (s.tray.forming.map (fun f => { f with tray := accrueTray (ticked s) f.tray })).map _ = _
    rw [Option.map_map]
    cases s.tray.forming with
    | none => rfl
    | some f => exact congrArg some (htray f.tray).2
  · rw [hformed]
    refine List.map_map.trans (List.map_congr_left fun x _ => ?_)
    exact Prod.ext (htray x).1 (htray x).2
  · rw [hqueue]
    refine List.map_map.trans (List.map_congr_left fun x _ => ?_)
    exact Prod.ext (htray x).1 (htray x).2
  · refine ⟨_, secondStep_cell h hc, ?_⟩
    obtain ⟨hid, hexp, -, -⟩ := handedTray_keeps (accruedState s) i (accrueTray (ticked s) c.tray)
    obtain ⟨hid', hexp'⟩ := htray c.tray
    cases c.gains s with
    | true => exact ⟨hid.trans hid', hexp.trans hexp'⟩
    | false => exact ⟨hid', hexp'⟩
  · have hexp : (secondStep s).exp = (accruedState s).exp := by have h := congrArg State.exp hrest; exact h
    rw [hexp]
    rfl
  · have h := congrArg State.lid hrest; exact h
  · have h := congrArg State.lot hrest; exact h
  · have h := congrArg State.lnk hrest; exact h
  · have h := congrArg State.adm hrest; exact h
  · have h := congrArg State.trc hrest; exact h

/-! ### DISPATCH: the hand-over and the cut-off -/

/-- An entry at the end of the second: the trays taken from it, and then its cut-off (R113, R114). -/
theorem cutOffAt_unassignedBy (clock : BitVec 32) (n : Nat) (e : OrderEntry) :
    (e.unassignedBy clock n).cutOffAt clock = { e with
      assigned := e.assigned - n
      state :=
        if e.state = .filled ∧ n = 0 ∨ e.state = .cut then e.state
        else if e.cutOff.toNat ≤ clock.toNat then .cut else .opened } := by
  have hpast : e.past clock = decide (e.cutOff.toNat ≤ clock.toNat) := rfl
  by_cases hn : n = 0
  · cases hs : e.state <;> by_cases hp : e.cutOff.toNat ≤ clock.toNat <;>
      simp [OrderEntry.unassignedBy, OrderEntry.cutOffAt, OrderEntry.past, hn, hs, hp]
  · cases hs : e.state <;> by_cases hp : e.cutOff.toNat ≤ clock.toNat <;>
      simp [OrderEntry.unassignedBy, OrderEntry.cutOffAt, OrderEntry.past, hn, hs, hp]

/-- The trays counted over a list of places are those counted over the table. -/
theorem length_filter_range_slotAt {α : Type} (l : List (Option α)) (p : α → Bool) :
    ((List.range l.length).filter (fun i => (slotAt l i).any p)).length = (l.filter (fun o => o.any p)).length := by
  conv_rhs => rw [← map_slotAt_range l, List.filter_map, List.length_map]
  rfl

/-- The trays that a second takes from an entry. -/
theorem takenFrom_gaining (s : State) (k : Nat) :
    takenFrom (accruedState s) k (gaining s) =
      (s.tray.cells.filter (fun b => b.any (fun c =>
        c.gains s && c.tray.dstate ≠ .releasing && entryIndex s c.tray.order = some k))).length := by
  rw [← length_filter_range_slotAt, takenFrom, gaining, newlyFlagged, List.filter_filter,
    show (accruedState s).tray.cells.length = s.tray.cells.length from List.length_map ..]
  refine congrArg List.length (List.filter_congr fun i hi => ?_)
  have hlt := List.mem_range.1 hi
  have hmem : i ∈ gaining s ↔ _ := mem_gaining
  have hgain : ((slotAt (accruedState s).tray.cells i).any (fun c => c.tray.quarantine) &&
      !(slotAt s.tray.cells i).any (fun c => c.tray.quarantine)) = (slotAt s.tray.cells i).any (fun c => c.gains s) := by
    rw [Bool.eq_iff_iff, Option.any_eq_true]
    refine Iff.trans ?_ (hmem.trans Iff.rfl)
    rw [gaining, newlyFlagged, List.mem_filter, List.mem_range,
      show (accruedState s).tray.cells.length = s.tray.cells.length from List.length_map ..]
    exact ⟨fun h => ⟨hlt, h⟩, And.right⟩
  rw [hgain, cellAt_accruedState]
  have horder (c : Cell) : (accrueTray (ticked s) c.tray).order = c.tray.order ∧
      (accrueTray (ticked s) c.tray).dstate = c.tray.dstate := by
    rw [accrueTray_ticked]
    exact ⟨rfl, rfl⟩
  rw [show slotAt s.tray.cells i = s.cellAt i from rfl]
  cases hc : s.cellAt i with
  | none => rfl
  | some c =>
    rw [Option.map_some, Option.any_some, Option.any_some, Option.any_some, (horder c).1, (horder c).2]
    rw [show entryIndex (accruedState s) c.tray.order = entryIndex s c.tray.order from rfl, Bool.and_comm, Bool.and_assoc]

/-- The fields of a handed-over tray, by its state before. -/
theorem handedTray_parts (s : State) (i : Nat) {t : Tray} (h : t.dstate ≠ .releasing) :
    (handedTray s i t).order = none ∧ (handedTray s i t).route = some s.quarantineChamber ∧
      (handedTray s i t).chambers = none ∧
      (t.dstate = .unasked ∨ t.dstate = .routeHeld →
        (handedTray s i t).dstate = t.dstate ∧ (handedTray s i t).grant = t.grant) ∧
      (t.dstate = .granted →
        (t.grant.any Grant.marked = true → (handedTray s i t).dstate = .granted ∧ (handedTray s i t).grant = t.grant) ∧
          (t.grant.any Grant.marked = false → (handedTray s i t).dstate = .unasked ∧ (handedTray s i t).grant = none)) ∧
      (t.dstate = .asking →
        (handedTray s i t).dstate = if (freedSlot s i t).isSome then .unasked else .asking) := by
  unfold handedTray
  cases hd : t.dstate with
  | unasked =>
    exact ⟨rfl, rfl, rfl, fun _ => ⟨hd, rfl⟩, fun hg => absurd hg (by decide), fun ha => absurd ha (by decide)⟩
  | routeHeld =>
    exact ⟨rfl, rfl, rfl, fun _ => ⟨hd, rfl⟩, fun hg => absurd hg (by decide), fun ha => absurd ha (by decide)⟩
  | releasing => exact absurd hd h
  | granted =>
    simp only
    split
    · next hm =>
      exact ⟨rfl, rfl, rfl, fun hu => absurd hu (by decide), fun _ => ⟨fun _ => ⟨hd, rfl⟩, fun hn => by simp [hm] at hn⟩,
        fun ha => absurd ha (by decide)⟩
    · next hm =>
      exact ⟨rfl, rfl, rfl, fun hu => absurd hu (by decide), fun _ => ⟨fun hn => absurd hn hm, fun _ => ⟨rfl, rfl⟩⟩,
        fun ha => absurd ha (by decide)⟩
  | asking =>
    simp only
    split
    · exact ⟨rfl, rfl, rfl, fun hu => absurd hu (by decide), fun hg => absurd hg (by decide), fun _ => rfl⟩
    · exact ⟨rfl, rfl, rfl, fun hu => absurd hu (by decide), fun hg => absurd hg (by decide), fun _ => hd⟩

theorem second_hands_over {s : State} (hrole : s.role = .dispatch) :
    let now := s.stc.clock + 1#32
    let gains := fun (c : Cell) => !c.tray.quarantine &&
      (lotOf s c.tray.lot).any (fun l => l.allowance ≤ accrued s c.tray.lot c.tray.exposure)
    let taken := fun (j : Nat) =>
      (s.tray.cells.filter (fun b => b.any (fun c =>
        gains c && c.tray.dstate ≠ .releasing && entryIndex s c.tray.order = some j))).length
    ∃ t, exec .stationSecond s = .next t ∧ standbyBank t = standbyBank s ∧ t.dsp.swap = s.dsp.swap ∧
      t.dsp.release = s.dsp.release ∧
      (∀ j, (slotAt (activeBank t) j).isSome = (slotAt (activeBank s) j).isSome) ∧
      (∀ j o, slotAt (activeBank s) j = some o →
        slotAt (activeBank t) j =
          some { o with
            assigned := o.assigned - taken j
            state :=
              if o.state = .filled ∧ taken j = 0 ∨ o.state = .cut then o.state
              else if o.cutOff.toNat ≤ now.toNat then .cut else .opened }) ∧
      ∀ i c, s.cellAt i = some c → ∃ d, t.cellAt i = some d ∧ d.arrivalTime = c.arrivalTime ∧
        d.arrivalOrder = c.arrivalOrder ∧ d.tray.retry = c.tray.retry ∧
        d.tray.quarantine = (c.tray.quarantine || gains c) ∧
        (gains c = false ∨ c.tray.dstate = .releasing →
          d.tray.order = c.tray.order ∧ d.tray.route = c.tray.route ∧ d.tray.chambers = c.tray.chambers ∧
            d.tray.dstate = c.tray.dstate ∧ d.tray.grant = c.tray.grant ∧
            ∀ j x, s.slot j = some x → x.cell = i → t.slot j = some x) ∧
        (gains c = true → c.tray.dstate ≠ .releasing →
          d.tray.order = none ∧ d.tray.route = some s.quarantineChamber ∧ d.tray.chambers = none ∧
            (c.tray.dstate = .unasked ∨ c.tray.dstate = .routeHeld →
              d.tray.dstate = c.tray.dstate ∧ d.tray.grant = c.tray.grant) ∧
            (c.tray.dstate = .granted →
              (c.tray.grant.any Grant.marked = true → d.tray.dstate = .granted ∧ d.tray.grant = c.tray.grant) ∧
                (c.tray.grant.any Grant.marked = false → d.tray.dstate = .unasked ∧ d.tray.grant = none)) ∧
            (c.tray.dstate = .asking → ∀ j, slotOfCell s i = some j → ∀ x, s.slot j = some x →
              (x.flagged = true → d.tray.dstate = .asking ∧ t.slot j = some x) ∧
                (x.flagged = false → d.tray.dstate = .unasked ∧ t.slot j = none))) := by
  intro now gains taken
  have hlots : s.role.holdsLots = true := by rw [hrole]; rfl
  have hstep := secondStep_of_lots hlots
  have hall := handedAll_gaining s
  obtain ⟨htray, hstc, hslots, hstandby, -⟩ := cutOffSecond_frame (handOverAll (gaining s) (accruedState s))
  have hrest := secondStep_rest hlots
  have hgains (c : Cell) : c.gains s = gains c := rfl
  have hhandedStc : (handOverAll (gaining s) (accruedState s)).stc = (accruedState s).stc := by
    have h := congrArg State.stc hall.rest; exact h
  have hhandedRole : (handOverAll (gaining s) (accruedState s)).role = .dispatch :=
    (role_of_settings (s := s) (by rw [hhandedStc]; rfl)).trans hrole
  have hbank (j : Nat) : slotAt (activeBank (secondStep s)) j =
      (slotAt (activeBank s) j).map (fun e => (e.unassignedBy now (taken j)).cutOffAt now) := by
    rw [hstep, slotAt_cutOffSecond hhandedRole, hall.bank, takenFrom_gaining, hhandedStc, Option.map_map]
    rfl
  have hslot (j : Nat) : (secondStep s).slot j = (handOverAll (gaining s) (accruedState s)).slot j := by
    rw [hstep, State.slot, hslots]
    rfl
  refine ⟨_, rfl, ?_, ?_, ?_, fun j => ?_, fun j o ho => ?_, fun i c hc => ?_⟩
  · rw [hstep, hstandby, hall.standby]
    rfl
  · have h := congrArg (fun v : State => v.dsp.swap) hrest; exact h
  · have h := congrArg (fun v : State => v.dsp.release) hrest; exact h
  · rw [hbank, Option.isSome_map]
  · rw [hbank, ho, Option.map_some, cutOffAt_unassignedBy]
  · have hkept : (c.gains s = false ∨ c.tray.dstate = .releasing) → ∀ j x, s.slot j = some x → x.cell = i →
        (secondStep s).slot j = some x := by
      intro hg j x hx hcell
      rw [hslot]
      refine hall.kept j x hx fun k hk d hd hfree => ?_
      obtain ⟨y, hy, hycell⟩ := freedSlot_cell hfree
      obtain rfl := Option.some.inj (hx.symm.trans hy)
      obtain rfl : i = k := hcell.symm.trans hycell
      obtain ⟨c', hc', hg'⟩ := mem_gaining.1 hk
      obtain rfl := Option.some.inj (hc.symm.trans hc')
      rcases hg with hg | hrel
      · exact absurd (hg.symm.trans hg') (by decide)
      · rw [cellAt_accruedState, hc] at hd
        obtain rfl := Option.some.inj hd
        have hstate : (accrueTray (ticked s) c.tray).dstate = .releasing := by rw [accrueTray_ticked]; exact hrel
        rw [freedSlot, if_neg (by rw [hstate]; decide)] at hfree
        exact absurd hfree (by simp)
    have hcell := secondStep_cell hlots hc
    obtain ⟨-, -, hretry, hquarantine⟩ := handedTray_keeps (accruedState s) i (accrueTray (ticked s) c.tray)
    have hacc := accrueTray_ticked s c.tray
    have hflag : (accrueTray (ticked s) c.tray).quarantine = (c.tray.quarantine || gains c) := by
      rw [hacc]
      show (c.tray.quarantine || _) = (c.tray.quarantine || (!c.tray.quarantine && _))
      cases c.tray.quarantine <;> rfl
    generalize hx : accrueTray (ticked s) c.tray = x at *
    have horder : x.order = c.tray.order ∧ x.route = c.tray.route ∧ x.chambers = c.tray.chambers ∧
        x.dstate = c.tray.dstate ∧ x.grant = c.tray.grant ∧ x.retry = c.tray.retry := by
      rw [hacc]
      exact ⟨rfl, rfl, rfl, rfl, rfl, rfl⟩
    obtain ⟨hord, hroute, hchambers, hstate, hgrant, hret⟩ := horder
    refine ⟨_, hcell, rfl, rfl, ?_, ?_, fun hg => ?_, fun hg hrel => ?_⟩
    · cases c.gains s with
      | true => exact hretry.trans hret
      | false => exact hret
    · cases c.gains s with
      | true => exact hquarantine.trans hflag
      | false => exact hflag
    · have htrayKept : (if c.gains s then handedTray (accruedState s) i x else x) = x := by
        rcases hg with hg | hrelease
        · rw [hgains, hg]
          rfl
        · have hhand : handedTray (accruedState s) i x = x := by rw [handedTray, hstate.trans hrelease]
          rw [hhand]
          exact ite_self _
      rw [htrayKept]
      exact ⟨hord, hroute, hchambers, hstate, hgrant, hkept hg⟩
    · have hmem : i ∈ gaining s := mem_gaining.2 ⟨c, hc, hg⟩
      have hc' : (accruedState s).cellAt i = some { c with tray := x } := by
        rw [cellAt_accruedState, hc, ← hx]
        rfl
      rw [hgains, hg, if_pos rfl]
      have hfreed (j : Nat) (hj : freedSlot (accruedState s) i x = some j) : (secondStep s).slot j = none := by
        rw [hslot]
        exact hall.freed i hmem _ hc' j hj
      obtain ⟨hordN, hrouteN, hchambersN, hwaits, hgranted, hasking⟩ :=
        handedTray_parts (accruedState s) i (t := x) (by rw [hstate]; exact hrel)
      rw [hstate, hgrant] at hwaits hgranted
      rw [hstate] at hasking
      refine ⟨hordN, hrouteN, hchambersN, hwaits, hgranted, fun ha j hj y hy => ?_⟩
      have hfree : freedSlot (accruedState s) i x = if y.flagged then none else some j := by
        have hj' : slotOfCell (accruedState s) i = some j := hj
        have hy' : (accruedState s).slot j = some y := hy
        rw [freedSlot, if_pos (hstate.trans ha), hj', Option.filter_some, hy', Option.any_some]
        cases y.flagged <;> rfl
      have hcellY : y.cell = i := by
        obtain ⟨z, hz, hzc⟩ := slotOfCell_eq_some hj
        obtain rfl := Option.some.inj (hy.symm.trans hz)
        exact hzc
      refine ⟨fun hf => ?_, fun hf => ?_⟩
      · rw [hf, if_pos rfl] at hfree
        rw [hfree] at hasking
        refine ⟨hasking ha, ?_⟩
        rw [hslot]
        refine hall.kept j y hy fun k hk d hd hfk => ?_
        obtain ⟨z, hz, hzc⟩ := freedSlot_cell hfk
        obtain rfl := Option.some.inj (hy.symm.trans hz)
        obtain rfl : i = k := hcellY.symm.trans hzc
        obtain rfl := Option.some.inj (hc'.symm.trans hd)
        exact absurd (hfree.symm.trans hfk) (by simp)
      · rw [hf, if_neg Bool.false_ne_true] at hfree
        rw [hfree] at hasking
        exact ⟨hasking ha, hfreed j hfree⟩

/-- Settles O32: the accrual of every store, the hand-over and cut-off at DISPATCH, and the clock alone at CHAMBER. -/
theorem stationSecondAccruesExposure : Obligations.StationSecondAccruesExposure := by
  refine ⟨fun s h => second_accrues h, fun s hrole => second_hands_over hrole, fun s hrole => ?_⟩
  have hexp : exposureSecond (ticked s) = ticked s := by
    have hlots : ¬ (ticked s).role.holdsLots = true := by
      rw [show (ticked s).role = s.role from rfl, hrole]
      decide
    unfold exposureSecond
    rw [if_neg hlots]
  have hcut : cutOffSecond (ticked s) = ticked s := by
    have hne : ¬ (ticked s).role = .dispatch := by
      rw [show (ticked s).role = s.role from rfl, hrole]
      decide
    unfold cutOffSecond
    rw [if_neg hne]
  have hstep : secondStep s = ticked s := by
    show cutOffSecond (exposureSecond (ticked s)) = _
    rw [hexp, hcut]
  exact congrArg Host.Outcome.next hstep

end Sys2Proof.Machine
end

section

/-! ## Family "other": route failure and the replies to an ask (R118 to R120), and O37 -/

namespace Sys2Proof.Machine

/-! ### Route failure (R120) -/

section RouteFails

variable {i : Nat} {c : Cell} {s : State} (failed : Nat) (h : s.cellAt i = some c)
include h

theorem routeFails_again (hretry : c.tray.retry ≤ 1) :
    routeFails i failed s =
      match entryIndex s c.tray.order with
      | none =>
        { updateCellTray i
            (fun x => { x with retry := c.tray.retry + 1, route := flippedRoute s c.tray, dstate := .unasked }) s with
          dsp.routes := bump s.dsp.routes 1 }
      | some j => updateEntry j (fun e => e.turn failed)
        { updateCellTray i
            (fun x => { x with retry := c.tray.retry + 1, route := flippedRoute s c.tray, dstate := .unasked }) s with
          dsp.routes := bump s.dsp.routes 1 } := by
  rw [routeFails, h]
  simp only [hretry, if_true]
  rfl

theorem routeFails_held (hretry : 2 ≤ c.tray.retry) :
    routeFails i failed s = latch .routeFailed (updateCellTray i (fun x => { x with dstate := .routeHeld }) s) := by
  rw [routeFails, h]
  exact if_neg (by omega)

end RouteFails

/-- A route failure leaves the slots, the link, the lots and DSP's other counts. -/
theorem routeFails_frame (i failed : Nat) (s : State) :
    (routeFails i failed s).dsp.slots = s.dsp.slots ∧ (routeFails i failed s).lnk = s.lnk ∧
      (routeFails i failed s).lot = s.lot ∧ (routeFails i failed s).trc = s.trc ∧
      (routeFails i failed s).dsp.grants = s.dsp.grants ∧ (routeFails i failed s).dsp.noAnswers = s.dsp.noAnswers ∧
      (routeFails i failed s).nowMs = s.nowMs := by
  have hentry (j : Nat) (f : OrderEntry → OrderEntry) (u : State) :
      (updateEntry j f u).dsp.grants = u.dsp.grants ∧ (updateEntry j f u).dsp.noAnswers = u.dsp.noAnswers := by
    unfold updateEntry setActive
    split <;> exact ⟨rfl, rfl⟩
  cases hc : s.cellAt i with
  | none =>
    have hsame : routeFails i failed s = s := by rw [routeFails, hc]
    rw [hsame]
    exact ⟨rfl, rfl, rfl, rfl, rfl, rfl, rfl⟩
  | some c =>
    by_cases hretry : c.tray.retry ≤ 1
    · rw [routeFails_again failed hc hretry]
      split
      · exact ⟨rfl, rfl, rfl, rfl, rfl, rfl, rfl⟩
      · refine ⟨updateEntry_slots _ _ _, updateEntry_lnk _ _ _, updateEntry_lot _ _ _, updateEntry_trc _ _ _,
          (hentry _ _ _).1, (hentry _ _ _).2, updateEntry_nowMs _ _ _⟩
    · rw [routeFails_held failed hc (by omega)]
      exact ⟨rfl, rfl, rfl, rfl, rfl, rfl, rfl⟩

theorem flippedRoute_parts (s : State) (t : Tray) :
    (t.order = none → flippedRoute s t = t.route) ∧
      (∀ e, trayEntry s t.order = some e →
        flippedRoute s t = some (if t.route = some e.primary then e.alternate else e.primary)) ∧
      (∀ p, t.order ≠ none → trayEntry s t.order = none → t.chambers = some p →
        flippedRoute s t = some (if t.route = some p.1 then p.2 else p.1)) := by
  unfold flippedRoute
  cases ho : t.order with
  | none =>
    refine ⟨fun _ => rfl, fun e he => ?_, fun p hne => absurd rfl hne⟩
    exact absurd (show trayEntry s none = some e from he) (by simp [trayEntry, entryIndex])
  | some id =>
    refine ⟨fun hnone => absurd hnone (by simp), fun e he => ?_, fun p _ he hp => ?_⟩
    · simp only [Option.isNone_some, Bool.false_eq_true, if_false, he]
      rfl
    · simp only [Option.isNone_some, Bool.false_eq_true, if_false, he, hp]
      rfl

theorem map_eq_self {α : Type} {o : Option α} {f : α → α} (h : ∀ x, f x = x) : o.map f = o := by
  cases o with
  | none => rfl
  | some x => exact congrArg some (h x)

theorem turn_eq (e : OrderEntry) (failed : Nat) :
    e.turn failed = if (if e.onAlternate then e.alternate else e.primary) = failed then
      { e with onAlternate := !e.onAlternate } else e := rfl

theorem routeFailed_routeFails {i failed : Nat} {c : Cell} {s : State} (h : s.cellAt i = some c) :
    RouteFailed i failed c s (routeFails i failed s) := by
  by_cases hretry : c.tray.retry ≤ 1
  · obtain ⟨hnone, hentry, hchambers⟩ := flippedRoute_parts s c.tray
    have hcell := cellAt_updateCell_same h (fun y => { y with
      tray := { y.tray with retry := c.tray.retry + 1, route := flippedRoute s c.tray, dstate := .unasked } })
    rw [routeFails_again failed h hretry]
    cases hj : entryIndex s c.tray.order with
    | none =>
      refine ⟨fun k hk => cellAt_updateCell_of_ne hk _ s, rfl, fun _ => ⟨flippedRoute s c.tray, hcell, hnone, hentry,
        hchambers, rfl, rfl, fun k => ?_⟩, fun h2 => absurd hretry (by omega)⟩
      exact (map_eq_self fun e => if_neg (by simp [hj])).symm
    | some j =>
      have hunder (u : State) (hu : u.dsp.routes = bump s.dsp.routes 1) :
          (updateEntry j (fun e => e.turn failed) u).dsp.routes = bump s.dsp.routes 1 := by
        rw [← hu]
        unfold updateEntry setActive
        split <;> rfl
      refine ⟨fun k hk => (cellAt_of_tray (updateEntry_tray _ _ _) k).trans (cellAt_updateCell_of_ne hk _ s),
        standbyBank_updateEntry _ _ _, fun _ => ⟨flippedRoute s c.tray,
          (cellAt_of_tray (updateEntry_tray _ _ _) i).trans hcell, hnone, hentry, hchambers, hunder _ rfl,
          updateEntry_stc _ _ _, fun k => ?_⟩, fun h2 => absurd hretry (by omega)⟩
      rw [slotAt_activeBank_updateEntry]
      by_cases hk : k = j
      · rw [if_pos hk, hk]
        refine congrArg (fun f => Option.map f _) (funext fun e => ?_)
        rw [turn_eq]
        simp only [hj, true_and]
      · have hne : ¬ j = k := fun h => hk h.symm
        rw [if_neg hk]
        exact (map_eq_self fun e => if_neg (by simp [hj, hne])).symm
  · have hcell := cellAt_updateCell_same h (fun y => { y with tray := { y.tray with dstate := .routeHeld } })
    rw [routeFails_held failed h (by omega)]
    exact ⟨fun k hk => cellAt_updateCell_of_ne hk _ s, rfl, fun h1 => absurd h1 hretry, fun _ => ⟨hcell, rfl, rfl, rfl⟩⟩

/-- The failure of a route once the slot of its series is IDLE. -/
theorem routeFailed_idle {j failed : Nat} {c : Cell} {x : Slot} {s : State} (h : s.cellAt x.cell = some c) :
    RouteFailed x.cell failed c s (routeFails x.cell failed (setSlot j none s)) ∧
      (∀ k, (routeFails x.cell failed (setSlot j none s)).slot k = if k = j then none else s.slot k) ∧
      (routeFails x.cell failed (setSlot j none s)).lnk = s.lnk ∧ (routeFails x.cell failed (setSlot j none s)).lot = s.lot ∧
      (routeFails x.cell failed (setSlot j none s)).dsp.grants = s.dsp.grants ∧
      (routeFails x.cell failed (setSlot j none s)).dsp.noAnswers = s.dsp.noAnswers := by
  have hfail := routeFailed_routeFails (failed := failed) (s := setSlot j none s) h
  obtain ⟨hslots, hlnk, hlot, -, hgrants, hnone, -⟩ := routeFails_frame x.cell failed (setSlot j none s)
  refine ⟨⟨hfail.others, hfail.standby, hfail.again, hfail.held⟩, fun k => ?_, hlnk, hlot, hgrants, hnone⟩
  rw [← slot_setSlot_none, State.slot, hslots]
  rfl

/-! ### Replies (R118, R119) -/

theorem replySlot_target {s : State} {id : TrayId} {source j : Nat} {x : Slot} (h : replySlot s id source = some j)
    (hx : s.slot j = some x) : x.target = source := by
  obtain ⟨y, hy, hp⟩ := slotAt_of_findIdx? h
  obtain rfl := Option.some.inj (hx.symm.trans hy)
  exact of_decide_eq_true (Bool.and_eq_true_iff.1 hp).2

theorem slot_lt {s : State} {j : Nat} {x : Slot} (h : s.slot j = some x) : j < s.dsp.slots.length := lt_length_of_slotAt h

section Reply

variable {source : Nat} {id : BitVec 32} {answer lane : BitVec 8} {s : State}

theorem takeReply_met {a : Answer} {j : Nat} {x : Slot} (ha : Answer.ofCode answer.toNat = some a)
    (hlane : a = .grant → 1 ≤ lane.toNat ∧ lane.toNat ≤ 8) (hj : replySlot s (readTrayId id) source = some j)
    (hx : s.slot j = some x) : takeReply source id answer lane s = replyInSlot j x a lane.toNat s := by
  have hok : (a = .grant && (lane.toNat < 1 || 8 < lane.toNat)) = false := by
    by_cases hg : a = .grant
    · obtain ⟨h1, h8⟩ := hlane hg
      have hn : (decide (lane.toNat < 1) || decide (8 < lane.toNat)) = false := by
        rw [decide_eq_false (by omega), decide_eq_false (by omega)]
        rfl
      rw [hn, Bool.and_false]
    · rw [decide_eq_false hg, Bool.false_and]
  unfold takeReply
  simp only [ha]
  rw [if_neg (by rw [hok]; decide)]
  simp only [hj, hx]

theorem takeReply_unmatched
    (h : replySlot s (readTrayId id) source = none ∧ (answer ≠ 3#8 ∨ alreadyGranted s (readTrayId id) source = false) ∨
      Answer.ofCode answer.toNat = none ∨ answer = 3#8 ∧ (lane.toNat < 1 ∨ 8 < lane.toNat)) :
    takeReply source id answer lane s = unmatchedReply s := by
  unfold takeReply
  cases ha : Answer.ofCode answer.toNat with
  | none => rfl
  | some a =>
    have hgrant : a = .grant → answer = 3#8 := by
      rintro rfl
      have h3 : answer.toNat = 3 := by
        unfold Answer.ofCode at ha
        split at ha <;> simp_all
      exact BitVec.eq_of_toNat_eq h3
    simp only
    by_cases hbad : (a = .grant && (lane.toNat < 1 || 8 < lane.toNat)) = true
    · rw [if_pos hbad]
    · rw [if_neg hbad]
      rcases h with ⟨hnone, hg⟩ | h | ⟨h3, hlane⟩
      · simp only [hnone]
        refine if_neg fun hdup => ?_
        obtain ⟨ha3, hal⟩ := Bool.and_eq_true_iff.1 hdup
        rcases hg with hg | hg
        · exact hg (hgrant (of_decide_eq_true ha3))
        · exact absurd (hg.symm.trans hal) (by decide)
      · exact absurd (ha.symm.trans h) (by simp)
      · refine absurd ?_ hbad
        have ha' : a = .grant := by
          rw [h3] at ha
          exact (Option.some.inj ha).symm
        rw [decide_eq_true ha', Bool.true_and, Bool.or_eq_true, decide_eq_true_eq, decide_eq_true_eq]
        exact hlane

end Reply

theorem answeredAttempt_below {j : Nat} {x : Slot} {s : State} (h : x.attempts < s.attemptLimit) :
    answeredAttempt j x s = setSlot j
      (some { x with phase := .between, answerAt := none, repeatAt := some (s.nowMs + s.repeatMs), askDue := false }) s :=
  if_neg (Nat.not_le.2 h)

theorem answeredAttempt_limit {j : Nat} {x : Slot} {s : State} (h : s.attemptLimit ≤ x.attempts) :
    answeredAttempt j x s = routeFails x.cell x.target (setSlot j none s) := if_pos h

/-- A WAIT or WAIT-FULL to a slot that is ASKING. -/
theorem replyInSlot_wait {j lane : Nat} {x : Slot} {s : State} {a : Answer} (ha : a = .wait ∨ a = .waitFull) :
    replyInSlot j x a lane s = if x.phase = .asking then answeredAttempt j x s else s := by
  rcases ha with rfl | rfl <;> rfl

theorem answer_of_wait {answer : BitVec 8} (h : answer = 1#8 ∨ answer = 2#8) :
    ∃ a, Answer.ofCode answer.toNat = some a ∧ (a = .wait ∨ a = .waitFull) ∧ a ≠ .grant := by
  rcases h with rfl | rfl
  · exact ⟨.wait, rfl, .inl rfl, by decide⟩
  · exact ⟨.waitFull, rfl, .inr rfl, by decide⟩

/-- Settles O37: the answers by their effect on the slot the reply meets, and the route failure of R120. -/
theorem admitReplySettlesAttempt : Obligations.AdmitReplySettlesAttempt := by
  refine ⟨fun src tgt id answer lane s ht => ⟨fun j x c hj hx hc => ?_, fun hnone => ?_⟩,
    fun src tgt id answer lane j x c s ht hj hx hc hcase => ?_⟩
  · have hexec : exec (.admitReply src tgt id answer lane) s = .next (takeReply src.toNat id answer lane s) :=
      congrArg Host.Outcome.next (receive_taken ht _)
    obtain ⟨hfailed, hslots, -, -, -, -⟩ := routeFailed_idle (j := j) (failed := x.target) hc
    refine ⟨fun ha h1 h8 => ?_, fun ha hphase hlimit => ?_, fun ha hphase => ?_, fun ha hretry => ?_, fun ha hretry => ?_⟩
    · subst ha
      rw [hexec, takeReply_met (a := .grant) rfl (fun _ => ⟨h1, h8⟩) hj hx]
      have hcell := cellAt_updateCell_same (s := setSlot j none s) hc (fun y => { y with
        tray := { y.tray with
          grant := some {
            chamber := x.target
            lane := lane.toNat
            time := s.stc.clock
            marked := x.flagged
            deadline := s.nowMs + s.grantMs }
          dstate := .granted } })
      refine ⟨_, _, rfl, ?_, hcell, replySlot_target hj hx, rfl, rfl, rfl, rfl, rfl, rfl, rfl⟩
      exact (slot_setSlot_none j j s).trans (if_pos rfl)
    · obtain ⟨a, hcode, hwait, hne⟩ := answer_of_wait ha
      rw [hexec, takeReply_met hcode (fun hg => absurd hg hne) hj hx, replyInSlot_wait hwait, if_pos hphase,
        answeredAttempt_below hlimit]
      refine ⟨_, _, rfl, (slot_setSlot j j _ s (slot_lt hx)).trans (if_pos rfl), rfl, rfl, rfl, rfl, rfl⟩
    · obtain ⟨a, hcode, hwait, hne⟩ := answer_of_wait ha
      rw [hexec, takeReply_met hcode (fun hg => absurd hg hne) hj hx, replyInSlot_wait hwait, if_neg (by rw [hphase]; decide)]
    · subst ha
      rw [hexec, takeReply_met (a := .deny) rfl (fun hg => absurd hg (by decide)) hj hx]
      obtain ⟨route, hcell, -, -, -, hroutes, -, -⟩ := hfailed.again hretry
      have hroute := routeFails_again (i := x.cell) (s := setSlot j none s) x.target hc hretry
      refine ⟨_, _, rfl, (hslots j).trans (if_pos rfl), hcell, rfl, rfl, ?_, hroutes⟩
      have hcell' : (routeFails x.cell x.target (setSlot j none s)).cellAt x.cell =
          some { c with tray := { c.tray with
            retry := c.tray.retry + 1, route := flippedRoute s c.tray, dstate := .unasked } } := by
        have hupdate := cellAt_updateCell_same (s := setSlot j none s) hc (fun y => { y with
          tray := { y.tray with retry := c.tray.retry + 1, route := flippedRoute s c.tray, dstate := .unasked } })
        rw [hroute]
        split
        · exact hupdate
        · exact (cellAt_of_tray (updateEntry_tray _ _ _) _).trans hupdate
      have heq := Option.some.inj (hcell.symm.trans hcell')
      exact congrArg (fun d : Cell => d.tray.route) heq
    · subst ha
      rw [hexec, takeReply_met (a := .deny) rfl (fun hg => absurd hg (by decide)) hj hx]
      obtain ⟨hcell, hlatched, -, -⟩ := hfailed.held hretry
      exact ⟨_, _, rfl, (hslots j).trans (if_pos rfl), hcell, rfl, latchedNotice_of_latched_or hlatched⟩
  · exact congrArg Host.Outcome.next ((receive_taken ht _).trans (takeReply_unmatched hnone))
  · have hexec : exec (.admitReply src tgt id answer lane) s = .next (takeReply src.toNat id answer lane s) :=
      congrArg Host.Outcome.next (receive_taken ht _)
    obtain ⟨hfailed, hslots, hlnk, hlot, hgrants, -⟩ := routeFailed_idle (j := j) (failed := x.target) hc
    have htaken : takeReply src.toNat id answer lane s = routeFails x.cell x.target (setSlot j none s) := by
      rcases hcase with rfl | ⟨ha, hphase, hlimit⟩
      · rw [takeReply_met (a := .deny) rfl (fun hg => absurd hg (by decide)) hj hx]
        rfl
      · obtain ⟨a, hcode, hwait, hne⟩ := answer_of_wait ha
        rw [takeReply_met hcode (fun hg => absurd hg hne) hj hx, replyInSlot_wait hwait, if_pos hphase,
          answeredAttempt_limit hlimit]
    rw [hexec, htaken]
    exact ⟨_, rfl, (hslots j).trans (if_pos rfl), fun k hk => (hslots k).trans (if_neg hk), hfailed, hlnk, hlot, hgrants⟩

end Sys2Proof.Machine
end

section

/-! ## Family "other": the timers of a request slot and of a grant (R118, R122), and O38 -/

namespace Sys2Proof.Machine

/-! ### Queuing an ask -/

/-- Slot `j` after its ask is queued (R118). -/
def askedSlot (x : Slot) (s : State) : Slot :=
  { x with
    attempts := x.attempts + 1, phase := .asking, answerAt := none, repeatAt := none, askDue := false,
    latestAsk := s.dsp.nextAsk }

/-- The ADMIT-ASK of a series for tray `t` (R118). -/
def askFrame (x : Slot) (t : Tray) (s : State) : Frame :=
  { target := x.target, payload := .admitAsk (writeTrayId t.id), serial := s.dsp.nextAsk }

theorem queueAsk_eq {x : Slot} {s : State} (j : Nat) (t : Tray) (hroom : mainHasRoom s 1 = true) :
    queueAsk j x t s = setSlot j (some (askedSlot x s))
      { s with lnk.mainQ := s.lnk.mainQ ++ [askFrame x t s], dsp.nextAsk := s.dsp.nextAsk + 1 } := by
  unfold queueAsk
  dsimp only
  rw [pushMain_room _ _ hroom]
  rfl

theorem queueAsk_slot {j : Nat} {x : Slot} {s : State} (t : Tray) (hroom : mainHasRoom s 1 = true)
    (hj : j < s.dsp.slots.length) (k : Nat) :
    (queueAsk j x t s).slot k = if k = j then some (askedSlot x s) else s.slot k := by
  rw [queueAsk_eq j t hroom]
  exact slot_setSlot j k _ _ hj

theorem askRoom_mainHasRoom {s : State} (h : askRoom s = true) : mainHasRoom s 1 = true := by
  unfold askRoom at h
  rw [Bool.and_eq_true, Bool.and_eq_true] at h
  exact h.1.1

/-! ### The timers -/

theorem answerTimeOut_of {n d : Nat} {x : Slot} {s : State} (hn : 1 ≤ n) (hx : s.slot (n - 1) = some x)
    (hd : x.answerAt = some d) :
    answerTimeOut n s =
      answeredAttempt (n - 1) x (timeTo d { s with dsp.noAnswers := bump s.dsp.noAnswers 1 }) := by
  rw [answerTimeOut, if_neg (by omega)]
  simp only [hx, hd]

theorem repeatOut_of {n d : Nat} {x : Slot} {c : Cell} {s : State} (hn : 1 ≤ n) (hx : s.slot (n - 1) = some x)
    (hd : x.repeatAt = some d) (hc : s.cellAt x.cell = some c) :
    repeatOut n s =
      if askRoom s then queueAsk (n - 1) x c.tray (timeTo d s)
      else setSlot (n - 1) (some { x with repeatAt := none, askDue := true }) (timeTo d s) := by
  have hc' : (timeTo d s).cellAt x.cell = some c := hc
  rw [repeatOut, if_neg (by omega)]
  simp only [hx, hd, hc']
  rfl

theorem queueDueAsk_of {j : Nat} {x : Slot} {c : Cell} {s : State}
    (hj : s.dsp.slots.findIdx? (fun o => o.any Slot.askDue) = some j) (hx : s.slot j = some x)
    (hc : s.cellAt x.cell = some c) (hroom : mainHasRoom s 1 = true) (hpass : s.dsp.pendingPass = none) :
    queueDueAsk s = queueAsk j x c.tray s := by
  rw [queueDueAsk, if_pos (by rw [hroom, hpass]; rfl)]
  simp only [hj, hx, hc]

theorem grantOut_of {n : Nat} {c : Cell} {g : Grant} {s : State} (hn : 1 ≤ n) (hc : s.cellAt (n - 1) = some c)
    (hg : c.tray.grant = some g) (hd : c.tray.dstate = .granted) :
    grantOut n s = updateCellTray (n - 1) Tray.drop
      (timeTo g.deadline { s with dsp.expiredGrants := bump s.dsp.expiredGrants 1 }) := by
  rw [grantOut, if_neg (by omega)]
  simp only [hc, hg]
  exact if_pos hd

/-- Settles O38: each timer by the state it names, the route failure of R120 at the attempt limit. -/
theorem slotAndGrantTimersRunOut : Obligations.SlotAndGrantTimersRunOut := by
  refine ⟨⟨⟨fun n d x s hn hx hd hlimit => ?_, fun n d x c s hn hx hd hc => ⟨fun hroom => ?_, fun hroom => ?_⟩,
    fun j x c s hj hx hc hlen hpass => ?_⟩, fun n c g s hn hc hg hd => ?_⟩, fun n d x c s hn hx hd hlimit hc => ?_⟩
  · refine ⟨_, congrArg Host.Outcome.next ((answerTimeOut_of hn hx hd).trans (answeredAttempt_below hlimit)), ?_, rfl, rfl,
      rfl⟩
    exact (slot_setSlot (n - 1) (n - 1) _ _ (slot_lt hx)).trans (if_pos rfl)
  · have hmain : mainHasRoom (timeTo d s) 1 = true := askRoom_mainHasRoom hroom
    have ht := (repeatOut_of hn hx hd hc).trans (if_pos hroom)
    refine ⟨_, congrArg Host.Outcome.next ht, by rw [queueAsk_eq _ _ hmain]; rfl, ?_, by rw [queueAsk_eq _ _ hmain]; rfl⟩
    exact (queueAsk_slot c.tray hmain (slot_lt hx) (n - 1)).trans (if_pos rfl)
  · have ht := (repeatOut_of hn hx hd hc).trans (if_neg (by rw [hroom]; decide))
    refine ⟨_, congrArg Host.Outcome.next ht, rfl, ?_, rfl⟩
    exact (slot_setSlot (n - 1) (n - 1) _ _ (slot_lt hx)).trans (if_pos rfl)
  · have hroom : mainHasRoom s 1 = true := (mainHasRoom_one_iff s).2 hlen
    refine ⟨_, askedSlot x s, congrArg Host.Outcome.next (queueDueAsk_of hj hx hc hroom hpass),
      by rw [queueAsk_eq _ _ hroom]; rfl, ?_, rfl, rfl, rfl, by rw [queueAsk_eq _ _ hroom]; rfl⟩
    exact (queueAsk_slot c.tray hroom (slot_lt hx) j).trans (if_pos rfl)
  · refine ⟨_, congrArg Host.Outcome.next (grantOut_of hn hc hg hd), ?_, fun k hk => cellAt_updateCell_of_ne hk _ _, rfl,
      rfl, rfl⟩
    exact cellAt_updateCell_same (s := timeTo g.deadline { s with dsp.expiredGrants := bump s.dsp.expiredGrants 1 }) hc _
  · obtain ⟨hfailed, hslots, hlnk, hlot, -, hcount⟩ := routeFailed_idle (j := n - 1) (failed := x.target)
      (s := timeTo d { s with dsp.noAnswers := bump s.dsp.noAnswers 1 }) hc
    have hnow := (routeFails_frame x.cell x.target
      (setSlot (n - 1) none (timeTo d { s with dsp.noAnswers := bump s.dsp.noAnswers 1 }))).2.2.2.2.2.2
    refine ⟨_, congrArg Host.Outcome.next ((answerTimeOut_of hn hx hd).trans (answeredAttempt_limit hlimit)),
      (hslots (n - 1)).trans (if_pos rfl), fun k hk => (hslots k).trans (if_neg hk), hcount, hnow,
      ⟨hfailed.others, hfailed.standby, hfailed.again, hfailed.held⟩, hlnk, hlot⟩

end Sys2Proof.Machine
end

section

/-! ## Family "other": the start of an attempt series (R116, R117), and O36 -/

namespace Sys2Proof.Machine

/-! ### The tray a series is given to -/

theorem oldestCell_holds {s : State} {p : Cell → Bool} {i : Nat} (h : oldestCell s p = some i) :
    ∃ c, s.cellAt i = some c ∧ p c = true := by
  have hchoice := foldl_choice (P := fun i => ∃ c, s.cellAt i = some c ∧ p c = true) (fun best k i hstep => ?_) h
  · obtain hnone | ⟨-, hp⟩ := hchoice
    · cases hnone
    · exact hp
  · cases hk : s.cellAt k with
    | none => exact .inl (by simpa only [hk] using hstep)
    | some c =>
      simp only [hk] at hstep
      by_cases hp : p c = true
      · rw [if_pos hp] at hstep
        cases hb : best.bind s.cellAt with
        | none =>
          simp only [hb] at hstep
          obtain rfl := Option.some.inj hstep
          exact .inr ⟨rfl, c, hk, hp⟩
        | some b =>
          simp only [hb] at hstep
          split at hstep
          · obtain rfl := Option.some.inj hstep
            exact .inr ⟨rfl, c, hk, hp⟩
          · exact .inl hstep
      · rw [if_neg hp] at hstep
        exact .inl hstep

theorem redFirst_holds {s : State} {p : Cell → Bool} {i : Nat} (h : redFirst s p = some i) :
    ∃ c, s.cellAt i = some c ∧ p c = true := by
  unfold redFirst at h
  split at h
  · next k hk =>
    obtain rfl := Option.some.inj h
    obtain ⟨c, hc, hp⟩ := oldestCell_holds hk
    exact ⟨c, hc, (Bool.and_eq_true_iff.1 hp).1⟩
  · exact oldestCell_holds h

/-! ### Step 2 of R117 -/

/-- A tray with its entry's current chamber and order chambers (R117). -/
def routedTray (s : State) (t : Tray) : Tray :=
  match trayEntry s t.order with
  | none => t
  | some e => { t with route := some e.current, chambers := some (e.primary, e.alternate) }

theorem routeUpdate_parts {i : Nat} {c : Cell} {s : State} (h : s.cellAt i = some c) :
    (routeUpdate i s).cellAt i = some { c with tray := routedTray s c.tray } ∧
      (∀ k, k ≠ i → (routeUpdate i s).cellAt k = s.cellAt k) ∧
      { routeUpdate i s with tray.cells := s.tray.cells } = s := by
  unfold routeUpdate routedTray
  simp only [h]
  cases trayEntry s c.tray.order with
  | none => exact ⟨h, fun _ _ => rfl, rfl⟩
  | some e => exact ⟨cellAt_updateCell_same h _, fun k hk => cellAt_updateCell_of_ne hk _ s, rfl⟩

theorem routeUpdate_of_no_order {i : Nat} {c : Cell} {s : State} (h : s.cellAt i = some c) (ho : c.tray.order = none) :
    routeUpdate i s = s := by
  unfold routeUpdate
  simp only [h, ho]
  rfl

theorem peerRefuses_congr {s t : State} (hstc : t.stc = s.stc) (hlnk : t.lnk = s.lnk) (n : Nat) :
    peerRefuses t n = peerRefuses s n := by
  unfold peerRefuses peerMode State.mode
  rw [own_of_settings (congrArg Stc.settings hstc), hstc, hlnk]

/-! ### Step 4 of R117 -/

/-- The slot of a series that starts (R117). -/
def startedSlot (i chamber : Nat) (t : Tray) (s : State) : Slot :=
  { cell := i, target := chamber, attempts := 1, phase := .asking, answerAt := none, repeatAt := none, askDue := false,
    flagged := t.quarantine, latestAsk := s.dsp.nextAsk }

/-- The two frames that start a series (R117). -/
def startFrames (chamber : Nat) (t : Tray) (s : State) : List Frame :=
  [frameTo chamber (.manifest (writeManifest t)),
    { target := chamber, payload := .admitAsk (writeTrayId t.id), serial := s.dsp.nextAsk }]

theorem beginSeries_eq (j i : Nat) (t : Tray) (chamber : Nat) {s : State} (hroom : mainHasRoom s 2 = true) :
    beginSeries j i t chamber s = updateCellTray i (fun y => { y with dstate := .asking })
      (setSlot j (some (startedSlot i chamber t s))
        { s with lnk.mainQ := s.lnk.mainQ ++ startFrames chamber t s, dsp.nextAsk := s.dsp.nextAsk + 1 }) := by
  have hlen : s.lnk.mainQ.length + 2 ≤ 16 := of_decide_eq_true hroom
  have hone : mainHasRoom s 1 = true := (mainHasRoom_one_iff s).2 (by omega)
  have htwo : mainHasRoom { s with lnk.mainQ := s.lnk.mainQ ++ [frameTo chamber (.manifest (writeManifest t))] } 1 = true :=
    (mainHasRoom_one_iff _).2 (by simp; omega)
  unfold beginSeries
  dsimp only
  rw [pushMain_room _ _ hone, queueAsk_eq _ _ htwo]
  show updateCellTray i _ (setSlot j _ { s with
      lnk.mainQ := (s.lnk.mainQ ++ [frameTo chamber (.manifest (writeManifest t))]) ++ _, dsp.nextAsk := _ }) = _
  rw [List.append_assoc]
  rfl

/-- What the start of a series for the tray of cell `i` does. -/
structure SeriesBegun (i j chamber : Nat) (c : Cell) (s t : State) : Prop where
  queue : t.lnk.mainQ = s.lnk.mainQ ++ startFrames chamber c.tray s
  slot : t.slot j = some (startedSlot i chamber c.tray s)
  slots : ∀ k, k ≠ j → t.slot k = s.slot k
  cell : t.cellAt i = some { c with tray := { c.tray with dstate := .asking } }
  cells : ∀ k, k ≠ i → t.cellAt k = s.cellAt k
  active : activeBank t = activeBank s
  standby : standbyBank t = standbyBank s
  stc : t.stc = s.stc
  lot : t.lot = s.lot
  trc : t.trc = s.trc

theorem seriesBegun_beginSeries {i j chamber : Nat} {c : Cell} {s : State} (hc : s.cellAt i = some c)
    (hroom : mainHasRoom s 2 = true) (hj : j < s.dsp.slots.length) :
    SeriesBegun i j chamber c s (beginSeries j i c.tray chamber s) := by
  rw [beginSeries_eq j i c.tray chamber hroom]
  refine ⟨rfl, (slot_setSlot j j _ _ hj).trans (if_pos rfl), fun k hk => (slot_setSlot j k _ _ hj).trans (if_neg hk), ?_,
    fun k hk => cellAt_updateCell_of_ne hk _ _, rfl, rfl, rfl, rfl, rfl⟩
  exact cellAt_updateCell_same (s := setSlot j (some (startedSlot i chamber c.tray s))
    { s with lnk.mainQ := s.lnk.mainQ ++ startFrames chamber c.tray s, dsp.nextAsk := s.dsp.nextAsk + 1 }) hc
    (fun y => { y with tray := { y.tray with dstate := .asking } })

/-! ### The series of a chosen tray -/

theorem startSeries_of {i j : Nat} {s : State} (hallowed : seriesAllowed s = true) (hj : lowestFree s.dsp.slots = some j)
    (hi : redFirst s (fun x => x.tray.dstate = .unasked) = some i) : startSeries s = seriesFor j i s := by
  rw [startSeries, if_pos hallowed, hj, hi]

theorem seriesAllowed_room {s : State} (h : seriesAllowed s = true) : mainHasRoom s 2 = true := by
  simp only [seriesAllowed, Bool.and_eq_true] at h
  exact h.1.1.2

theorem unasked_of_redFirst {i : Nat} {c : Cell} {s : State}
    (hi : redFirst s (fun x => x.tray.dstate = .unasked) = some i) (hc : s.cellAt i = some c) : c.tray.dstate = .unasked := by
  obtain ⟨d, hd, hp⟩ := redFirst_holds hi
  obtain rfl := Option.some.inj (hc.symm.trans hd)
  exact of_decide_eq_true hp

theorem projectCell_same {i : Nat} {c : Cell} {s : State} (hc : s.cellAt i = some c)
    (h : projectedSpent s c.tray = false ∨ c.tray.quarantine = true) : projectCell i s = s := by
  unfold projectCell flagCell
  simp only [hc]
  rcases h with h | h
  · rw [h, if_neg (by decide)]
  · rw [h, if_pos rfl, ite_self]

/-- A tray that gains the quarantine flag by the projection (R103). -/
def flaggedTray (s : State) (t : Tray) : Tray :=
  { t with quarantine := true, order := none, route := some s.quarantineChamber, chambers := none }

/-- The projection has flagged the tray in cell `i`, which no series asks for: it is then the tray `x`. -/
structure Flagged (i : Nat) (x : Tray) (c : Cell) (s t : State) : Prop where
  cell : t.cellAt i = some { c with tray := x }
  others : ∀ k, k ≠ i → t.cellAt k = s.cellAt k
  left : EntryLeft c.tray.order s t
  slots : t.dsp.slots = s.dsp.slots
  rest : { t with
    tray.cells := s.tray.cells, dsp.bank0 := s.dsp.bank0, dsp.bank1 := s.dsp.bank1, dsp.slots := s.dsp.slots } = s

theorem projectCell_spent {i : Nat} {c : Cell} {s : State} (hc : s.cellAt i = some c)
    (hspent : projectedSpent s c.tray = true) (hq : c.tray.quarantine = false) :
    projectCell i s = handOver i (updateCellTray i (fun t => { t with quarantine := true }) s) := by
  unfold projectCell flagCell
  simp only [hc]
  rw [if_pos hspent, hq, if_neg (by decide)]

/-- A hand-over takes the tray off its order as `EntryLeft` says. -/
theorem EntryLeft.of_handedOver {i : Nat} {c : Cell} {s t : State} (h : HandedOver i c s t)
    (hd : c.tray.dstate ≠ .releasing) : EntryLeft c.tray.order s t := by
  refine ⟨h.standby, fun k => (h.bank k).trans ?_⟩
  by_cases hk : entryIndex s c.tray.order = some k
  · rw [if_pos ⟨hd, hk⟩]
    simp only [hk, if_true, OrderEntry.unassign, OrderEntry.past, decide_eq_true_eq]
  · rw [if_neg fun hand => hk hand.2]
    exact (map_eq_self fun e => if_neg hk).symm

/-- The tray of cell `i` has the quarantine flag, and the rest stands. -/
def quarantineCell (i : Nat) (s : State) : State := updateCellTray i (fun t => { t with quarantine := true }) s

section Flagging

variable {i : Nat} {c : Cell} {s : State} (hc : s.cellAt i = some c)
include hc

theorem cellAt_quarantineCell :
    (quarantineCell i s).cellAt i = some { c with tray := { c.tray with quarantine := true } } :=
  cellAt_updateCell_same hc (fun x => { x with tray := { x.tray with quarantine := true } })

theorem flagged_of_handOver {x : Tray} (hd : c.tray.dstate ≠ .releasing)
    (hx : handedTray (quarantineCell i s) i { c.tray with quarantine := true } = x)
    (hslots : (handOver i (quarantineCell i s)).dsp.slots = s.dsp.slots) :
    Flagged i x c s (handOver i (quarantineCell i s)) := by
  have hhanded := handedOver_handOver (cellAt_quarantineCell hc)
  have hcell := hhanded.cell
  have hleft := EntryLeft.of_handedOver hhanded hd
  have hrest := hhanded.rest
  exact ⟨hx ▸ hcell, fun k hk => (hhanded.others k hk).trans (cellAt_updateCell_of_ne hk _ s),
    ⟨hleft.standby, hleft.entries⟩, hslots, congrArg (fun u : State => { u with tray.cells := s.tray.cells }) hrest⟩

variable (hspent : projectedSpent s c.tray = true) (hq : c.tray.quarantine = false)
include hspent hq

theorem flagged_unasked (hd : c.tray.dstate = .unasked) : Flagged i (flaggedTray s c.tray) c s (projectCell i s) := by
  rw [projectCell_spent hc hspent hq]
  refine flagged_of_handOver hc (by rw [hd]; decide) (by rw [handedTray, hd]; rfl) ?_
  exact (congrArg (fun u : State => u.dsp.slots) (handOver_other (cellAt_quarantineCell hc) (.inl hd))).trans
    (unassign_slots _ _)

/-- A grant that is not marked is dropped. -/
theorem flagged_granted (hd : c.tray.dstate = .granted) (hg : c.tray.grant.any Grant.marked = false) :
    Flagged i (flaggedTray s c.tray).drop c s (projectCell i s) := by
  have hgranted := (handOver_granted (cellAt_quarantineCell hc) hd).trans (if_neg (by rw [hg]; decide))
  rw [projectCell_spent hc hspent hq]
  refine flagged_of_handOver hc (by rw [hd]; decide) ?_
    ((congrArg (fun u : State => u.dsp.slots) hgranted).trans (unassign_slots _ _))
  rw [handedTray, hd]
  simp only [hg]
  rfl

end Flagging

theorem seriesFor_of {i j chamber : Nat} {c : Cell} {s t : State} (ht : routeUpdate i (projectCell i s) = t)
    (hc : t.cellAt i = some c) (hroute : c.tray.route = some chamber) :
    seriesFor j i s = if peerRefuses t chamber then routeFails i chamber t else beginSeries j i c.tray chamber t := by
  unfold seriesFor
  simp only [ht, hc, hroute]

/-- Settles O36: the projection by its flag, then the frames and the slot, or the route failure of R120. -/
theorem seriesStartQueuesManifestAndAsk : Obligations.SeriesStartQueuesManifestAndAsk := by
  refine ⟨fun i j chamber c s hallowed hj hi hc hkept => ?_,
    fun i j c s hallowed hj hi hc hspent hq => ?_⟩
  · intro x hroute
    obtain ⟨hcell, hcells, hrest⟩ := routeUpdate_parts hc
    have hx : routedTray s c.tray = x := rfl
    have hxq : x.quarantine = c.tray.quarantine ∧ x.retry = c.tray.retry ∧ x.dstate = c.tray.dstate := by
      rw [← hx]
      unfold routedTray
      split <;> exact ⟨rfl, rfl, rfl⟩
    generalize ht : routeUpdate i s = t at hcell hcells hrest
    rw [hx] at hcell
    have hstc : t.stc = s.stc := by have h := congrArg State.stc hrest; exact h
    have hlnk : t.lnk = s.lnk := by have h := congrArg State.lnk hrest; exact h
    have hdsp : t.dsp = s.dsp := by have h := congrArg State.dsp hrest; exact h
    have hlot : t.lot = s.lot := by have h := congrArg State.lot hrest; exact h
    have htrc : t.trc = s.trc := by have h := congrArg State.trc hrest; exact h
    have hseries := seriesFor_of (j := j) (by rw [projectCell_same hc hkept]; exact ht) hcell hroute
    have hstart : exec .seriesStart s = .next (seriesFor j i s) :=
      congrArg Host.Outcome.next (startSeries_of hallowed hj hi)
    rw [hstart, hseries, peerRefuses_congr hstc hlnk]
    refine ⟨fun hpeer => ?_, fun hpeer hretry => ?_⟩
    · rw [hpeer, if_neg (by decide)]
      have hbegun := seriesBegun_beginSeries (chamber := chamber) hcell
        (show mainHasRoom t 2 = true by unfold mainHasRoom; rw [hlnk]; exact seriesAllowed_room hallowed)
        (by rw [hdsp]; exact lowestFree_lt hj)
      refine ⟨_, _, rfl, ?_, hbegun.slot, rfl, rfl, rfl, rfl, hxq.1, fun k hk => (hbegun.slots k hk).trans ?_, hbegun.cell,
        fun k hk => (hbegun.cells k hk).trans (hcells k hk), hbegun.stc.trans hstc, hbegun.lot.trans hlot,
        hbegun.trc.trans htrc⟩
      · rw [hbegun.queue, hlnk, startFrames, hdsp]
      · rw [State.slot, hdsp]
        rfl
    · rw [hpeer, if_pos rfl]
      obtain ⟨hslots, hlnk', -⟩ := routeFails_frame i chamber t
      obtain ⟨route, hcell', -, -, -, hroutes, -⟩ := (routeFailed_routeFails (failed := chamber) hcell).again
        (show x.retry ≤ 1 by rw [hxq.2.1]; exact hretry)
      refine ⟨_, _, rfl, hlnk'.trans hlnk, hslots.trans (congrArg Dsp.slots hdsp), hcell', congrArg (· + 1) hxq.2.1, rfl, ?_⟩
      rw [hroutes, hdsp]
  · intro x
    have hd := unasked_of_redFirst hi hc
    have hflag := flagged_unasked hc hspent hq hd
    generalize ht : projectCell i s = t at hflag
    have hstc : t.stc = s.stc := by have h := congrArg State.stc hflag.rest; exact h
    have hlnk : t.lnk = s.lnk := by have h := congrArg State.lnk hflag.rest; exact h
    have hlot : t.lot = s.lot := by have h := congrArg State.lot hflag.rest; exact h
    have htrc : t.trc = s.trc := by have h := congrArg State.trc hflag.rest; exact h
    have hask : t.dsp.nextAsk = s.dsp.nextAsk := by have h := congrArg (fun u : State => u.dsp.nextAsk) hflag.rest; exact h
    have hroutes : t.dsp.routes = s.dsp.routes := by have h := congrArg (fun u : State => u.dsp.routes) hflag.rest; exact h
    have hseries := seriesFor_of (j := j) (by rw [ht]; exact routeUpdate_of_no_order hflag.cell rfl) hflag.cell rfl
    have hstart : exec .seriesStart s = .next (seriesFor j i s) :=
      congrArg Host.Outcome.next (startSeries_of hallowed hj hi)
    rw [hstart, hseries, peerRefuses_congr hstc hlnk]
    refine ⟨fun hpeer => ?_, fun hpeer => ?_⟩
    · rw [hpeer, if_neg (by decide)]
      have hbegun := seriesBegun_beginSeries (chamber := s.quarantineChamber) hflag.cell
        (show mainHasRoom t 2 = true by unfold mainHasRoom; rw [hlnk]; exact seriesAllowed_room hallowed)
        (by rw [hflag.slots]; exact lowestFree_lt hj)
      refine ⟨_, rfl, ⟨hbegun.standby.trans hflag.left.standby, fun k => ?_⟩, ?_,
        ⟨_, hbegun.slot, rfl, rfl, rfl, rfl, rfl⟩, fun k hk => (hbegun.slots k hk).trans ?_, hbegun.cell,
        fun k hk => (hbegun.cells k hk).trans (hflag.others k hk), hbegun.stc.trans hstc, hbegun.lot.trans hlot,
        hbegun.trc.trans htrc⟩
      · rw [hbegun.active]
        exact hflag.left.entries k
      · rw [hbegun.queue, hlnk, startFrames, hask]
        rfl
      · rw [State.slot, hflag.slots]
        rfl
    · rw [hpeer, if_pos rfl]
      obtain ⟨hslots, hlnk', -⟩ := routeFails_frame i s.quarantineChamber t
      have hfailed := routeFailed_routeFails (failed := s.quarantineChamber) hflag.cell
      have hactive (k : Nat) : slotAt (activeBank (routeFails i s.quarantineChamber t)) k = slotAt (activeBank t) k := by
        by_cases hretry : c.tray.retry ≤ 1
        · obtain ⟨-, -, -, -, -, -, -, hbank⟩ := hfailed.again hretry
          exact (hbank k).trans (map_eq_self fun e => if_neg fun hand => absurd hand.1 (by simp [flaggedTray, entryIndex]))
        · rw [(hfailed.held (show 2 ≤ c.tray.retry by omega)).2.2.2]
      refine ⟨_, rfl, hlnk'.trans hlnk, hslots.trans hflag.slots, ⟨hfailed.standby.trans hflag.left.standby,
        fun k => (hactive k).trans (hflag.left.entries k)⟩, fun k hk => (hfailed.others k hk).trans (hflag.others k hk),
        fun hretry => ?_, fun hretry => ?_⟩
      · obtain ⟨route, hcell, hnone, -, -, hcount, hstc', -⟩ := hfailed.again hretry
        obtain rfl := hnone rfl
        refine ⟨?_, hcount.trans (by rw [hroutes]), hstc'.trans hstc⟩
        rw [hcell]
        have hdstate : (flaggedTray s c.tray).dstate = .unasked := hd
        show some { c with tray := { flaggedTray s c.tray with
          retry := c.tray.retry + 1, route := some s.quarantineChamber, dstate := .unasked } } = _
        rw [← hdstate]
        rfl
      · obtain ⟨hcell, hlatched, hcount, -⟩ := hfailed.held hretry
        exact ⟨hcell, hcount.trans hroutes, hlatched.trans (by rw [hstc])⟩

end Sys2Proof.Machine
end

section

/-! ## Family "other": the release of a tray (R123, R124), and O39 -/

namespace Sys2Proof.Machine

/-! ### The arbiter's choice -/

theorem foldl_eq_none {f : Option Nat → Nat → Option Nat} {P : Nat → Prop}
    (hstep : ∀ best k, f best k = none → best = none ∧ P k) {is : List Nat} {best : Option Nat}
    (h : is.foldl f best = none) : best = none ∧ ∀ k ∈ is, P k := by
  induction is generalizing best with
  | nil => exact ⟨h, fun _ hk => absurd hk List.not_mem_nil⟩
  | cons k ks ih =>
    obtain ⟨hnow, hlater⟩ := ih h
    obtain ⟨hbest, hk⟩ := hstep best k hnow
    exact ⟨hbest, List.forall_mem_cons.2 ⟨hk, hlater⟩⟩

theorem oldestCell_eq_none {s : State} {p : Cell → Bool} (h : oldestCell s p = none) {k : Nat} {c : Cell}
    (hc : s.cellAt k = some c) : p c = false := by
  have hnone := foldl_eq_none (P := fun k => ∀ c, s.cellAt k = some c → p c = false) (fun best k hstep => ?_) h
  · exact hnone.2 k (List.mem_range.2 (lt_length_of_slotAt hc)) c hc
  · cases hk : s.cellAt k with
    | none => exact ⟨by simpa only [hk] using hstep, fun c hc => absurd hc (by simp)⟩
    | some d =>
      simp only [hk] at hstep
      by_cases hp : p d = true
      · rw [if_pos hp] at hstep
        cases hb : best.bind s.cellAt with
        | none =>
          simp only [hb] at hstep
          cases hstep
        | some b =>
          simp only [hb] at hstep
          split at hstep
          · cases hstep
          · rw [hstep] at hb
            cases hb
      · rw [if_neg hp] at hstep
        refine ⟨hstep, fun c hc => ?_⟩
        obtain rfl := Option.some.inj hc
        exact Bool.eq_false_iff.2 hp

/-- The arbiter chooses a candidate, a RED one where one is. -/
theorem chooseRelease_holds {s : State} {i : Nat} {c : Cell} (h : chooseRelease s = some i) (hc : s.cellAt i = some c) :
    candidate c = true ∧
      ((∃ k d, s.cellAt k = some d ∧ candidate d = true ∧ d.tray.urgency = .red) → c.tray.urgency = .red) := by
  unfold chooseRelease at h
  cases hred : oldestCell s (fun c => candidate c && c.tray.urgency = .red) with
  | some j =>
    simp only [hred] at h
    obtain rfl := Option.some.inj h
    obtain ⟨d, hd, hp⟩ := oldestCell_holds hred
    obtain rfl := Option.some.inj (hc.symm.trans hd)
    obtain ⟨hcand, hurgent⟩ := Bool.and_eq_true_iff.1 hp
    exact ⟨hcand, fun _ => of_decide_eq_true hurgent⟩
  | none =>
    simp only [hred] at h
    refine ⟨?_, fun ⟨k, d, hd, hcand, hurgent⟩ => ?_⟩
    · by_cases hskip : s.skipMode = true
      · rw [if_pos hskip] at h
        obtain ⟨d, hd, hp⟩ := oldestCell_holds h
        obtain rfl := Option.some.inj (hc.symm.trans hd)
        exact hp
      · rw [if_neg hskip] at h
        have hany := (Option.filter_eq_some_iff.1 h).2
        rw [hc] at hany
        exact hany
    · have hnone := oldestCell_eq_none hred hd
      rw [hcand, hurgent] at hnone
      exact absurd hnone (by decide)

/-- What a candidate is: GRANTED, by a grant marked as the tray is. -/
theorem candidate_parts {c : Cell} (h : candidate c = true) :
    c.tray.dstate = .granted ∧ c.tray.grant.any Grant.marked = c.tray.quarantine := by
  obtain ⟨hd, hg⟩ := Bool.and_eq_true_iff.1 h
  refine ⟨of_decide_eq_true hd, ?_⟩
  obtain ⟨g, hg', hmark⟩ := (Option.any_eq_true _ _).1 hg
  rw [hg']
  exact of_decide_eq_true hmark

/-! ### Driving the shuttle -/

/-- The release of the tray in cell `i` has begun. -/
structure ReleaseBegun (i : Nat) (c : Cell) (s t : State) : Prop where
  release : t.dsp.release = some i
  timeout : t.dsp.shuttleAt = some (s.nowMs + 10000)
  cell : t.cellAt i = some { c with tray := { c.tray with dstate := .releasing } }
  others : ∀ k, k ≠ i → t.cellAt k = s.cellAt k
  lnk : t.lnk = s.lnk
  trc : t.trc = s.trc
  stc : t.stc = s.stc

theorem releaseBegun_driveShuttle {i : Nat} {c : Cell} {s : State} (h : s.cellAt i = some c) :
    ReleaseBegun i c s (driveShuttle i s) :=
  ⟨rfl, rfl, cellAt_updateCell_same h (fun x => { x with tray := { x.tray with dstate := .releasing } }),
    fun _ hk => cellAt_updateCell_of_ne hk _ s, rfl, rfl, rfl⟩

theorem beginRelease_of {s : State} (h : releaseAllowed s = true) : beginRelease s = arbitrate 13 s := if_pos h

theorem arbitrate_stops {s : State} (n : Nat) (h : chooseRelease s = none) : arbitrate (n + 1) s = s := by
  rw [arbitrate]
  simp only [h]

theorem arbitrate_drives {i : Nat} {c : Cell} {s : State} (n : Nat) (h : chooseRelease s = some i) (hc : s.cellAt i = some c)
    (hkept : projectedSpent s c.tray = false ∨ c.tray.quarantine = true) : arbitrate (n + 1) s = driveShuttle i s := by
  rw [arbitrate]
  simp only [h]
  rw [projectCell_same hc hkept, hc]
  exact if_pos (chooseRelease_holds h hc).1

theorem arbitrate_again {i : Nat} {c : Cell} {s : State} (n : Nat) (h : chooseRelease s = some i)
    (hc : (projectCell i s).cellAt i = some c) (hcand : candidate c = false) :
    arbitrate (n + 1) s = arbitrate n (projectCell i s) := by
  rw [arbitrate]
  simp only [h]
  rw [hc]
  exact if_neg (by rw [Option.any_some, hcand]; decide)

/-! ### The end of a release -/

theorem shuttleEnd_of {i : Nat} {c : Cell} {s : State} (hrole : s.role = .dispatch) (hi : s.dsp.release = some i)
    (hc : s.cellAt i = some c) : shuttleEnd s = endRelease i c s := by
  rw [shuttleEnd, if_pos hrole]
  simp only [hi, hc]

/-- The state with its shuttle at rest. -/
def restShuttle (s : State) : State := { s with dsp.release := none, dsp.shuttleAt := none }

/-- The state of a release's end with the trace entry written and the TRAY-PASS queued, its cell not yet empty. -/
def passedOn (c : Cell) (s : State) : State :=
  queuePass (releasePass c.tray) (writeTrace (releaseEntry c.tray s.stc.clock) (restShuttle s))

theorem endRelease_eq (i : Nat) (c : Cell) (s : State) :
    endRelease i c s = settleFlow { emptyCell i (passedOn c s) with
      dsp.releases := bump (emptyCell i (passedOn c s)).dsp.releases 1 } := rfl

theorem queuePass_frame (f : Frame) (s : State) :
    { queuePass f s with lnk.mainQ := s.lnk.mainQ, dsp.pendingPass := s.dsp.pendingPass } = s := by
  unfold queuePass pushMain
  split <;> rfl

theorem queuePass_queue (f : Frame) (s : State) :
    (s.lnk.mainQ.length < 16 → (queuePass f s).lnk.mainQ = s.lnk.mainQ ++ [f]) ∧
      (16 ≤ s.lnk.mainQ.length → (queuePass f s).dsp.pendingPass = some f) := by
  refine ⟨fun hroom => ?_, fun hfull => ?_⟩
  · have hone := (mainHasRoom_one_iff s).2 hroom
    rw [queuePass, if_pos hone, pushMain_room _ _ hone]
  · rw [queuePass, if_neg fun hone => absurd ((mainHasRoom_one_iff s).1 hone) (by omega)]

theorem passedOn_parts (c : Cell) (s : State) :
    (passedOn c s).tray = s.tray ∧ (passedOn c s).lot = s.lot ∧ (passedOn c s).dsp.release = none ∧
      (passedOn c s).dsp.shuttleAt = none ∧ (passedOn c s).dsp.releases = s.dsp.releases ∧
      (passedOn c s).trc = (writeTrace (releaseEntry c.tray s.stc.clock) (restShuttle s)).trc ∧
      (s.lnk.mainQ.length < 16 → (passedOn c s).lnk.mainQ = s.lnk.mainQ ++ [releasePass c.tray]) ∧
      (16 ≤ s.lnk.mainQ.length → (passedOn c s).dsp.pendingPass = some (releasePass c.tray)) := by
  have hframe := queuePass_frame (releasePass c.tray) (writeTrace (releaseEntry c.tray s.stc.clock) (restShuttle s))
  have hqueue := queuePass_queue (releasePass c.tray) (writeTrace (releaseEntry c.tray s.stc.clock) (restShuttle s))
  have htrc := congrArg State.trc hframe
  have htray := congrArg State.tray hframe
  have hlot := congrArg State.lot hframe
  have hrelease := congrArg (fun u : State => u.dsp.release) hframe
  have hshuttle := congrArg (fun u : State => u.dsp.shuttleAt) hframe
  have hreleases := congrArg (fun u : State => u.dsp.releases) hframe
  simp only [writeTrace_tray, writeTrace_lot, writeTrace_dsp, writeTrace_lnk] at htray hlot hrelease hshuttle hreleases hqueue
  exact ⟨htray, hlot, hrelease, hshuttle, hreleases, htrc, hqueue⟩

/-- Settles O39: the arbiter round by round, the end of a release, and the two timers of its ends. -/
theorem releasesBeginAndEnd : Obligations.ReleasesBeginAndEnd := by
  refine ⟨⟨fun i c s hallowed hi hc hkept => ?_, fun i c g s hrole hi hc hg hroom => ?_, fun s hrole hnone => ?_,
    fun d s hd hmode => ?_, fun f s hf hlen => ?_⟩, fun i c s hallowed hi hc hspent hq => ?_⟩
  · have hbegun := releaseBegun_driveShuttle hc
    obtain ⟨hcand, hred⟩ := chooseRelease_holds hi hc
    exact ⟨_, congrArg Host.Outcome.next ((beginRelease_of hallowed).trans (arbitrate_drives 12 hi hc hkept)), hbegun.release,
      hbegun.timeout, hbegun.cell, hbegun.others, hcand, hred, hbegun.lnk, hbegun.trc, hbegun.stc⟩
  · intro f
    obtain ⟨htray, hlot, hrelease, hshuttle, hreleases, htrc, hqueue, hpending⟩ := passedOn_parts c s
    have hpass : releasePass c.tray = f := by
      unfold releasePass
      rw [hg]
      rfl
    have hentry : releaseEntry c.tray s.stc.clock = .release c.tray.id c.tray.lot c.tray.product c.tray.order g.chamber g.lane
        c.tray.exposure c.tray.urgency s.stc.clock := by
      unfold releaseEntry
      rw [hg]
      rfl
    have hcell : (passedOn c s).cellAt i = some c := (cellAt_of_tray htray i).trans hc
    have hempty := emptyCell_eq hcell
    refine ⟨_, congrArg Host.Outcome.next ((shuttleEnd_of hrole hi hc).trans (endRelease_eq i c s)), ?_, ?_, ?_, ?_, ?_, ?_, ?_,
      ?_⟩ <;> simp only [hempty]
    · simpa using hrelease
    · simpa using hshuttle
    · rw [State.cellAt, settleFlow_tray, lotDepart_tray]
      exact slotAt_set_none _ _
    · have hwritten := writeTrace_entries (releaseEntry c.tray s.stc.clock) (restShuttle s)
      rw [if_pos (show (restShuttle s).trc.entries.length < ringSize from hroom), hentry] at hwritten
      simpa [htrc, hentry, restShuttle] using hwritten
    · intro hlen
      simpa [hpass] using hqueue hlen
    · intro hlen
      simpa [hpass] using hpending hlen
    · simp [hreleases, bump, countMax]
    · refine (settleFlow_lot _).trans ?_
      exact updateNamed_lot (s := s) (t := { passedOn c s with tray.cells := (passedOn c s).tray.cells.set i none }) hlot
        c.tray.lot LotRec.depart
  · refine congrArg Host.Outcome.next ?_
    rw [shuttleEnd, if_pos hrole]
    simp only [hnone]
    rfl
  · have hseries : seriesMode s.mode = true := by
      rcases hmode with h | h | h <;> rw [h] <;> rfl
    have hfault : (enterFault .shuttle (timeTo d { s with dsp.shuttleAt := none })).mode = .fault := by
      simp [State.mode, enterFault]
    have ht : exec .shuttleTimeout s =
        .next (settleFlow (enterFault .shuttle (timeTo d { s with dsp.shuttleAt := none }))) := by
      refine congrArg Host.Outcome.next ?_
      unfold shuttleTimeOut
      simp only [hd]
      exact if_pos hseries
    refine ⟨_, ht, (settleFlow_mode _).trans hfault, ?_, ?_, ?_, ?_, settleFlow_permit_of_mode (by simp [hfault])
      (by simp [hfault]), ?_⟩
    · simp [enterFault]
    · refine latchedNotice_of_latched_or (x := s.stc.latched) ?_
      simp [enterFault]
    · simp [enterFault]
    · simp [enterFault]
    · simp [enterFault]
  · refine congrArg Host.Outcome.next ?_
    have hone : mainHasRoom s 1 = true := (mainHasRoom_one_iff s).2 hlen
    unfold queuePendingPass
    simp only [hf]
    rw [if_pos hone, pushMain_room f { s with dsp.pendingPass := none } hone]
  · intro u
    obtain ⟨hcand, -⟩ := chooseRelease_holds hi hc
    obtain ⟨hgranted, hmarked⟩ := candidate_parts hcand
    have hflag := flagged_granted hc hspent hq hgranted (hmarked.trans hq)
    have hrelease : s.dsp.release = none := by
      simp only [releaseAllowed, Bool.and_eq_true] at hallowed
      exact Option.isNone_iff_eq_none.1 hallowed.1.1.1.2
    have hstc : u.stc = s.stc := by have h := congrArg State.stc hflag.rest; exact h
    have hlnk : u.lnk = s.lnk := by have h := congrArg State.lnk hflag.rest; exact h
    have hlot : u.lot = s.lot := by have h := congrArg State.lot hflag.rest; exact h
    have htrc : u.trc = s.trc := by have h := congrArg State.trc hflag.rest; exact h
    have hnow : u.nowMs = s.nowMs := by have h := congrArg State.nowMs hflag.rest; exact h
    have hrel : u.dsp.release = s.dsp.release := by have h := congrArg (fun u : State => u.dsp.release) hflag.rest; exact h
    have hagain : beginRelease s = arbitrate 12 u :=
      (beginRelease_of hallowed).trans (arbitrate_again 12 hi hflag.cell rfl)
    refine ⟨hflag.left, hflag.cell, hflag.others, hflag.slots, hrel.trans hrelease, hlnk, htrc, hstc, hlot, fun hnone => ?_,
      fun k hk d hd hkept => ?_⟩
    · exact congrArg Host.Outcome.next (hagain.trans (arbitrate_stops 11 hnone))
    · have hbegun := releaseBegun_driveShuttle hd
      exact ⟨_, congrArg Host.Outcome.next (hagain.trans (arbitrate_drives 11 hk hd hkept)), hbegun.release,
        hbegun.timeout.trans (by rw [hnow]), hbegun.cell, hbegun.others, hbegun.lnk.trans hlnk, hbegun.trc.trans htrc,
        hbegun.stc.trans hstc⟩

end Sys2Proof.Machine
end

section

/-! ## Family "other": manifests at CHAMBER (R133), and O43 -/

namespace Sys2Proof.Machine

theorem manifestIndex_lt {s : State} {x : TrayId} {i : Nat} (h : manifestIndex s x = some i) : i < s.adm.manifests.length :=
  (List.findIdx?_eq_some_iff_getElem.1 h).1

theorem admissionIndex_lt {s : State} {x : TrayId} {i : Nat} (h : admissionIndex s x = some i) : i < s.adm.table.length :=
  (List.findIdx?_eq_some_iff_getElem.1 h).1

/-- A lane that gives up a reservation, field by field (R133). -/
theorem release_eq (l : Lane) :
    l.release = { l with
      reserved := l.reserved - 1
      order := if l.use = .orders ∧ l.occupancy + (l.reserved - 1) = 0 then none else l.order } := by
  unfold Lane.release Lane.settle
  simp only [Bool.and_eq_true, decide_eq_true_eq]
  split <;> rfl

/-- The manifest `m` stands at index `i`. -/
def placeManifest (i : Nat) (m : Manifest) (s : State) : State := { s with adm.manifests := s.adm.manifests.set i (some m) }

/-! ### Storing -/

section Store

variable {m : Manifest} {s : State}

theorem storeManifest_full (h : manifestIndex s m.tray = none) (hfull : lowestFree s.adm.manifests = none) :
    storeManifest m s = latch .manifestFull (countDroppedManifest s) := by
  unfold storeManifest
  simp only [h, hfull]

theorem storeManifest_new {i : Nat} (h : manifestIndex s m.tray = none) (hi : lowestFree s.adm.manifests = some i) :
    storeManifest m s = placeManifest i m s := by
  unfold storeManifest
  simp only [h, hi]
  rfl

theorem storeManifest_held {i : Nat} (h : manifestIndex s m.tray = some i) :
    storeManifest m s = meetEntry m (placeManifest i m s) := by
  unfold storeManifest
  simp only [h]
  rfl

/-! ### The entry that a replacing manifest meets -/

theorem meetEntry_none (h : admissionIndex s m.tray = none) : meetEntry m s = s := by
  unfold meetEntry
  simp only [h]

variable {j : Nat} {e : Admission} (hj : admissionIndex s m.tray = some j) (he : s.admission j = some e)
include hj he

theorem meetEntry_inbound (hi : e.state = .inbound) : meetEntry m s = s := by
  unfold meetEntry
  simp only [hj, he, hi, if_true]

theorem meetEntry_same (hi : e.state ≠ .inbound) (hq : e.quarantine = m.quarantine) (ho : e.order = m.order) :
    meetEntry m s = setAdmission j (some { e with urgency := m.urgency }) s := by
  unfold meetEntry
  simp only [hj, he, hi, if_false, hq, ho, decide_true, Bool.and_self, if_true]

/-- The state in which the entry of a tray is withdrawn, before ADM serves (R133). -/
def withdrawnEntry (j : Nat) (e : Admission) (s : State) : State :=
  { setAdmission j none (if e.holdsRoom then updateLane e.laneNo Lane.release s else s) with
    adm.withdrawn := bump s.adm.withdrawn 1 }

theorem meetEntry_withdrawn (hi : e.state ≠ .inbound) (hne : ¬ (e.quarantine = m.quarantine ∧ e.order = m.order)) :
    meetEntry m s = serve (withdrawnEntry j e s) := by
  have hdiff : (decide (e.quarantine = m.quarantine) && decide (e.order = m.order)) = false := by
    rwa [← Bool.decide_and, decide_eq_false_iff_not]
  unfold meetEntry
  simp only [hj, he, hi, if_false, hdiff, Bool.false_eq_true]
  rfl

end Store

theorem holdsRoom_eq_true (e : Admission) : e.holdsRoom = true ↔ e.state ≠ .pending := decide_eq_true_iff

/-- What a withdrawal leaves (R133). -/
theorem withdrawnEntry_parts (j : Nat) (e : Admission) (s : State) :
    (withdrawnEntry j e s).adm.table = s.adm.table.set j none ∧
      (withdrawnEntry j e s).adm.withdrawn = bump s.adm.withdrawn 1 ∧
      (withdrawnEntry j e s).adm.manifests = s.adm.manifests ∧
      (∀ n, (withdrawnEntry j e s).lane n =
        if e.state ≠ .pending ∧ n = e.laneNo then (s.lane n).map Lane.release else s.lane n) ∧
      { withdrawnEntry j e s with
        adm.manifests := s.adm.manifests
        adm.table := s.adm.table
        adm.lanes := s.adm.lanes
        adm.withdrawn := s.adm.withdrawn } = s := by
  have hroom := holdsRoom_eq_true e
  by_cases hp : e.state = .pending
  · have hkept : withdrawnEntry j e s = { setAdmission j none s with adm.withdrawn := bump s.adm.withdrawn 1 } := by
      rw [withdrawnEntry, if_neg fun h => hroom.1 h hp]
    rw [hkept]
    refine ⟨rfl, rfl, rfl, fun n => ?_, rfl⟩
    rw [if_neg fun h => h.1 hp]
    rfl
  · have hgiven : withdrawnEntry j e s =
        { setAdmission j none (updateLane e.laneNo Lane.release s) with adm.withdrawn := bump s.adm.withdrawn 1 } := by
      rw [withdrawnEntry, if_pos (hroom.2 hp)]
    rw [hgiven]
    refine ⟨?_, rfl, ?_, fun n => ?_, ?_⟩
    · show (updateLane e.laneNo Lane.release s).adm.table.set j none = _
      rw [updateLane_adm]
    · show (updateLane e.laneNo Lane.release s).adm.manifests = _
      rw [updateLane_adm]
    · refine (lane_updateLane e.laneNo n Lane.release s).trans ?_
      by_cases hn : n = e.laneNo
      · rw [if_pos hn, if_pos ⟨hp, hn⟩]
      · rw [if_neg hn, if_neg fun h => hn h.2]
    · unfold updateLane
      split <;> rfl

theorem exec_manifest {src tgt : BitVec 5} {s : State} (h : TakenFrom .manifest src tgt s) (p : ManifestFields) :
    exec (.manifest src tgt p) s =
      .next (if s.mode = .sanitising then countDroppedManifest s else storeManifest (readManifest src.toNat p s) s) :=
  congrArg Host.Outcome.next (receive_taken h _)

/-- Settles O43: by what the tables hold for the manifest's tray. -/
theorem manifestIsStoredOrDropped : Obligations.ManifestIsStoredOrDropped := by
  refine ⟨fun src tgt p s ht => ⟨fun hmode => ?_, fun hmode hnone => ⟨fun hfull => ?_, fun i hi => ?_⟩,
    fun i hmode hi hentry => ?_⟩, fun src tgt p i j e s ht hmode hi hj he => ?_⟩
  · rw [exec_manifest ht, if_pos hmode]
    rfl
  · rw [exec_manifest ht, if_neg hmode, storeManifest_full hnone hfull]
    rfl
  · rw [exec_manifest ht, if_neg hmode, storeManifest_new hnone hi]
    exact ⟨readManifest src.toNat p s, rfl, rfl, rfl, rfl, rfl, rfl, rfl, rfl, rfl⟩
  · rw [exec_manifest ht, if_neg hmode, storeManifest_held hi,
      meetEntry_none (m := readManifest src.toNat p s) (s := placeManifest i (readManifest src.toNat p s) s) hentry]
    exact ⟨readManifest src.toNat p s, rfl, rfl, rfl, rfl, rfl⟩
  · intro same kept
    have hstored : exec (.manifest src tgt p) s =
        .next (meetEntry (readManifest src.toNat p s) (placeManifest i (readManifest src.toNat p s) s)) := by
      rw [exec_manifest ht, if_neg hmode, storeManifest_held hi]
    have hkept (u : State) (hu : u.adm.manifests = s.adm.manifests.set i (some (readManifest src.toNat p s))) : kept u :=
      ⟨readManifest src.toNat p s, by rw [hu]; exact slotAt_set_same (manifestIndex_lt hi) _, rfl, rfl, rfl, rfl, rfl, rfl,
        rfl, rfl, hu⟩
    refine ⟨fun hin => ?_, fun hin hsame => ?_, fun hin hsame => ?_⟩
    · rw [hstored, meetEntry_inbound (m := readManifest src.toNat p s) (s := placeManifest i (readManifest src.toNat p s) s)
        hj he hin]
      exact ⟨_, rfl, hkept _ rfl, rfl⟩
    · obtain ⟨hq, ho⟩ := of_decide_eq_true hsame
      rw [hstored, meetEntry_same (m := readManifest src.toNat p s) (s := placeManifest i (readManifest src.toNat p s) s)
        hj he hin hq ho]
      refine ⟨_, rfl, hkept _ rfl, slotAt_set_same (admissionIndex_lt hj) _, fun k hk => ?_, rfl⟩
      exact (admission_setAdmission_of_ne (Ne.symm hk) _ _)
    · have hne := of_decide_eq_false hsame
      obtain ⟨htable, hcount, hmanifests, hlanes, hrest⟩ :=
        withdrawnEntry_parts j e (placeManifest i (readManifest src.toNat p s) s)
      rw [hstored, meetEntry_withdrawn (m := readManifest src.toNat p s) (s := placeManifest i (readManifest src.toNat p s) s)
        hj he hin hne]
      refine ⟨_, rfl, hkept _ hmanifests, (admission_set_none htable j).trans (if_pos rfl),
        fun k hk => (admission_set_none htable k).trans (if_neg hk), hcount, fun n => ?_, ?_⟩
      · rw [hlanes, ← funext release_eq]
        rfl
      · exact congrArg (fun u : State => { u with adm.manifests := s.adm.manifests }) hrest

end Sys2Proof.Machine
end

section

/-! ## Family "other": placement and serving at CHAMBER (R132, R138) -/

namespace Sys2Proof.Machine

/-! ### The roomiest lane (R132) -/

/-- The choice between the best lane so far and the lane at an index. -/
def roomierOf (lanes : List Lane) (use : LaneUse) (best : Option Nat) (i : Nat) : Option Nat :=
  match lanes[i]? with
  | none => best
  | some l =>
    if l.use = use && l.available then
      match best.bind (fun j => lanes[j]?) with
      | none => some i
      | some b => if b.freeRoom < l.freeRoom then some i else best
    else best

theorem roomiest_eq (lanes : List Lane) (use : LaneUse) :
    roomiest lanes use = (List.range lanes.length).foldl (roomierOf lanes use) none := rfl

section Roomiest

variable {lanes : List Lane} {use : LaneUse} {best : Option Nat} {i j : Nat} {b l : Lane}

theorem roomierOf_skip (h : ∀ l : Lane, lanes[i]? = some l → (l.use = use && l.available) = false) :
    roomierOf lanes use best i = best := by
  unfold roomierOf
  split
  · rfl
  · next l hl => rw [h l hl, if_neg (by decide)]

theorem roomierOf_none (hl : lanes[i]? = some l) (ha : (l.use = use && l.available) = true) :
    roomierOf lanes use none i = some i := by
  unfold roomierOf
  simp only [hl]
  rw [if_pos ha]
  rfl

theorem roomierOf_some (hl : lanes[i]? = some l) (ha : (l.use = use && l.available) = true) (hb : lanes[j]? = some b) :
    roomierOf lanes use (some j) i = if b.freeRoom < l.freeRoom then some i else some j := by
  unfold roomierOf
  simp only [hl, Option.bind_some, hb]
  rw [if_pos ha]

/-- The roomiest lane of the first `n`. -/
def roomiestBelow (lanes : List Lane) (use : LaneUse) (n : Nat) : Option Nat :=
  (List.range n).foldl (roomierOf lanes use) none

theorem roomiestBelow_succ (n : Nat) :
    roomiestBelow lanes use (n + 1) = roomierOf lanes use (roomiestBelow lanes use n) n := by
  rw [roomiestBelow, List.range_succ, List.foldl_append]
  rfl

theorem roomiestBelow_available (n : Nat) (h : roomiestBelow lanes use n = some j) :
    j < n ∧ ∃ m, lanes[j]? = some m ∧ (m.use = use && m.available) = true := by
  induction n generalizing j with
  | zero => cases h
  | succ n ih =>
    rw [roomiestBelow_succ] at h
    have hkeep (hb : roomiestBelow lanes use n = some j) :
        j < n + 1 ∧ ∃ m, lanes[j]? = some m ∧ (m.use = use && m.available) = true :=
      ⟨Nat.lt_succ_of_lt (ih hb).1, (ih hb).2⟩
    by_cases ha : ∃ l, lanes[n]? = some l ∧ (l.use = use && l.available) = true
    · obtain ⟨l, hl, ha⟩ := ha
      have htake (hj : some n = some j) : j < n + 1 ∧ ∃ m, lanes[j]? = some m ∧ (m.use = use && m.available) = true :=
        Option.some.inj hj ▸ ⟨Nat.lt_succ_self n, l, hl, ha⟩
      cases hb : roomiestBelow lanes use n with
      | none =>
        rw [hb, roomierOf_none hl ha] at h
        exact htake h
      | some k =>
        obtain ⟨-, m, hm, -⟩ := ih hb
        rw [hb, roomierOf_some hl ha hm] at h
        split at h
        · exact htake h
        · exact hkeep (hb.trans h)
    · rw [roomierOf_skip fun l hl => Bool.eq_false_iff.2 fun h => ha ⟨l, hl, h⟩] at h
      exact hkeep h

theorem roomiest_eq_none
    (h : ∀ (k : Nat) (m : Lane), lanes[k]? = some m → (m.use = use && m.available) = false) :
    roomiest lanes use = none := by
  cases hr : roomiest lanes use with
  | none => rfl
  | some j =>
    obtain ⟨-, m, hm, ha⟩ := roomiestBelow_available lanes.length (hr ▸ roomiest_eq lanes use).symm
    exact absurd ((h j m hm).symm.trans ha) (by decide)

theorem roomiest_eq_some (hl : lanes[i]? = some l) (ha : (l.use = use && l.available) = true)
    (hmost : ∀ (k : Nat) (m : Lane), lanes[k]? = some m → (m.use = use && m.available) = true →
      m.freeRoom ≤ l.freeRoom ∧ (m.freeRoom = l.freeRoom → i ≤ k)) : roomiest lanes use = some i := by
  have hbelow (n : Nat) (hn : i < n) : roomiestBelow lanes use n = some i := by
    induction n with
    | zero => exact absurd hn (by omega)
    | succ n ih =>
      rw [roomiestBelow_succ]
      rcases Nat.lt_or_eq_of_le (Nat.le_of_lt_succ hn) with hlt | rfl
      · rw [ih hlt]
        by_cases hb : ∃ m, lanes[n]? = some m ∧ (m.use = use && m.available) = true
        · obtain ⟨m, hm, hb⟩ := hb
          have hle := (hmost n m hm hb).1
          rw [roomierOf_some hm hb hl, if_neg (by omega)]
        · exact roomierOf_skip fun m hm => Bool.eq_false_iff.2 fun h => hb ⟨m, hm, h⟩
      · cases hb : roomiestBelow lanes use i with
        | none => exact roomierOf_none hl ha
        | some j =>
          obtain ⟨hj, b, hbl, hba⟩ := roomiestBelow_available i hb
          obtain ⟨hle, hfirst⟩ := hmost j b hbl hba
          have hless : b.freeRoom < l.freeRoom := by
            rcases Nat.lt_or_eq_of_le hle with hlt | heq
            · exact hlt
            · exact absurd (hfirst heq) (by omega)
          rw [roomierOf_some hl ha hbl, if_pos hless]
  exact hbelow lanes.length (List.getElem?_eq_some_iff.1 hl).1

end Roomiest

/-! ### Placements (R132) -/

theorem neededUse_orders_iff (quarantine : Bool) (order : Option Nat) :
    neededUse quarantine order = .orders ↔ quarantine = false ∧ order ≠ none := by
  cases quarantine <;> cases order <;> simp [neededUse]

theorem placement_of_roomiest (lanes : List Lane) {quarantine : Bool} {order : Option Nat}
    (h : quarantine = true ∨ order = none) :
    placement lanes quarantine order =
      (roomiest lanes (if quarantine then .quarantine else .stock)).map (· + 1) := by
  cases quarantine with
  | true => rfl
  | false =>
    obtain rfl : order = none := h.resolve_left (by decide)
    rfl

theorem placement_of_order (lanes : List Lane) (order : Nat) :
    placement lanes false (some order) =
      match laneOfOrder lanes (some order) with
      | some i => if (lanes[i]?).any Lane.available then some (i + 1) else none
      | none => (lanes.findIdx? (fun l => l.use = .orders && l.occupancy + l.reserved = 0)).map (· + 1) := rfl

/-- The first of a list, by index. -/
theorem findIdx?_first {α : Type} {l : List α} {p : α → Bool} {i : Nat} {x : α} (hx : l[i]? = some x) (hp : p x = true)
    (hfirst : ∀ k y, l[k]? = some y → k < i → p y = false) : l.findIdx? p = some i := by
  obtain ⟨hi, rfl⟩ := List.getElem?_eq_some_iff.1 hx
  refine List.findIdx?_eq_some_iff_getElem.2 ⟨hi, hp, fun k hk => ?_⟩
  have hfalse := hfirst k l[k] (List.getElem?_eq_getElem (by omega)) hk
  rw [hfalse]
  decide

/-! ### Serving one entry (R138) -/

/-- An entry that has been given lane `n`. -/
def readyEntry (e : Admission) (n : Nat) (s : State) : Admission :=
  { e with state := .ready, lane := some n, stateTime := s.stc.clock, stateSince := s.nowMs }

/-- A lane that takes a reservation for an entry. -/
def reservedLane (e : Admission) (l : Lane) : Lane :=
  { l with reserved := l.reserved + 1, order := if e.quarantine = false ∧ e.order ≠ none then e.order else l.order }

section ServeEntry

variable {i n : Nat} {e : Admission} {s : State} (he : s.admission i = some e)
include he

theorem serveEntry_unplaced (hp : placement s.adm.lanes e.quarantine e.order = none) : serveEntry i s = s := by
  unfold serveEntry
  simp only [he, hp]

variable (hp : placement s.adm.lanes e.quarantine e.order = some n)
include hp

theorem serveEntry_placed :
    serveEntry i s = setAdmission i (some (readyEntry e n s)) (updateLane n (reservedLane e) s) := by
  have hlane : (fun l : Lane =>
      { l.reserve with order := if neededUse e.quarantine e.order = .orders then e.order else l.order }) = reservedLane e := by
    funext l
    simp only [neededUse_orders_iff]
    rfl
  unfold serveEntry
  simp only [he, hp]
  rw [← hlane]
  rfl

theorem serveEntry_table : (serveEntry i s).adm.table = s.adm.table.set i (some (readyEntry e n s)) := by
  rw [serveEntry_placed he hp]
  show (updateLane n (reservedLane e) s).adm.table.set i _ = _
  rw [updateLane_adm]

theorem serveEntry_admission (k : Nat) :
    (serveEntry i s).admission k = if k = i then some (readyEntry e n s) else s.admission k := by
  unfold State.admission
  rw [serveEntry_table he hp]
  split
  · next hk => exact hk ▸ slotAt_set_same (lt_length_of_slotAt he) _
  · next hk => exact slotAt_set_of_ne hk _

theorem serveEntry_lane (k : Nat) :
    (serveEntry i s).lane k = if k = n then (s.lane n).map (reservedLane e) else s.lane k := by
  rw [serveEntry_placed he hp]
  refine (lane_updateLane n k (reservedLane e) s).trans ?_
  split
  · next hk => rw [hk]
  · rfl

/-- With one trace entry free, the entry served is the only one. -/
theorem mayServe_serveEntry (hpending : e.state = .pending) (hone : traceFree s = reservedTotal s + 1) :
    mayServe (serveEntry i s) = false := by
  have htotal := reservedTotal_set (serveEntry_table he hp) (lt_length_of_slotAt he)
  rw [he, roomHeld_of_pending (by simp [Admission.holdsRoom, hpending]), roomHeld_of_holdsRoom rfl] at htotal
  have hfree : traceFree (serveEntry i s) = traceFree s := by rw [traceFree, serveEntry_trc]; rfl
  unfold mayServe
  rw [hfree, hone, decide_eq_false (p := reservedTotal _ + 1 ≤ _) (by omega), Bool.and_false]

end ServeEntry

theorem serveEntry_rest (i : Nat) (s : State) :
    { serveEntry i s with adm.table := s.adm.table, adm.lanes := s.adm.lanes } = s := by
  unfold serveEntry
  split
  · rfl
  split
  · rfl
  · unfold updateLane
    split <;> rfl

/-! ### Serving the list (R138) -/

theorem serveList_stopped {s : State} (h : mayServe s = false) (l : List Nat) : serveList l s = s := by
  cases l with
  | nil => rfl
  | cons i is => rw [serveList, h, if_neg (by decide)]

theorem serveList_cons {s : State} (h : mayServe s = true) (i : Nat) (is : List Nat) :
    serveList (i :: is) s = serveList is (serveEntry i s) := by rw [serveList, h, if_pos rfl]

theorem serveList_rest (l : List Nat) (s : State) :
    { serveList l s with adm.table := s.adm.table, adm.lanes := s.adm.lanes } = s := by
  induction l generalizing s with
  | nil => rfl
  | cons i is ih =>
    cases h : mayServe s with
    | false => rw [serveList_stopped h]
    | true =>
      rw [serveList_cons h]
      have hrest := ih (serveEntry i s)
      exact (congrArg (fun u : State => { u with adm.table := s.adm.table, adm.lanes := s.adm.lanes }) hrest).trans
        (serveEntry_rest i s)

/-- Serving changes the table and the lanes alone. -/
theorem serve_rest (s : State) : { serve s with adm.table := s.adm.table, adm.lanes := s.adm.lanes } = s := by
  unfold serve
  split
  · exact serveList_rest _ s
  · rfl

theorem serve_of_chamber {s : State} (h : s.role = .chamber) : serve s = serveList (pendingRanked s) s := if_pos h

theorem serve_eq_self {s : State} (h : s.role ≠ .chamber ∨ s.mode ≠ .running ∨ traceFree s ≤ reservedTotal s) :
    serve s = s := by
  unfold serve
  split
  · next hrole =>
    refine serveList_stopped ?_ _
    unfold mayServe
    rcases h with h | h | h
    · exact absurd hrole h
    · rw [decide_eq_false h, Bool.false_and]
    · rw [decide_eq_false (p := reservedTotal s + 1 ≤ _) (by omega), Bool.and_false]
  · rfl

theorem mayServe_of {s : State} (hmode : s.mode = .running) (hone : traceFree s = reservedTotal s + 1) : mayServe s = true := by
  unfold mayServe
  rw [hmode, hone]
  simp

/-! ### The ranking (R138) -/

theorem orderBefore_asymm {a b : BitVec 32} (h : orderBefore a b = true) : orderBefore b a = false := by
  simp only [orderBefore, Bool.and_eq_true, decide_eq_true_eq] at h
  simp only [orderBefore, Bool.and_eq_false_iff, decide_eq_false_iff_not]
  bv_omega

theorem insertRanked_first {before : Nat → Nat → Bool} {i : Nat} {l : List Nat}
    (hi : i ∈ l) (hfirst : ∀ k ∈ l, k ≠ i → before i k = true ∧ before k i = false) :
    ∃ rest, l.foldr (insertRanked before) [] = i :: rest := by
  have hmem (l : List Nat) (y : Nat) (hy : y ∈ l.foldr (insertRanked before) []) : y ∈ l := by
    induction l with
    | nil => exact hy
    | cons x xs ih =>
      rw [List.foldr_cons, (insertRanked_perm before x _).mem_iff, List.mem_cons] at hy
      exact List.mem_cons.2 (hy.imp id ih)
  induction l with
  | nil => exact absurd hi List.not_mem_nil
  | cons x xs ih =>
    rw [List.foldr_cons]
    by_cases hx : x = i
    · subst hx
      cases hys : xs.foldr (insertRanked before) [] with
      | nil => exact ⟨[], rfl⟩
      | cons y ys =>
        have hy : y ∈ xs := hmem xs y (hys ▸ List.mem_cons_self ..)
        unfold insertRanked
        split
        · exact ⟨_, rfl⟩
        · next hb =>
          by_cases hyx : y = x
          · exact ⟨_, by rw [hyx]⟩
          · exact absurd (hfirst y (List.mem_cons_of_mem _ hy) hyx).1 hb
    · have hixs : i ∈ xs := (List.mem_cons.1 hi).resolve_left (Ne.symm hx)
      obtain ⟨rest, hrest⟩ := ih hixs fun k hk => hfirst k (List.mem_cons_of_mem _ hk)
      have hafter := (hfirst x (List.mem_cons_self ..) hx).2
      rw [hrest]
      unfold insertRanked
      rw [hafter, if_neg (by decide)]
      exact ⟨_, rfl⟩

theorem mem_pendingRanked {s : State} {k : Nat} :
    k ∈ pendingRanked s ↔ ∃ e, s.admission k = some e ∧ e.state = .pending := by
  rw [(pendingRanked_perm s).mem_iff, List.mem_filter, List.mem_range, Option.any_eq_true]
  simp only [decide_eq_true_eq]
  exact ⟨fun h => h.2, fun ⟨e, he, hp⟩ => ⟨lt_length_of_slotAt he, e, he, hp⟩⟩

theorem ranksBefore_of {s : State} {i k : Nat} {e d : Admission} (he : s.admission i = some e) (hd : s.admission k = some d)
    (h : e.urgency = .red ∧ d.urgency ≠ .red ∨
      (e.urgency = .red ↔ d.urgency = .red) ∧ orderBefore e.creation d.creation = true) :
    ranksBefore s i k = true ∧ ranksBefore s k i = false := by
  unfold ranksBefore
  simp only [he, hd]
  rcases h with ⟨hred, hnot⟩ | ⟨hsame, horder⟩
  · have hne : ¬ ((e.urgency = .red) = (d.urgency = .red)) := fun h => hnot (h ▸ hred)
    rw [if_neg hne, if_neg (Ne.symm hne), decide_eq_true hred, decide_eq_false hnot]
    exact ⟨rfl, rfl⟩
  · rw [if_pos (propext hsame), if_pos (propext hsame.symm)]
    exact ⟨horder, orderBefore_asymm horder⟩

/-! ### Who is served (R138) -/

/-- With one trace entry free, the PENDING entry that ranks first is served, where it has a lane. -/
theorem serve_first {i n : Nat} {e : Admission} {s : State} (hrole : s.role = .chamber) (hmode : s.mode = .running)
    (he : s.admission i = some e) (hpending : e.state = .pending)
    (hp : placement s.adm.lanes e.quarantine e.order = some n) (hone : traceFree s = reservedTotal s + 1)
    (hfirst : ∀ k d, s.admission k = some d → d.state = .pending → k ≠ i →
      e.urgency = .red ∧ d.urgency ≠ .red ∨
        (e.urgency = .red ↔ d.urgency = .red) ∧ orderBefore e.creation d.creation = true) :
    serve s = serveEntry i s := by
  obtain ⟨rest, hrest⟩ : ∃ rest, pendingRanked s = i :: rest := by
    have hmem (k : Nat) : k ∈ (List.range s.adm.table.length).filter
        (fun i => (s.admission i).any (fun e => e.state = .pending)) ↔ ∃ e, s.admission k = some e ∧ e.state = .pending :=
      (pendingRanked_perm s).mem_iff.symm.trans mem_pendingRanked
    refine insertRanked_first ((hmem i).2 ⟨e, he, hpending⟩) fun k hk hki => ?_
    obtain ⟨d, hd, hdp⟩ := (hmem k).1 hk
    exact ranksBefore_of he hd (hfirst k d hd hdp hki)
  rw [serve_of_chamber hrole, hrest, serveList_cons (mayServe_of hmode hone),
    serveList_stopped (mayServe_serveEntry he hp hpending hone)]

/-- With one trace entry free, one of two PENDING entries that has no lane leaves the other to be served. -/
theorem serve_other {i j n : Nat} {e d : Admission} {s : State} (hrole : s.role = .chamber) (hmode : s.mode = .running)
    (hone : traceFree s = reservedTotal s + 1) (he : s.admission i = some e)
    (hnone : placement s.adm.lanes e.quarantine e.order = none) (hd : s.admission j = some d) (hpending : d.state = .pending)
    (hp : placement s.adm.lanes d.quarantine d.order = some n)
    (honly : ∀ k x, s.admission k = some x → x.state = .pending → k = i ∨ k = j) : serve s = serveEntry j s := by
  have hlist (l : List Nat) (hl : ∀ k ∈ l, k = i ∨ k = j) (hj : j ∈ l) : serveList l s = serveEntry j s := by
    induction l with
    | nil => exact absurd hj List.not_mem_nil
    | cons k ks ih =>
      rw [serveList_cons (mayServe_of hmode hone)]
      by_cases hk : k = j
      · rw [hk, serveList_stopped (mayServe_serveEntry hd hp hpending hone)]
      · obtain rfl := (hl k (List.mem_cons_self ..)).resolve_right hk
        rw [serveEntry_unplaced he hnone]
        exact ih (fun m hm => hl m (List.mem_cons_of_mem _ hm)) ((List.mem_cons.1 hj).resolve_left (Ne.symm hk))
  rw [serve_of_chamber hrole]
  refine hlist _ (fun k hk => ?_) (mem_pendingRanked.2 ⟨d, hd, hpending⟩)
  obtain ⟨x, hx, hxp⟩ := mem_pendingRanked.1 hk
  exact honly k x hx hxp

end Sys2Proof.Machine
end

section

/-! ## Family "other": the asks at CHAMBER (R136), and O44 -/

namespace Sys2Proof.Machine

/-- The state in which an ADMIT-REPLY has joined the answer queue (R136). -/
def replied (target : Nat) (id : BitVec 32) (a lane : BitVec 8) (s : State) : State :=
  { s with lnk.answerQ := s.lnk.answerQ ++ [frameTo target (.admitReply id a lane)] }

theorem answer_of_room {s : State} (h : s.lnk.answerQ.length < 8) (target : Nat) (id : BitVec 32) (a : Answer) (lane : Nat) :
    answer target id a lane s = replied target id (BitVec.ofNat 8 a.code) (BitVec.ofNat 8 lane) s := if_pos h

theorem exec_admitAsk {src tgt : BitVec 5} {s : State} (h : TakenFrom .admitAsk src tgt s) (id : BitVec 32) :
    exec (.admitAsk src tgt id) s = .next (takeAsk src.toNat id s) := congrArg Host.Outcome.next (receive_taken h _)

section Ask

variable {source : Nat} {id : BitVec 32} {s : State}

theorem takeAsk_full (h : 8 ≤ s.lnk.answerQ.length) :
    takeAsk source id s = { s with adm.unansweredAsks := bump s.adm.unansweredAsks 1 } := if_pos h

variable (h : s.lnk.answerQ.length < 8)
include h

theorem takeAsk_of_room :
    takeAsk source id s =
      if deniesAsks s.mode then replied source id 4#8 0#8 s
      else
        match admissionIndex s (readTrayId id) with
        | some i =>
          match s.admission i with
          | some e => askEntry i e source id s
          | none => s
        | none => askNew (readTrayId id) source id s := by
  rw [takeAsk, if_neg (show ¬ answerCapacity ≤ s.lnk.answerQ.length from Nat.not_le.2 h), answer_of_room h]
  rfl

theorem takeAsk_denied (hmode : deniesAsks s.mode = true) : takeAsk source id s = replied source id 4#8 0#8 s := by
  rw [takeAsk_of_room h, if_pos hmode]

variable (hmode : deniesAsks s.mode = false)
include hmode

theorem takeAsk_entry {i : Nat} {e : Admission} (hi : admissionIndex s (readTrayId id) = some i)
    (he : s.admission i = some e) : takeAsk source id s = askEntry i e source id s := by
  rw [takeAsk_of_room h, if_neg (by rw [hmode]; decide)]
  simp only [hi, he]

theorem takeAsk_new (hnone : admissionIndex s (readTrayId id) = none) :
    takeAsk source id s = askNew (readTrayId id) source id s := by
  rw [takeAsk_of_room h, if_neg (by rw [hmode]; decide)]
  simp only [hnone]

end Ask

/-! ### An ask for a tray that has an entry -/

section AskEntry

variable {source i : Nat} {id : BitVec 32} {e : Admission} {s : State} (h : s.lnk.answerQ.length < 8)
include h

theorem askEntry_pending (hs : e.state = .pending) :
    askEntry i e source id s =
      replied source id 1#8 0#8 (setAdmission i (some { e with lastAsk := s.stc.clock, askSince := s.nowMs }) s) := by
  unfold askEntry
  split
  · exact answer_of_room (s := setAdmission i (some { e with lastAsk := s.stc.clock, askSince := s.nowMs }) s) h _ _ _ _
  · next hr => exact absurd (hs.symm.trans hr) (by decide)
  · next hc => exact absurd (hs.symm.trans hc) (by decide)
  · next hn => exact absurd (hs.symm.trans hn) (by decide)

/-- A READY entry that is asked for (R136). -/
def claimedEntry (e : Admission) (s : State) : Admission :=
  { e with
    state := .claimed, stateTime := s.stc.clock, claimTime := some s.stc.clock, stateSince := s.nowMs, claimSince := s.nowMs }

theorem askEntry_ready (hs : e.state = .ready) :
    askEntry i e source id s =
      replied source id 3#8 (BitVec.ofNat 8 e.laneNo) (setAdmission i (some (claimedEntry e s)) s) := by
  unfold askEntry
  simp only [hs]
  exact answer_of_room (s := setAdmission i (some (claimedEntry e s)) s) h _ _ _ _

theorem askEntry_claimed (hs : e.state = .claimed ∨ e.state = .inbound) :
    askEntry i e source id s = replied source id 3#8 (BitVec.ofNat 8 e.laneNo) s := by
  refine Eq.trans ?_ (answer_of_room h source id .grant e.laneNo)
  unfold askEntry
  rcases hs with hs | hs <;> simp only [hs]

end AskEntry

/-! ### An ask for a tray that has none -/

section AskNew

variable {t : TrayId} {source : Nat} {id : BitVec 32} {s : State} (h : s.lnk.answerQ.length < 8)
include h

theorem askNew_draining (hmode : s.mode = .draining) : askNew t source id s = replied source id 4#8 0#8 s := by
  rw [askNew, if_pos hmode]
  exact answer_of_room h _ _ _ _

variable (hmode : s.mode ≠ .draining)
include hmode

theorem askNew_full (hfull : lowestFree s.adm.table = none) : askNew t source id s = replied source id 2#8 0#8 s := by
  rw [askNew, if_neg hmode]
  simp only [hfull]
  exact answer_of_room h _ _ _ _

variable {i : Nat} (hi : lowestFree s.adm.table = some i)
include hi

theorem askNew_unknown (hm : manifestOf s t = none) : askNew t source id s = replied source id 1#8 0#8 s := by
  rw [askNew, if_neg hmode]
  simp only [hi, hm]
  exact answer_of_room h _ _ _ _

variable {m : Manifest} (hm : manifestOf s t = some m)
include hm

theorem askNew_noLane (hlane : hasLaneFor s (neededUse m.quarantine m.order) = false) :
    askNew t source id s = replied source id 4#8 0#8 s := by
  rw [askNew, if_neg hmode]
  simp only [hi, hm, hlane, Bool.not_false, if_true]
  exact answer_of_room h _ _ _ _

/-- The state in which the PENDING entry is made, before ADM serves (R136). -/
def madeEntry (i : Nat) (m : Manifest) (s : State) : State :=
  { s with
    adm.table := s.adm.table.set i (some (pendingEntry m s)), adm.nextCreation := nextOrder s.adm.nextCreation }

theorem askNew_made (hlane : hasLaneFor s (neededUse m.quarantine m.order) = true) :
    askNew t source id s = serve (replied source id 1#8 0#8 (madeEntry i m s)) := by
  rw [askNew, if_neg hmode]
  simp only [hi, hm, hlane, Bool.not_true, Bool.false_eq_true, if_false]
  exact congrArg serve (answer_of_room (s := madeEntry i m s) h _ _ _ _)

end AskNew

theorem deniesAsks_iff (m : Mode) : deniesAsks m = true ↔ m = .configuring ∨ m = .sanitising ∨ m = .fault := by
  unfold deniesAsks
  simp only [Bool.or_eq_true, decide_eq_true_eq, or_assoc]

theorem deniesAsks_of_open {m : Mode} (h : m = .running ∨ m = .held ∨ m = .draining) : deniesAsks m = false := by
  rcases h with rfl | rfl | rfl <;> rfl

/-- Settles O44: the answers by the state of the tray, then placement and serving by the lemmas on the ranking. -/
theorem admitAskIsAnswered : Obligations.AdmitAskIsAnswered := by
  refine ⟨fun src tgt id s ht => ?_, fun src tgt id i m s ht hlen hmode hnone hi hm hlane => ?_, fun s h => serve_eq_self h,
    fun lanes quarantine order huse => ?_, fun lanes order => ?_,
    fun i n e s hrole hmode he hpending hp hone hfirst => ?_,
    fun i j n e d s hrole hmode hone he hpending hnone hd hdp hji hp honly => ?_⟩
  · rw [exec_admitAsk ht]
    refine ⟨fun hfull => congrArg Host.Outcome.next (takeAsk_full hfull), fun hlen => ⟨fun hmode => ?_, fun hmode => ?_⟩⟩
    · exact congrArg Host.Outcome.next (takeAsk_denied hlen ((deniesAsks_iff _).2 hmode))
    · have hopen := deniesAsks_of_open hmode
      refine ⟨fun i e hi he => ?_, fun hnone => ?_⟩
      · rw [takeAsk_entry hlen hopen hi he]
        refine ⟨fun hs => ⟨_, rfl, ?_, ?_⟩, fun hs => ⟨_, rfl, ?_, ?_, ?_⟩, fun hs => ?_⟩
        · rw [askEntry_pending hlen hs]
          rfl
        · rw [askEntry_pending hlen hs]
          exact slotAt_set_same (admissionIndex_lt hi) _
        · rw [askEntry_ready hlen hs]
          rfl
        · rw [askEntry_ready hlen hs]
          exact slotAt_set_same (admissionIndex_lt hi) _
        · rw [askEntry_ready hlen hs]
          rfl
        · exact congrArg Host.Outcome.next (askEntry_claimed hlen hs)
      · rw [takeAsk_new hlen hopen hnone]
        refine ⟨fun hd => congrArg Host.Outcome.next (askNew_draining hlen hd), fun hd =>
          ⟨fun hfull => congrArg Host.Outcome.next (askNew_full hlen hd hfull), fun hfree => ?_⟩⟩
        obtain ⟨i, hi⟩ := Option.ne_none_iff_exists'.1 hfree
        refine ⟨fun hm => congrArg Host.Outcome.next (askNew_unknown hlen hd hi hm), fun m hm =>
          ⟨fun hlane => congrArg Host.Outcome.next (askNew_noLane hlen hd hi hm hlane), fun hlane => ⟨_, rfl, ?_⟩⟩⟩
        rw [askNew_made hlen hd hi hm hlane]
        have hrest := serve_rest (replied src.toNat id 1#8 0#8 (madeEntry i m s))
        refine ⟨?_, ?_, ?_⟩
        · rw [serve_lnk]
          rfl
        · have hcreation := congrArg (fun u : State => u.adm.nextCreation) hrest
          exact hcreation
        · rw [serve_lot]
          rfl
  · intro made
    have hopen : deniesAsks s.mode = false := deniesAsks_of_open (by tauto)
    have hdrain : s.mode ≠ .draining := by rcases hmode with h | h <;> rw [h] <;> decide
    rw [exec_admitAsk ht, takeAsk_new hlen hopen hnone, askNew_made hlen hdrain hi hm hlane]
    rfl
  · intro use avail free
    have havail (l : Lane) : (l.use = use && l.available) = avail l := (Bool.decide_and _ _).symm
    rw [placement_of_roomiest lanes huse]
    refine ⟨fun hnone => ?_, fun i l hl ha hmost => ?_⟩
    · rw [roomiest_eq_none fun k m hm => ?_]
      · rfl
      · rw [havail]
        exact Bool.eq_false_iff.2 fun hav =>
          absurd (List.any_eq_true.2 ⟨m, List.mem_of_getElem? hm, hav⟩) (by rw [hnone]; decide)
    · rw [roomiest_eq_some hl ((havail l).trans ha) fun k m hm hav => hmost k m hm ((havail m).symm.trans hav)]
      rfl
  · intro holds empty
    have hholds : (fun l : Lane => decide (l.use = .orders) && decide (l.order = some order)) = holds :=
      funext fun l => (Bool.decide_and _ _).symm
    have hempty : (fun l : Lane => decide (l.use = .orders) && decide (l.occupancy + l.reserved = 0)) = empty :=
      funext fun l => (Bool.decide_and _ _).symm
    have hplace := placement_of_order lanes order
    rw [laneOfOrder, hholds, hempty] at hplace
    rw [hplace]
    have hnone {p : Lane → Bool} (h : lanes.any p = false) : lanes.findIdx? p = none := by
      rw [List.findIdx?_eq_none_iff]
      exact fun x hx => Bool.eq_false_iff.2 fun hp => absurd (List.any_eq_true.2 ⟨x, hx, hp⟩) (by rw [h]; decide)
    refine ⟨fun i l hl hh hfirst => ?_, fun hno => ⟨fun hnoEmpty => ?_, fun i l hl hh hfirst => ?_⟩⟩
    · rw [findIdx?_first hl hh fun k y hy hk => hfirst k y hy hk]
      simp only [hl, Option.any_some, Lane.available, decide_eq_true_eq]
    · rw [hnone hno, hnone hnoEmpty]
      rfl
    · rw [hnone hno, findIdx?_first hl hh fun k y hy hk => hfirst k y hy hk]
      rfl
  · have hserved := serve_first hrole hmode he hpending hp hone hfirst
    refine ⟨?_, fun k hk => ?_, fun k => ?_, serve_rest s⟩
    · rw [hserved, serveEntry_admission he hp, if_pos rfl]
      rfl
    · rw [hserved, serveEntry_admission he hp, if_neg hk]
    · rw [hserved, serveEntry_lane he hp]
      rfl
  · have hserved := serve_other hrole hmode hone he hnone hd hdp hp honly
    refine ⟨?_, fun k hk => ?_⟩
    · rw [hserved, serveEntry_admission hd hp, if_pos rfl]
      rfl
    · rw [hserved, serveEntry_admission hd hp, if_neg hk]

end Sys2Proof.Machine
end

section

/-! ## Family "other": the windows of an entry and of a manifest (R134, R137, R139, R141), and O45 -/

namespace Sys2Proof.Machine

/-! ### The end of an entry -/

/-- The manifests without that of a tray (R134). -/
def manifestsWithout (s : State) (t : TrayId) : List (Option Manifest) :=
  ((manifestIndex s t).map (fun k => s.adm.manifests.set k none)).getD s.adm.manifests

theorem manifestIndex_of_manifests {s t : State} (h : t.adm.manifests = s.adm.manifests) (x : TrayId) :
    manifestIndex t x = manifestIndex s x := by
  unfold manifestIndex
  rw [h]

theorem dropManifest_manifests (x : TrayId) (s : State) : (dropManifest x s).adm.manifests = manifestsWithout s x := by
  unfold dropManifest manifestsWithout
  cases manifestIndex s x <;> rfl

/-- The entry at `i` and its tray's manifest are gone, and its lane is changed. -/
structure EntryTaken (i : Nat) (e : Admission) (f : Lane → Lane) (s u : State) : Prop where
  gone : u.admission i = none
  others : ∀ k, k ≠ i → u.admission k = s.admission k
  manifests : u.adm.manifests = manifestsWithout s e.tray
  lane : ∀ n, u.lane n = if n = e.laneNo then (s.lane n).map f else s.lane n

theorem EntryTaken.of_adm {i : Nat} {e : Admission} {f : Lane → Lane} {s u : State}
    (htable : u.adm.table = s.adm.table.set i none) (hmanifests : u.adm.manifests = manifestsWithout s e.tray)
    (hlanes : u.adm.lanes = (updateLane e.laneNo f s).adm.lanes) : EntryTaken i e f s u :=
  ⟨(admission_set_none htable i).trans (if_pos rfl), fun k hk => (admission_set_none htable k).trans (if_neg hk), hmanifests,
    fun n => (lane_congr hlanes n).trans (lane_updateLane e.laneNo n f s)⟩

theorem endReservation_taken {i : Nat} {e : Admission} {s t : State} (h : t.adm = s.adm) :
    (endReservation i e t).adm.table = s.adm.table.set i none ∧
      (endReservation i e t).adm.manifests = manifestsWithout s e.tray ∧
      (endReservation i e t).adm.lanes = (updateLane e.laneNo Lane.release s).adm.lanes := by
  have hmanifests : (setAdmission i none (updateLane e.laneNo Lane.release t)).adm.manifests = s.adm.manifests := by
    show (updateLane e.laneNo Lane.release t).adm.manifests = _
    rw [updateLane_adm, h]
  refine ⟨by rw [endReservation_table, h], ?_, ?_⟩
  · unfold endReservation removeEntry
    rw [dropManifest_manifests, manifestsWithout, manifestIndex_of_manifests hmanifests, hmanifests]
    rfl
  · unfold endReservation
    rw [(ReservationsFit.removeEntry_adm i e (updateLane e.laneNo Lane.release t)).2]
    exact ReservationsFit.updateLane_lanes_congr (congrArg Adm.lanes h) _ _

/-! ### Serving what is left -/

theorem serveEntry_none {i k : Nat} {s : State} (h : s.admission k = none) : (serveEntry i s).admission k = none := by
  by_cases hik : i = k
  · subst hik
    unfold serveEntry
    simp only [h]
  · exact (serveEntry_admission_of_ne hik s).trans h

theorem serve_none {k : Nat} {s : State} (h : s.admission k = none) : (serve s).admission k = none := by
  have hlist (l : List Nat) (t : State) (ht : t.admission k = none) : (serveList l t).admission k = none := by
    induction l generalizing t with
    | nil => exact ht
    | cons i is ih =>
      unfold serveList
      split
      · exact ih _ (serveEntry_none ht)
      · exact ht
  unfold serve
  split
  · exact hlist _ s h
  · exact h

/-- An entry's end in a state that is not served. -/
theorem EntryTaken.unserved {i : Nat} {e : Admission} {f : Lane → Lane} {s u : State} (h : EntryTaken i e f s u)
    (hmode : u.mode ≠ .running) :
    (∀ k, k ≠ i → (serve u).admission k = s.admission k) ∧ (serve u).lane e.laneNo = (s.lane e.laneNo).map f := by
  rw [serve_eq_self (.inr (.inl hmode))]
  exact ⟨h.others, (h.lane e.laneNo).trans (if_pos rfl)⟩

/-! ### The windows -/

/-- The state that the claim window leaves to be served (R139). -/
def unclaimedState (i : Nat) (e : Admission) (s : State) : State :=
  latch .unclaimed (discardReady i e (timeTo (e.stateSince + s.claimMs) s))

theorem claimOut_of {i : Nat} {e : Admission} {s : State} (he : s.admission i = some e) (hs : e.state = .ready) :
    claimOut i s = serve (unclaimedState i e s) := by
  unfold claimOut
  simp only [he]
  exact if_pos hs

theorem unclaimedState_parts (i : Nat) (e : Admission) (s : State) :
    EntryTaken i e Lane.release s (unclaimedState i e s) ∧
      (unclaimedState i e s).adm.unclaimed = bump s.adm.unclaimed 1 ∧
      (unclaimedState i e s).stc = { s.stc with latched := s.stc.latched ||| Notice.unclaimed.mask } ∧
      (unclaimedState i e s).trc = s.trc ∧ (unclaimedState i e s).nowMs = max s.nowMs (e.stateSince + s.claimMs) := by
  obtain ⟨htable, hmanifests, hlanes⟩ := endReservation_taken (i := i) (e := e)
    (show (timeTo (e.stateSince + s.claimMs) s).adm = s.adm from rfl)
  refine ⟨.of_adm htable hmanifests hlanes, ?_, ?_, ?_, ?_⟩
  · show bump (endReservation i e (timeTo (e.stateSince + s.claimMs) s)).adm.unclaimed 1 = _
    rw [endReservation_adm]
    rfl
  · exact congrArg (fun c : Stc => { c with latched := c.latched ||| Notice.unclaimed.mask })
      (endReservation_stc i e (timeTo (e.stateSince + s.claimMs) s))
  · exact endReservation_trc i e _
  · exact endReservation_nowMs i e _

/-- The state that the arrival window leaves to be served (R141). -/
def missedState (i : Nat) (e : Admission) (s : State) : State :=
  latch .trayMissing (declareMissing i e (timeTo (e.claimSince + s.arrivalMs) s))

theorem arrivalOut_of {i : Nat} {e : Admission} {s : State} (he : s.admission i = some e)
    (hs : e.state = .claimed ∨ e.state = .inbound) : arrivalOut i s = serve (missedState i e s) := by
  have hclaimed : e.claimed = true := by
    rcases hs with hs | hs <;> simp [Admission.claimed, hs]
  unfold arrivalOut
  simp only [he]
  exact if_pos hclaimed

theorem missedState_parts (i : Nat) (e : Admission) {s : State} (hroom : s.trc.entries.length < 128) :
    EntryTaken i e Lane.release s (missedState i e s) ∧ (missedState i e s).adm.missing = bump s.adm.missing 1 ∧
      (missedState i e s).stc = { s.stc with latched := (missedState i e s).stc.latched } ∧
      (missedState i e s).latchedNotice .trayMissing = true ∧
      (missedState i e s).trc.entries = s.trc.entries ++ [missingTrace s e] ∧
      (missedState i e s).nowMs = max s.nowMs (e.claimSince + s.arrivalMs) := by
  have hadm : (missingTraced e (timeTo (e.claimSince + s.arrivalMs) s)).adm = s.adm := missingTraced_adm e _
  obtain ⟨htable, hmanifests, hlanes⟩ := endReservation_taken (i := i) (e := e) hadm
  refine ⟨.of_adm htable hmanifests hlanes, ?_, ?_, ?_, ?_, ?_⟩
  · show bump (endReservation i e (missingTraced e (timeTo (e.claimSince + s.arrivalMs) s))).adm.missing 1 = _
    rw [endReservation_adm]
    show bump (missingTraced e (timeTo (e.claimSince + s.arrivalMs) s)).adm.missing 1 = _
    rw [hadm]
  · obtain ⟨hstc, -⟩ := writeTrace_stc (missingTrace (timeTo (e.claimSince + s.arrivalMs) s) e)
      (timeTo (e.claimSince + s.arrivalMs) s)
    have hended := endReservation_stc i e (missingTraced e (timeTo (e.claimSince + s.arrivalMs) s))
    exact congrArg (fun c : Stc => { c with latched := (missedState i e s).stc.latched }) (hended.trans hstc)
  · exact latchedNotice_of_latched_or
      (x := (declareMissing i e (timeTo (e.claimSince + s.arrivalMs) s)).stc.latched) (latch_latched _ _)
  · show (endReservation i e (missingTraced e (timeTo (e.claimSince + s.arrivalMs) s))).trc.entries = _
    rw [endReservation_trc]
    exact missingTraced_entries (s := timeTo (e.claimSince + s.arrivalMs) s) hroom
  · show (endReservation i e (missingTraced e (timeTo (e.claimSince + s.arrivalMs) s))).nowMs = _
    rw [endReservation_nowMs]
    exact writeTrace_nowMs _ _

/-- The state that a lapse leaves (R137). -/
def lapsedState (i : Nat) (e : Admission) (s : State) : State :=
  { removeEntry i e (timeTo (e.askSince + s.manifestMs) s) with
    adm.lapsed := bump (removeEntry i e (timeTo (e.askSince + s.manifestMs) s)).adm.lapsed 1 }

theorem pendingOut_of {i : Nat} {e : Admission} {s : State} (he : s.admission i = some e) (hs : e.state = .pending) :
    pendingOut i s = lapsedState i e s := by
  unfold pendingOut
  simp only [he]
  exact if_pos hs

theorem removeEntry_manifests (i : Nat) (e : Admission) (s : State) :
    (removeEntry i e s).adm.manifests = manifestsWithout s e.tray := dropManifest_manifests _ _

theorem removeEntry_rest (i : Nat) (e : Admission) (s : State) :
    { removeEntry i e s with adm.table := s.adm.table, adm.manifests := s.adm.manifests } = s := by
  unfold removeEntry dropManifest
  split <;> rfl

theorem mode_of_latched {s t : State} {l : BitVec 32} (h : t.stc = { s.stc with latched := l }) : t.mode = s.mode := by
  rw [State.mode, h]
  rfl

theorem role_of_latched {s t : State} {l : BitVec 32} (h : t.stc = { s.stc with latched := l }) : t.role = s.role :=
  role_of_settings (by rw [h])

/-- Settles O45: each window by the state of the entry it ends, and what is left by the rest of the table. -/
theorem admissionWindowsEndEntries : Obligations.AdmissionWindowsEndEntries := by
  refine ⟨⟨fun i e s he hs => ?_, fun i e s he hs => ?_, fun i e s he hs hroom => ?_, fun i m s hm hnone => ?_⟩,
    fun i e s he hs => ?_, fun i e s he hs hroom => ?_, fun i e s he hs => ?_⟩
  · obtain ⟨htable, hlanes⟩ := ReservationsFit.removeEntry_adm i e (timeTo (e.askSince + s.manifestMs) s)
    have hrest := removeEntry_rest i e (timeTo (e.askSince + s.manifestMs) s)
    have hlapsed := congrArg (fun u : State => u.adm.lapsed) hrest
    have hstc := congrArg State.stc hrest
    exact ⟨_, congrArg Host.Outcome.next (pendingOut_of he hs), (admission_set_none (s := s) htable i).trans (if_pos rfl),
      fun k hk => (admission_set_none (s := s) htable k).trans (if_neg hk), congrArg (bump · 1) hlapsed, hlanes, hstc⟩
  · obtain ⟨htaken, hcount, hstc, htrc, -⟩ := unclaimedState_parts i e s
    refine ⟨_, congrArg Host.Outcome.next (claimOut_of he hs), serve_none htaken.gone, ?_, ?_, ?_, fun hmode =>
      htaken.unserved (by rwa [mode_of_latched hstc])⟩
    · have hserved := congrArg (fun u : State => u.adm.unclaimed) (serve_rest (unclaimedState i e s))
      exact hserved.trans hcount
    · exact latchedNotice_of_latched_or (x := s.stc.latched) (by rw [serve_stc, hstc])
    · exact (congrArg State.trc (serve_rest (unclaimedState i e s))).trans htrc
  · intro lot
    obtain ⟨htaken, hcount, hstc, hlatched, hentries, -⟩ := missedState_parts i e hroom
    refine ⟨_, congrArg Host.Outcome.next (arrivalOut_of he hs), serve_none htaken.gone, ?_, ?_, ?_, fun hmode =>
      htaken.unserved (by rwa [mode_of_latched hstc])⟩
    · have hserved := congrArg (fun u : State => u.trc.entries) (serve_rest (missedState i e s))
      exact hserved.trans hentries
    · have hserved := congrArg (fun u : State => u.adm.missing) (serve_rest (missedState i e s))
      exact hserved.trans hcount
    · rw [State.latchedNotice, serve_stc]
      exact hlatched
  · refine congrArg Host.Outcome.next ?_
    unfold manifestOut
    simp only [hm]
    rw [hnone]
    rfl
  · obtain ⟨htaken, hcount, hstc, htrc, hnow⟩ := unclaimedState_parts i e s
    refine ⟨_, congrArg Host.Outcome.next (claimOut_of he hs), mode_of_latched hstc, role_of_latched hstc, htaken.gone,
      htaken.others, htaken.manifests, fun n => ?_, hcount, htrc, by rw [hstc], hnow⟩
    rw [htaken.lane, ← funext release_eq]
  · intro lot
    obtain ⟨htaken, hcount, hstc, hlatched, hentries, hnow⟩ := missedState_parts i e hroom
    refine ⟨_, congrArg Host.Outcome.next (arrivalOut_of he hs), mode_of_latched hstc, role_of_latched hstc, htaken.gone,
      htaken.others, htaken.manifests, fun n => ?_, hentries, hcount, hlatched, hnow⟩
    rw [htaken.lane, ← funext release_eq]
  · have hnow := congrArg State.nowMs (removeEntry_rest i e (timeTo (e.askSince + s.manifestMs) s))
    exact ⟨_, congrArg Host.Outcome.next (pendingOut_of he hs), removeEntry_manifests i e _, hnow⟩

end Sys2Proof.Machine
end

section

/-! ## Family "other": the way in at CHAMBER (R140, R142, R143), and O46 -/

namespace Sys2Proof.Machine

/-! ### TRAY-PASS at CHAMBER (R140) -/

theorem exec_chamberTrayPass {src tgt : BitVec 5} {s : State} (h : TakenFrom .trayPass src tgt s) (hrole : s.role = .chamber)
    (p : TrayPassFields) : exec (.chamberTrayPass src tgt p) s = .next (takeChamberPass p s) :=
  congrArg Host.Outcome.next ((receive_taken h _).trans (if_pos hrole))

theorem takeChamberPass_dropped {p : TrayPassFields} {s : State} (h : s.mode = .configuring ∨ s.mode = .sanitising) :
    takeChamberPass p s = { s with adm.droppedPasses := bump s.adm.droppedPasses 1 } := by
  unfold takeChamberPass
  exact if_pos (by rcases h with h | h <;> rw [h] <;> rfl)

section Open

variable {p : TrayPassFields} {s : State} (hc : s.mode ≠ .configuring) (hs : s.mode ≠ .sanitising)
include hc hs

theorem takeChamberPass_of_open :
    takeChamberPass p s =
      match (admissionIndex s (readTrayId p.trayId)).bind s.admission, admissionIndex s (readTrayId p.trayId) with
      | some e, some i =>
        match e.state with
        | .claimed => makeInbound i e s
        | .inbound => s
        | _ => addNote { tray := readTrayId p.trayId, lot := optId p.lot.toNat } s
      | _, _ => addNote { tray := readTrayId p.trayId, lot := optId p.lot.toNat } s := by
  unfold takeChamberPass
  exact if_neg (by rw [decide_eq_false hc, decide_eq_false hs]; decide)

theorem takeChamberPass_held {i : Nat} {e : Admission} (hi : admissionIndex s (readTrayId p.trayId) = some i)
    (he : s.admission i = some e) :
    takeChamberPass p s =
      match e.state with
      | .claimed => makeInbound i e s
      | .inbound => s
      | _ => addNote { tray := readTrayId p.trayId, lot := optId p.lot.toNat } s := by
  rw [takeChamberPass_of_open hc hs, hi]
  simp only [Option.bind_some, he]

theorem takeChamberPass_noted
    (h : ((admissionIndex s (readTrayId p.trayId)).bind s.admission).map Admission.state = none ∨
      ((admissionIndex s (readTrayId p.trayId)).bind s.admission).map Admission.state = some .pending ∨
      ((admissionIndex s (readTrayId p.trayId)).bind s.admission).map Admission.state = some .ready) :
    takeChamberPass p s = addNote { tray := readTrayId p.trayId, lot := optId p.lot.toNat } s := by
  cases hi : admissionIndex s (readTrayId p.trayId) with
  | none =>
    rw [takeChamberPass_of_open hc hs, hi]
    rfl
  | some i =>
    cases he : s.admission i with
    | none =>
      rw [takeChamberPass_of_open hc hs, hi]
      simp only [Option.bind_some, he]
    | some e =>
      rw [hi, Option.bind_some, he, Option.map_some] at h
      rw [takeChamberPass_held hc hs hi he]
      rcases h with h | h | h
      · cases h
      · rw [Option.some.inj h]
      · rw [Option.some.inj h]

end Open

/-! ### The infeed (R142, R143) -/

theorem exec_chamberInfeed {s : State} (hrole : s.role = .chamber) (hmode : s.mode ≠ .starting) :
    exec .chamberInfeedEvent s = .next (match oldestInbound s with
      | none => strayArrival s
      | some i =>
        match s.admission i with
        | none => s
        | some e => admitTray i e s) := by
  have hevent : exec .chamberInfeedEvent s = .next (infeedEvent s) := rfl
  rw [hevent, infeedEvent, hrole]
  exact congrArg Host.Outcome.next (if_neg hmode)

theorem removeEntry_taken {i : Nat} {e : Admission} {f : Lane → Lane} {s t : State} (htable : t.adm.table = s.adm.table)
    (hmanifests : t.adm.manifests = s.adm.manifests) (hlanes : t.adm.lanes = (updateLane e.laneNo f s).adm.lanes) :
    EntryTaken i e f s (removeEntry i e t) := by
  obtain ⟨htable', hlanes'⟩ := ReservationsFit.removeEntry_adm i e t
  refine .of_adm (htable'.trans (by rw [htable])) ?_ (hlanes'.trans hlanes)
  rw [removeEntry_manifests, manifestsWithout, manifestIndex_of_manifests hmanifests, hmanifests]
  rfl

/-- The trace entry of an admission (R142). -/
def admittedTrace (s : State) (e : Admission) : TraceEntry :=
  .chamber e.tray .admitted e.lane ((manifestOf s e.tray).bind Manifest.lot) s.stc.clock

/-- The state in which the lane is presented and the tray's ADMITTED stands in the ring. -/
def presentedState (e : Admission) (s : State) : State :=
  writeTrace (admittedTrace s e) (updateLane e.laneNo Lane.occupy { s with adm.laneSelect := e.laneNo })

/-- The state that an admission leaves to be served (R142). -/
def admittedState (i : Nat) (e : Admission) (s : State) : State :=
  { removeEntry i e (presentedState e s) with adm.admitted := bump (removeEntry i e (presentedState e s)).adm.admitted 1 }

theorem admitTray_eq (i : Nat) (e : Admission) (s : State) : admitTray i e s = serve (admittedState i e s) := rfl

theorem presentedState_adm (e : Admission) (s : State) :
    (presentedState e s).adm =
      { s.adm with laneSelect := e.laneNo, lanes := (updateLane e.laneNo Lane.occupy s).adm.lanes } := by
  unfold presentedState
  rw [writeTrace_adm, updateLane_adm]
  rw [ReservationsFit.updateLane_lanes_congr (s := s) (t := { s with adm.laneSelect := e.laneNo }) rfl]

theorem admittedState_parts (i : Nat) (e : Admission) {s : State} (hroom : s.trc.entries.length < 128) :
    EntryTaken i e Lane.occupy s (admittedState i e s) ∧ (admittedState i e s).adm.admitted = bump s.adm.admitted 1 ∧
      (admittedState i e s).adm.laneSelect = e.laneNo ∧
      (admittedState i e s).stc = { s.stc with latched := (admittedState i e s).stc.latched } ∧
      (admittedState i e s).trc.entries = s.trc.entries ++ [admittedTrace s e] := by
  have hadm := presentedState_adm e s
  have htaken : EntryTaken i e Lane.occupy s (removeEntry i e (presentedState e s)) :=
    removeEntry_taken (by rw [hadm]) (by rw [hadm]) (by rw [hadm])
  have hrest := removeEntry_rest i e (presentedState e s)
  have hadmitted : (removeEntry i e (presentedState e s)).adm.admitted = (presentedState e s).adm.admitted := by
    have h := congrArg (fun u : State => u.adm.admitted) hrest
    exact h
  have hselect : (removeEntry i e (presentedState e s)).adm.laneSelect = (presentedState e s).adm.laneSelect := by
    have h := congrArg (fun u : State => u.adm.laneSelect) hrest
    exact h
  refine ⟨⟨htaken.gone, htaken.others, htaken.manifests, htaken.lane⟩, ?_, ?_, ?_, ?_⟩
  · show bump (removeEntry i e (presentedState e s)).adm.admitted 1 = _
    rw [hadmitted, hadm]
  · show (removeEntry i e (presentedState e s)).adm.laneSelect = _
    rw [hselect, hadm]
  · obtain ⟨hstc, -⟩ := writeTrace_stc (admittedTrace s e)
      (updateLane e.laneNo Lane.occupy { s with adm.laneSelect := e.laneNo })
    rw [updateLane_stc] at hstc
    exact congrArg (fun c : Stc => { c with latched := (admittedState i e s).stc.latched })
      ((removeEntry_stc i e (presentedState e s)).trans hstc)
  · show (removeEntry i e (presentedState e s)).trc.entries = _
    rw [removeEntry_trc]
    have hwritten := writeTrace_entries (admittedTrace s e)
      (updateLane e.laneNo Lane.occupy { s with adm.laneSelect := e.laneNo })
    rw [updateLane_trc] at hwritten
    exact hwritten.trans (if_pos hroom)

/-- A lane that takes an admitted tray is not empty, so it keeps its order. -/
theorem occupy_eq (l : Lane) : l.occupy = { l with occupancy := l.occupancy + 1, reserved := l.reserved - 1 } := by
  unfold Lane.occupy Lane.settle
  exact if_neg (by simp)

theorem laneNo_of_lane {e : Admission} {n : Nat} (h : e.lane = some n) : e.laneNo = n := by rw [Admission.laneNo, h]; rfl

/-! ### A stray arrival (R143) -/

/-- The note a stray arrival takes. -/
def strayNote (s : State) : Note := s.adm.notes.head?.getD { tray := { origin := 0, seq := 0 }, lot := none }

/-- The state of a stray arrival before it is traced. -/
def strayState (s : State) : State :=
  { s with adm.laneSelect := 0, adm.strays := bump s.adm.strays 1, adm.notes := s.adm.notes.tail }

theorem strayArrival_traced {s : State} (h : reservedTotal s < traceFree s) :
    strayArrival s = writeTrace (.chamber (strayNote s).tray .stray none (strayNote s).lot s.stc.clock) (strayState s) :=
  if_pos (c := reservedTotal (strayState s) < traceFree (strayState s)) h

theorem strayArrival_untraced {s : State} (h : traceFree s ≤ reservedTotal s) :
    strayArrival s = latch .strayUntraced { strayState s with adm.untracedStrays := bump s.adm.untracedStrays 1 } :=
  if_neg (c := reservedTotal (strayState s) < traceFree (strayState s)) (Nat.not_lt.2 h)

theorem strayArrival_adm (s : State) :
    (strayArrival s).adm = { s.adm with
      laneSelect := 0, strays := bump s.adm.strays 1, notes := s.adm.notes.tail,
      untracedStrays := (strayArrival s).adm.untracedStrays } := by
  by_cases h : reservedTotal s < traceFree s
  · rw [strayArrival_traced h, writeTrace_adm]
    rfl
  · rw [strayArrival_untraced (Nat.not_lt.1 h)]
    rfl

/-- Settles O46: the frame by the state of its tray's entry, the infeed by what is INBOUND. -/
theorem inboundTrayIsAdmitted : Obligations.InboundTrayIsAdmitted := by
  refine ⟨⟨fun src tgt p i e s ht hrole hmode hi he hs => ?_, fun i n e l s hrole hmode hold he hn hl hroom => ?_,
    fun s hrole hmode hold => ?_⟩, fun i e s hrole hmode hold he hroom => ?_, fun src tgt p s ht hrole => ?_⟩
  · have hc : s.mode ≠ .configuring := by rcases hmode with h | h | h | h <;> rw [h] <;> decide
    have hsan : s.mode ≠ .sanitising := by rcases hmode with h | h | h | h <;> rw [h] <;> decide
    rw [exec_chamberTrayPass ht hrole, takeChamberPass_held hc hsan hi he]
    simp only [hs]
    exact ⟨_, rfl, slotAt_set_same (admissionIndex_lt hi) _, rfl, rfl, rfl⟩
  · intro lot
    obtain ⟨htaken, hcount, hselect, hstc, hentries⟩ := admittedState_parts i e hroom
    have hlane := laneNo_of_lane hn
    have hrest := serve_rest (admittedState i e s)
    have hserved {α : Type} (g : State → α)
        (hg : ∀ t, g { t with
          adm.table := (admittedState i e s).adm.table, adm.lanes := (admittedState i e s).adm.lanes } = g t) :
        g (serve (admittedState i e s)) = g (admittedState i e s) := (hg _).symm.trans (congrArg g hrest)
    rw [exec_chamberInfeed hrole hmode, hold]
    simp only [he, admitTray_eq]
    refine ⟨_, rfl, ?_, serve_none htaken.gone, ?_, ?_, fun hrun => ?_⟩
    · exact (hserved (fun t => t.adm.laneSelect) fun _ => rfl).trans (hselect.trans hlane)
    · rw [hserved (fun t => t.trc.entries) fun _ => rfl, hentries, admittedTrace, hn]
    · exact (hserved (fun t => t.adm.admitted) fun _ => rfl).trans hcount
    · have hlast := (htaken.unserved (by rwa [mode_of_latched hstc])).2
      rwa [hlane, hl] at hlast
  · rw [exec_chamberInfeed hrole hmode, hold]
    have hadm := strayArrival_adm s
    refine ⟨_, rfl, by rw [hadm], by rw [hadm]; rfl, by rw [hadm], by rw [hadm], by rw [hadm], fun hroom => ?_,
      fun hroom => ?_⟩
    · have hfree : s.trc.entries.length < ringSize := by
        unfold traceFree at hroom
        omega
      have hwritten := writeTrace_entries (.chamber (strayNote s).tray .stray none (strayNote s).lot s.stc.clock)
        (strayState s)
      rw [strayArrival_traced hroom, hwritten]
      rw [if_pos (show (strayState s).trc.entries.length < ringSize from hfree), List.length_append]
      rfl
    · rw [strayArrival_untraced hroom]
      exact ⟨rfl, latchedNotice_of_latched_or (x := s.stc.latched) (latch_latched _ _), rfl⟩
  · intro lot
    obtain ⟨htaken, hcount, hselect, hstc, hentries⟩ := admittedState_parts i e hroom
    rw [exec_chamberInfeed hrole hmode, hold]
    simp only [he, admitTray_eq]
    refine ⟨_, rfl, mode_of_latched hstc, role_of_latched hstc, htaken.gone, htaken.others, htaken.manifests, fun n => ?_,
      hentries, hselect, hcount⟩
    rw [htaken.lane, ← funext occupy_eq]
  · intro id note state
    rw [exec_chamberTrayPass ht hrole]
    refine ⟨fun hmode => congrArg Host.Outcome.next (takeChamberPass_dropped hmode), fun hc hsan => ⟨fun hstate => ?_,
      fun hstate => ?_⟩⟩
    · obtain ⟨e, he, hs⟩ := Option.map_eq_some_iff.1 hstate
      obtain ⟨i, hi, he⟩ := Option.bind_eq_some_iff.1 he
      rw [takeChamberPass_held hc hsan hi he, hs]
    · rw [takeChamberPass_noted hc hsan hstate]
      refine ⟨fun hlen => congrArg Host.Outcome.next (if_pos hlen), fun hlen => congrArg Host.Outcome.next ?_⟩
      exact if_neg (Nat.not_lt.2 hlen)

end Sys2Proof.Machine
end

section

/-! ## Family "other": a STATION-STATE follows each change of mode (R159) -/

namespace Sys2Proof.Machine

/-- The STATION-STATE of the mode as it stands waits to be sent. -/
def ReportWaits (s : State) : Prop := stateFrame s ∈ s.lnk.mainQ ∨ s.lnk.pendingState = some (stateFrame s)

/-- From `s` to `t` a new mode is reported, and a report of the mode still waits. -/
structure Reports (s t : State) : Prop where
  changed : t.mode ≠ s.mode → ReportWaits t
  same : t.mode = s.mode → ReportWaits s → ReportWaits t

theorem stateFrame_congr {s t : State} (hmode : t.mode = s.mode) (hrole : t.role = s.role) : stateFrame t = stateFrame s := by
  rw [stateFrame, hmode, hrole]
  rfl

namespace Reports

variable {s t u : State}

theorem refl (s : State) : Reports s s := ⟨fun h => absurd rfl h, fun _ h => h⟩

theorem of_waits (h : ReportWaits t) : Reports s t := ⟨fun _ => h, fun _ _ => h⟩

theorem trans (h : Reports s t) (k : Reports t u) : Reports s u := by
  have hlater (hw : ReportWaits t) : ReportWaits u := by
    by_cases hm : u.mode = t.mode
    · exact k.same hm hw
    · exact k.changed hm
  refine ⟨fun hm => ?_, fun hm hw => ?_⟩
  · by_cases hmid : t.mode = s.mode
    · exact k.changed fun h => hm (h.trans hmid)
    · exact hlater (h.changed hmid)
  · by_cases hmid : t.mode = s.mode
    · exact hlater (h.same hmid hw)
    · exact hlater (h.changed hmid)

/-- `Reports.trans` with the later step first: a chain of updates is written as it is nested. -/
theorem after (k : Reports t u) (h : Reports s t) : Reports s u := h.trans k

/-- The mode and the role stay, and what waits in the main queue still does. -/
theorem of_queue (hmode : t.stc.mode = s.stc.mode) (hsettings : t.stc.settings = s.stc.settings)
    (hmain : ∀ f ∈ s.lnk.mainQ, f ∈ t.lnk.mainQ) (hpending : t.lnk.pendingState = s.lnk.pendingState) : Reports s t := by
  have hmode' : t.mode = s.mode := hmode
  have hframe := stateFrame_congr hmode' (role_of_settings hsettings)
  refine ⟨fun h => absurd hmode' h, fun _ hw => ?_⟩
  rw [ReportWaits, hframe, hpending]
  exact hw.imp (hmain _) id

/-- The mode, the role and the link stay. -/
theorem of_lnk (hmode : t.stc.mode = s.stc.mode) (hsettings : t.stc.settings = s.stc.settings) (hlnk : t.lnk = s.lnk) :
    Reports s t := of_queue hmode hsettings (by rw [hlnk]; exact fun _ h => h) (by rw [hlnk])

theorem of_stc (hstc : t.stc = s.stc) (hlnk : t.lnk = s.lnk) : Reports s t := of_lnk (by rw [hstc]) (by rw [hstc]) hlnk

end Reports

/-! ### Modes and causes -/

theorem placeState_waits (f : Frame) (s : State) :
    f ∈ (placeState f s).lnk.mainQ ∨ (placeState f s).lnk.pendingState = some f := by
  unfold placeState
  split
  · next h =>
    obtain ⟨g, hg, hstate⟩ := List.any_eq_true.1 h
    exact .inl (List.mem_map.2 ⟨g, hg, if_pos hstate⟩)
  split
  · exact .inl (List.mem_append_right _ (List.mem_singleton.2 rfl))
  · exact .inr rfl

theorem reportWaits_enterMode (m : Mode) (s : State) : ReportWaits (enterMode m s) := by
  have hframe : stateFrame (enterMode m s) = stateFrame { s with stc.mode := m } :=
    stateFrame_congr (by simp [State.mode]) (role_of_settings (by simp))
  rw [ReportWaits, hframe]
  exact placeState_waits _ _

theorem ReportWaits.of_stc {s t : State} (h : ReportWaits s) (hstc : t.stc = s.stc) (hlnk : t.lnk = s.lnk) : ReportWaits t :=
  (Reports.of_stc hstc hlnk).same (congrArg Stc.mode hstc) h

theorem reportWaits_enterRunning (s : State) : ReportWaits (enterRunning s) :=
  (reportWaits_enterMode .running s).of_stc (serve_stc _) (serve_lnk _)

theorem reportWaits_enterByCauses (s : State) : ReportWaits (enterByCauses s) := by
  unfold enterByCauses
  split
  · exact reportWaits_enterRunning s
  · exact reportWaits_enterMode _ _

theorem reports_latch (n : Notice) (s : State) : Reports s (latch n s) := .of_lnk rfl rfl rfl

theorem reports_addCause (c : Cause) (s : State) : Reports s (addCause c s) := by
  unfold addCause
  dsimp only
  split
  · exact .of_waits (reportWaits_enterMode _ _)
  · exact .of_lnk rfl rfl rfl

theorem reports_runIfClear (s : State) : Reports s (runIfClear s) := by
  unfold runIfClear
  split
  · exact .of_waits (reportWaits_enterRunning s)
  · exact .refl s

theorem reportWaits_enterSanitising (s : State) : ReportWaits (enterSanitising s) := by
  have h := reportWaits_enterMode .sanitising { s with stc.drainAt := none }
  unfold enterSanitising
  dsimp only
  split
  · exact h.of_stc rfl rfl
  · exact h.of_stc rfl rfl
  · exact h.of_stc rfl rfl
  · exact h.of_stc rfl rfl
  · exact h

theorem reportWaits_enterFault (c : FaultCause) (s : State) : ReportWaits (enterFault c s) :=
  (reports_latch .stationFault _).same rfl (reportWaits_enterMode .fault _)

/-! ### The flow -/

theorem placeCredit_pendingState (s : State) : (placeCredit s).lnk.pendingState = s.lnk.pendingState := by
  unfold placeCredit
  split <;> rfl

theorem reports_settleFlow (s : State) : Reports s (settleFlow s) := by
  refine .of_queue (by simp) (by simp) (fun f hf => by simpa using hf) ?_
  unfold settleFlow updatePermit updateRoom
  dsimp only
  split
  · exact placeCredit_pendingState _
  · rfl

theorem ReportWaits.settleFlow {s : State} (h : ReportWaits s) : ReportWaits (settleFlow s) :=
  (reports_settleFlow s).same (settleFlow_mode s) h

theorem reports_pushMain (f : Frame) (s : State) : Reports s (pushMain f s) := by
  unfold pushMain
  split
  · exact .of_queue rfl rfl (fun _ h => List.mem_append_left _ h) rfl
  · exact .refl s

/-! ### Lots and trays (R52, R79) -/

theorem reports_closeOpenLot (s : State) : Reports s (closeOpenLot s) := by
  have hclose (i : Nat) : Reports s (closeEntry i s) := .of_stc (by simp) (by simp)
  unfold closeOpenLot announceClose
  split
  · exact .refl s
  · next i _ =>
    dsimp only
    split
    · exact (hclose i).trans (.after (reports_pushMain _ _) (.of_stc rfl rfl))
    · exact (hclose i).trans (.of_stc rfl rfl)

theorem reportWaits_enterDraining (s : State) : ReportWaits (enterDraining s) := by
  have h := reportWaits_enterMode .draining { s with stc.drainAt := some (s.nowMs + s.drainMs) }
  unfold enterDraining
  dsimp only
  split
  · exact (reports_closeOpenLot _).same (congrArg Stc.mode (closeOpenLot_stc _)) h
  · exact h.of_stc (by simp) (by simp)
  · exact h.of_stc rfl rfl
  · exact h

/-! ### The treat stage (R65 to R72, R17) -/

theorem reports_updateRow (p : Nat) (f : RowBody → RowBody) (s : State) : Reports s (updateRow p f s) :=
  .of_stc (by simp) (by simp)

theorem reports_splice (s : State) : Reports s (splice s) := .after (reports_latch _ _) (.of_stc rfl rfl)

theorem reports_useLid (r : Reel) (s : State) : Reports s (useLid r s) := by
  unfold useLid
  dsimp only
  split
  · exact .after (reports_splice _) (.of_stc rfl rfl)
  · exact .of_stc rfl rfl

theorem reports_reelMismatch (s : State) : Reports s (reelMismatch s) :=
  .after (reports_latch _ _) (.after (reports_addCause _ _) (.of_stc rfl rfl))

theorem reports_reelsOut (s : State) : Reports s (reelsOut s) := .after (reports_latch _ _) (reports_addCause _ s)

theorem reports_lidPots (l : LotRec) (pots : List (Option Pot)) (s : State) : Reports s (lidPots l pots s).2 := by
  induction pots generalizing s with
  | nil => exact .refl s
  | cons o rest ih =>
    cases o with
    | none => exact ih s
    | some p =>
      unfold lidPots
      split
      · exact ih s
      · split
        · exact reports_reelsOut s
        · next r hr =>
          split
          · exact .after (ih _) (reports_useLid r s)
          · exact reports_reelMismatch s

theorem reports_checkReel (p : Nat) (b : RowBody) (l : LotRec) (s : State) : Reports s (checkReel p b l s) := by
  unfold checkReel
  split
  · exact .refl s
  · split
    · exact .after (reports_updateRow _ _ _) (reports_lidPots l _ s)
    · exact .after (reports_reelMismatch _) (reports_updateRow _ _ s)

theorem reports_lidStage (s : State) : Reports s (lidStage s) := by
  unfold lidStage
  dsimp only
  split
  · exact .refl s
  split
  · exact .refl s
  split
  · exact .refl s
  split
  · exact .after (reports_reelsOut _) (reports_updateRow _ _ s)
  split
  · exact .after (reports_checkReel _ _ _ _) (reports_splice s)
  · exact reports_checkReel _ _ _ s

theorem reports_tripLane (k : Nat) (s : State) : Reports s (tripLane k s) :=
  .after (reports_addCause _ _) (.after (reports_latch _ _) (.of_stc rfl rfl))

theorem reports_bondLane (p k : Nat) (pass : Bool) (s : State) : Reports s (bondLane p k pass s) := by
  unfold bondLane
  split
  · exact .of_stc rfl rfl
  · have hfailed (n : Nat) : Reports s
        { updateRow p (fun b => { b with pots := modifyAt b.pots k (Option.map (fun q => q.mark .bond)) }) s with
          lid.bondFailures := bump s.lid.bondFailures 1, lid.fails := s.lid.fails.set k n } :=
      .of_stc (by simp) (by simp)
    dsimp only
    split
    · exact (hfailed _).trans (reports_tripLane k _)
    · exact hfailed _

theorem reports_bondLanes (p : Nat) (passes : BitVec 8) (ks : List Nat) (s : State) : Reports s (bondLanes p passes ks s) := by
  induction ks generalizing s with
  | nil => exact .refl s
  | cons k ks ih =>
    unfold bondLanes
    dsimp only
    split
    · exact (reports_bondLane p k _ s).trans (ih _)
    · exact ih s

theorem reports_gateStage (s : State) : Reports s (gateStage s) := by
  unfold gateStage countRejects
  split
  · exact .refl s
  · split <;> exact .of_stc (by simp) (by simp)

theorem reports_treatStage (passes : BitVec 8) (s : State) : Reports s (treatStage passes s) := by
  unfold treatStage
  split
  · exact .after (reports_gateStage _) (.after (reports_bondLanes _ _ _ _) (reports_lidStage s))
  · exact reports_gateStage s

theorem reports_trackFault (s : State) : Reports s (trackFault s) := by
  unfold trackFault
  dsimp only
  split
  · exact .of_stc rfl rfl
  · exact .after (reports_latch _ _) (.after (reports_addCause _ _) (.of_stc rfl rfl))

end Sys2Proof.Machine
end

section

/-! ## Family "other": what each command does to the mode and its report (R159) -/

namespace Sys2Proof.Machine

/-! ### Commands that settle the flow and leave the mode -/

theorem mode_of_keeps {s₀ s t : State} (h : Keeps (except .flow) s₀ s t) : t.mode = s.mode := (h.same .flow rfl).1

theorem settleSince_mode (s t : State) : (settleSince s t).mode = t.mode := by simp [State.mode]

theorem openLotOwn_mode (index tank : BitVec 8) (lot : BitVec 24) (s : State) :
    (openLotOwn index tank lot s).state.mode = s.mode := by
  have hsteps (p : Product) (tank lot : Nat) : (openLotSteps p tank lot s).mode = s.mode := by
    unfold openLotSteps
    dsimp only
    split <;> simp [State.mode]
  unfold openLotOwn
  (repeat' split) <;> simp [refuse, accept, hsteps]

theorem closeLotOwn_mode (s : State) : (closeLotOwn s).state.mode = s.mode := by
  unfold closeLotOwn
  (repeat' split) <;> simp [State.mode, refuse, accept]

theorem removeTrayOwn_mode (cell : BitVec 8) (s : State) : (removeTrayOwn cell s).state.mode = s.mode := by
  have hempty (i : Nat) (u : State) : (emptyCell i u).stc.mode = u.stc.mode := mode_of_keeps (s₀ := s) (keeps_emptyCell i u)
  unfold removeTrayOwn removeTray
  dsimp only
  (repeat' split) <;> simp [State.mode, refuse, accept, hempty]

theorem takeCredit_mode (source : Nat) (limit : BitVec 16) (room : BitVec 8) (s : State) :
    (takeCredit source limit room s).mode = s.mode := by
  unfold takeCredit
  split <;> simp [State.mode]

theorem creditLapse_mode (s : State) : (creditLapse s).mode = s.mode := by
  unfold creditLapse
  split
  · rfl
  · rw [settleFlow_mode]
    split <;> rfl

theorem takeRowPass_mode (source : Nat) (p : RowPassFields) (s : State) : (takeRowPass source p s).mode = s.mode := by
  unfold takeRowPass
  (repeat' split) <;> simp [State.mode, dropPass, creditViolation, acceptRow]

theorem takeTrayFrame_mode (source : Nat) (p : TrayPassFields) (s : State) :
    (takeTrayFrame source p s).mode = s.mode := by
  unfold takeTrayFrame takeTrayPass
  split
  · exact mode_of_keeps (s₀ := s) (keeps_takeChamberPass rfl p s)
  · (repeat' split) <;> simp [State.mode, dropPass, creditViolation, acceptTray]

theorem expireArrival_mode (s : State) : (expireArrival s).mode = s.mode := by
  unfold expireArrival
  (repeat' split) <;> simp [State.mode]

theorem lotOpenRepeat_mode (s : State) : (lotOpenRepeat s).mode = s.mode := by
  unfold lotOpenRepeat
  split <;> simp [State.mode]

theorem queuePendingLots_mode (s : State) : (queuePendingLots s).mode = s.mode := by
  have hcloses : (queueCloses s.lot.pendingCloses s).stc.mode = s.stc.mode :=
    mode_of_keeps (s₀ := s) (keeps_queueCloses (Nat.le_refl _))
  unfold queuePendingLots
  dsimp only
  split <;> simp [State.mode, hcloses]

theorem exitEvent_mode (s : State) : (exitEvent s).mode = s.mode := by
  have hheld (u : State) : (closeHeldBack u).mode = u.mode := mode_of_keeps (s₀ := s) (keeps_closeHeldBack u)
  have hhead (may : Bool) (t : Tray) (u : State) : (releaseHead may t u).mode = u.mode :=
    mode_of_keeps (s₀ := s) (keeps_releaseHead rfl may t u)
  unfold exitEvent exitAtTrayer exitAtChill
  split
  · rfl
  split
  · split
    · rfl
    · rw [settleFlow_mode, hheld, settleFlow_mode, hhead]
      rfl
  · split
    · rfl
    · rw [settleFlow_mode, hhead]
      rfl
  · rfl

theorem closeTimeOut_mode (s : State) : (closeTimeOut s).mode = s.mode := by
  unfold closeTimeOut
  (repeat' split) <;> simp [State.mode]

theorem placeTray_mode (t : Tray) (s : State) : (placeTray t s).mode = s.mode := by
  have hassign (i : Nat) (u : State) : (assignCell i u).stc.mode = u.stc.mode :=
    mode_of_keeps (s₀ := s) (keeps_assignCell i u)
  have hreceive (t : Tray) (u : State) : (receiveTray t u).stc.mode = u.stc.mode :=
    mode_of_keeps (s₀ := s) (keeps_receiveTray t u)
  have hrefuse (u : State) : (refuseTray u).stc.mode = u.stc.mode := mode_of_keeps (s₀ := s) (keeps_refuseTray u)
  unfold placeTray placeInQueue placeInCell
  (repeat' split) <;> simp [State.mode, hassign, hreceive, hrefuse]

theorem infeedEvent_mode (s : State) : (infeedEvent s).mode = s.mode := by
  have hpair : (pairTray s).mode = s.mode := by
    unfold pairTray
    split
    · exact placeTray_mode _ _
    · exact (placeTray_mode _ _).trans (by simp [State.mode])
  have htry : (infeedAtTry s).mode = s.mode := by
    unfold infeedAtTry
    split
    · rfl
    split
    · rfl
    · exact (settleSince_mode _ _).trans hpair
  unfold infeedEvent
  split
  · exact htry
  · exact htry
  · exact mode_of_keeps (s₀ := s) (keeps_infeedAtAdm rfl rfl s)
  · rfl

theorem shuttleEnd_mode (s : State) : (shuttleEnd s).mode = s.mode := by
  unfold shuttleEnd
  split
  · split
    · rfl
    split
    · rfl
    · next c hc =>
      have hpassed : (passedOn c s).mode = s.mode := by
        have h := congrArg State.mode (queuePass_frame (releasePass c.tray)
          (writeTrace (releaseEntry c.tray s.stc.clock) (restShuttle s)))
        exact h.trans (writeTrace_stc_mode _ _)
      rw [endRelease_eq, settleFlow_mode]
      exact (mode_of_keeps (s₀ := s) (keeps_emptyCell _ (passedOn c s))).trans hpassed
  · rfl

theorem stateFallsDue_mode (s : State) : (stateFallsDue s).mode = s.mode := by
  unfold stateFallsDue
  split <;> simp [State.mode]

theorem placePendingState_mode (s : State) : (placePendingState s).mode = s.mode := by
  unfold placePendingState
  (repeat' split) <;> simp [State.mode]

/-! ### Commands that move the mode -/

/-- A mode that changes, to another than STARTING, is reported. -/
def Followed (s t : State) : Prop := t.mode ≠ s.mode → t.mode ≠ .starting → ReportWaits t

theorem Followed.of_mode {s t : State} (h : t.mode = s.mode) : Followed s t := fun hne => absurd h hne

theorem Followed.of_waits {s t : State} (h : ReportWaits t) : Followed s t := fun _ _ => h

theorem Followed.of_reports {s t : State} (h : Reports s t) : Followed s t := fun hne _ => h.changed hne

theorem Followed.of_starting {s t : State} (h : t.mode = .starting) : Followed s t := fun _ hne => absurd h hne

/-- A step before in which the mode stays. -/
theorem Followed.before {s t u : State} (hm : t.mode = s.mode) (h : Followed t u) : Followed s u :=
  fun hne => h fun hu => hne (hu.trans hm)

theorem followed_portCommand {code n : Nat} {always : Bool} {roles : Role → Bool} {enums : Bool} {own : State → Reply}
    {h : CmdHead} {s : State} (hown : Followed s (own s).state) :
    Followed s (portCommand code n always roles enums own h s) := by
  obtain hreset | ⟨st, hrefused⟩ | ⟨-, -, htaken⟩ := portCommand_cases code n always roles enums own h s
  · rw [hreset]
    exact .of_starting rfl
  · rw [hrefused]
    exact .of_mode rfl
  · rw [htaken]
    exact fun hne hstart => (hown hne hstart).of_stc rfl rfl

theorem followed_receive {kind : FrameKind} {src tgt : BitVec 5} {block : State → State} {s : State}
    (h : (block s).mode = s.mode) : Followed s (receive kind src tgt block s) := by
  obtain heq | heq | heq | ⟨-, -, heq⟩ := receive_cases kind src tgt block s <;> rw [heq]
  · exact .of_mode rfl
  · exact .of_mode rfl
  · exact .of_mode rfl
  · exact .of_mode h

theorem reportWaits_completeLoad (ws : List Half) (s : State) : ReportWaits (completeLoad ws s) :=
  (reportWaits_enterMode .configuring _).of_stc rfl rfl

theorem followed_startOwn (s : State) : Followed s (startOwn s).state := by
  unfold startOwn startSteps
  split
  · exact .of_mode rfl
  split
  · have hfault := reportWaits_enterFault .settings s
    exact .of_waits (((reports_latch .settingsBad _).same rfl hfault).settleFlow)
  · exact .of_waits (reportWaits_enterByCauses _).settleFlow

theorem followed_holdOwn (s : State) : Followed s (holdOwn s).state := by
  unfold holdOwn
  split
  · exact .of_reports ((reports_addCause .hold s).trans (reports_settleFlow _))
  · exact .of_mode rfl

theorem clearCauses_mode (s : State) : (clearCauses s).mode = s.mode := by
  rw [clearCauses_eq]
  rfl

theorem followed_resumeOwn (s : State) : Followed s (resumeOwn s).state := by
  unfold resumeOwn
  split
  · exact .of_mode rfl
  · exact .of_mode rfl
  · exact .of_mode rfl
  · exact .of_mode rfl
  · dsimp only
    split
    · exact .of_waits (reportWaits_enterRunning _).settleFlow
    · exact .of_mode (clearCauses_mode s)
  · exact .of_mode (clearCauses_mode s)
  · exact .of_mode (clearCauses_mode s)

theorem followed_sanitiseOwn (s : State) : Followed s (sanitiseOwn s).state := by
  unfold sanitiseOwn
  split
  · exact .of_waits (reportWaits_enterDraining s).settleFlow
  · exact .of_mode rfl

theorem followed_drainEnds (s : State) : Followed s (drainEnds s) := by
  unfold drainEnds
  split
  · exact .of_waits (reportWaits_enterSanitising s).settleFlow
  · exact .of_mode rfl

theorem writtenOffNoted_mode (d : Nat) (s : State) : (writtenOffNoted d s).mode = s.mode := by
  have hwritten : (writtenOff d s).mode = s.mode := writeOffAll_mode (drainStart d s)
  unfold writtenOffNoted
  split <;> exact hwritten

theorem followed_drainOut (s : State) : Followed s (drainOut s) := by
  cases hd : s.stc.drainAt with
  | none =>
    rw [drainOut, hd]
    exact .of_mode rfl
  | some d =>
    by_cases hm : s.mode = .draining
    · rw [drainOut_eq hd hm]
      split
      · exact .of_waits (reportWaits_enterSanitising _).settleFlow
      · exact .of_mode ((settleFlow_mode _).trans (writtenOffNoted_mode d s))
    · rw [drainOut, hd]
      simp only [hm, if_false]
      exact .of_mode rfl

theorem followed_endSanitiseOwn (s : State) : Followed s (endSanitiseOwn s).state := by
  unfold endSanitiseOwn
  split
  · exact .of_waits (reportWaits_enterByCauses _).settleFlow
  · exact .of_mode rfl

theorem followed_indexEvent (presence bond : BitVec 8) {s : State} (hw : ¬ s.waiting) :
    Followed s (indexEvent presence bond s) := by
  have hexit : Keeps (except .flow) s s (exitStage s) := keeps_exitStage rfl s
  have hadvance : Keeps (except .flow) s s (advanceStage (exitStage s)) :=
    hexit.trans (keeps_advanceStage rfl _ (not_waiting_of_keeps hexit hw))
  have hfill : Keeps (except .flow) s s (fillStage presence (advanceStage (exitStage s))) :=
    hadvance.trans (keeps_fillStage rfl rfl presence _ (not_waiting_of_keeps hadvance hw))
  have hfilled : (fillWindow presence s).mode = s.mode := (settleSince_mode s _).trans (mode_of_keeps hfill)
  have hclose (u : State) : Reports u (closeOnDrain u) := .of_stc (by simp) (by simp)
  exact .before hfilled (.of_reports ((reports_treatStage bond (fillWindow presence s)).trans
    ((hclose _).trans (reports_settleFlow _))))

theorem followed_forwardStep (presence bond : BitVec 8) (s : State) : Followed s (forwardStep presence bond s) := by
  unfold forwardStep
  split
  · exact .of_mode rfl
  · next ht =>
    have hw : ¬ s.waiting := not_waiting_of_takesCounts (by simpa using ht)
    split
    · exact .of_mode rfl
    split
    · exact .of_mode rfl
    · exact .before rfl (followed_indexEvent presence bond (s := { s with idx.posCount := 0 }) hw)

theorem followed_reverseStep (s : State) : Followed s (reverseStep s) := by
  unfold reverseStep
  split
  · exact .of_mode rfl
  split
  · exact .of_mode rfl
  · exact .of_reports ((reports_trackFault s).trans (reports_settleFlow _))

theorem followed_shuttleTimeOut (s : State) : Followed s (shuttleTimeOut s) := by
  unfold shuttleTimeOut
  split
  · exact .of_mode rfl
  · dsimp only
    split
    · exact .of_waits (reportWaits_enterFault _ _).settleFlow
    · exact .of_mode rfl

theorem startAnswerTimers_stc (f : Frame) (s : State) : (startAnswerTimers f s).stc = s.stc := by
  unfold startAnswerTimers
  split <;> rfl

theorem takeFromPlace_stc (o : BusOffer) (s : State) : (takeFromPlace o s).stc = s.stc := by
  unfold takeFromPlace
  (repeat' split) <;> rfl

/-- The state in which the frame on the bus is sent, LINK still a cause (R157, R158). -/
def sentTaken (o : BusOffer) (s : State) : State :=
  { startAnswerTimers o.frame (takeFromPlace o s) with
    lnk.onBus := none
    lnk.transmitted := bump (startAnswerTimers o.frame (takeFromPlace o s)).lnk.transmitted 1
    lnk.failures := 0
    lnk.waitSince := none }

theorem sentFrame_of {o : BusOffer} {s : State} (h : s.lnk.onBus = some o) :
    sentFrame s = settleFlow (runIfClear (dropCause .link (sentTaken o s))) := by
  rw [sentFrame, h]
  rfl

theorem sentTaken_stc (o : BusOffer) (s : State) : (sentTaken o s).stc = s.stc :=
  (startAnswerTimers_stc _ _).trans (takeFromPlace_stc o s)

theorem followed_sentFrame (s : State) : Followed s (sentFrame s) := by
  cases h : s.lnk.onBus with
  | none =>
    rw [sentFrame, h]
    exact .of_mode rfl
  | some o =>
    rw [sentFrame_of h]
    have hmode : (sentTaken o s).mode = s.mode := congrArg Stc.mode (sentTaken_stc o s)
    have hdrop : (dropCause .link (sentTaken o s)).mode = (sentTaken o s).mode := rfl
    exact .before (hdrop.trans hmode) (.of_reports ((reports_runIfClear _).trans (reports_settleFlow _)))

/-- The state after one more transmit failure is counted (R158). -/
def failedOnce (s : State) : State :=
  { s with lnk.failures := min 255 (s.lnk.failures + 1), lnk.txFailures := bump s.lnk.txFailures 1 }

theorem transmitFailure_eq (s : State) :
    transmitFailure s =
      if s.lnk.failures + 1 = 64 then settleFlow (latch .linkFail (addCause .link (failedOnce s))) else failedOnce s := rfl

theorem followed_transmitFailure (s : State) : Followed s (transmitFailure s) := by
  rw [transmitFailure_eq]
  split
  · have hreports := (reports_addCause .link (failedOnce s)).trans
      ((reports_latch .linkFail (addCause .link (failedOnce s))).trans (reports_settleFlow _))
    exact .before (t := failedOnce s) rfl (.of_reports hreports)
  · exact .of_mode rfl

theorem followed_corruptFrame (s : State) : Followed s (corruptFrame s) := by
  unfold corruptFrame
  split
  · exact .of_mode rfl
  · exact .before rfl (followed_transmitFailure _)

theorem followed_waitTooLong (s : State) : Followed s (waitTooLong s) := by
  unfold waitTooLong
  split
  · exact .of_mode rfl
  · exact .before rfl (followed_transmitFailure _)

/-- Every command leaves the mode, or a report of the new mode, or STARTING. -/
theorem exec_followed {c : Instr} {s t : State} (he : exec c s = .next t) : Followed s t := by
  by_cases hc : c = .hardReset
  · subst hc
    obtain rfl := Host.Outcome.next.inj he
    exact .of_starting rfl
  by_cases hf : movesFlow c = false
  · obtain hk | ⟨-, bytes, rfl⟩ := exec_keeps_or_resets hc he
    · exact .of_mode (hk.same .flow hf).1
    · exact .of_starting rfl
  cases c
  all_goals try exact absurd rfl hf
  all_goals obtain rfl := Host.Outcome.next.inj he
  case loadComplete image =>
    split
    · exact .of_waits (reportWaits_completeLoad _ s).settleFlow
    · exact .of_mode rfl
  case start h => exact followed_portCommand (followed_startOwn s)
  case hold h => exact followed_portCommand (followed_holdOwn s)
  case resume h => exact followed_portCommand (followed_resumeOwn s)
  case sanitise h => exact followed_portCommand (followed_sanitiseOwn s)
  case drainComplete => exact followed_drainEnds s
  case drainTimeout => exact followed_drainOut s
  case endSanitise h => exact followed_portCommand (followed_endSanitiseOwn s)
  case openLot h index tank lot => exact followed_portCommand (.of_mode (openLotOwn_mode index tank lot s))
  case closeLot h => exact followed_portCommand (.of_mode (closeLotOwn_mode s))
  case removeTray h cell => exact followed_portCommand (.of_mode (removeTrayOwn_mode cell s))
  case forwardCount presence bond => exact followed_forwardStep presence bond s
  case reverseCount => exact followed_reverseStep s
  case credit src tgt limit room => exact followed_receive (takeCredit_mode _ limit room s)
  case creditExpiry => exact .of_mode (creditLapse_mode s)
  case rowPass src tgt p => exact followed_receive (takeRowPass_mode _ p s)
  case trayPass src tgt p => exact followed_receive (takeTrayFrame_mode _ p s)
  case chamberTrayPass src tgt p => exact followed_receive (takeTrayFrame_mode _ p s)
  case transitLimitExpiry => exact .of_mode (expireArrival_mode s)
  case lotOpenRepetition => exact .of_mode (lotOpenRepeat_mode s)
  case pendingLotFramesQueued => exact .of_mode (queuePendingLots_mode s)
  case exitSensorEvent => exact .of_mode (exitEvent_mode s)
  case chillExitSensorEvent => exact .of_mode (exitEvent_mode s)
  case trayCloseTime => exact .of_mode (closeTimeOut_mode s)
  case infeedSensorEvent => exact .of_mode (infeedEvent_mode s)
  case chamberInfeedEvent => exact .of_mode (infeedEvent_mode s)
  case shuttleDone => exact .of_mode (shuttleEnd_mode s)
  case shuttleTimeout => exact followed_shuttleTimeOut s
  case stationStatePeriod => exact .of_mode (stateFallsDue_mode s)
  case pendingStationStatePlaced => exact .of_mode (placePendingState_mode s)
  case frameSent => exact followed_sentFrame s
  case corruptedOwnFrame => exact followed_corruptFrame s
  case longArbitrationLoss => exact followed_waitTooLong s

end Sys2Proof.Machine
end

section

/-! ## Family "other": station reports and the peer table (R159, R160), and O47 -/

namespace Sys2Proof.Machine

/-! ### Placing a STATION-STATE (R159) -/

theorem placeState_replaced (f : Frame) {s : State} (h : s.lnk.mainQ.any Frame.isState = true) :
    placeState f s =
      { s with
        lnk.mainQ := s.lnk.mainQ.map (fun g => if g.isState then f else g)
        lnk.onBus := noteReplaced s.lnk.onBus (fun o => o.place = .mainQueue && o.frame.isState)
        lnk.pendingState := none
        lnk.stateAt := some (s.nowMs + 1000) } := if_pos h

theorem placeState_joined (f : Frame) {s : State} (h : s.lnk.mainQ.any Frame.isState = false)
    (hroom : s.lnk.mainQ.length < 16) :
    placeState f s =
      { s with
        lnk.mainQ := s.lnk.mainQ ++ [f]
        lnk.pendingState := none
        lnk.stateAt := some (s.nowMs + 1000) } := by
  rw [placeState, h, if_neg (by decide), if_pos ((mainHasRoom_one_iff s).2 hroom)]

theorem placeState_heldBack (f : Frame) {s : State} (h : s.lnk.mainQ.any Frame.isState = false)
    (hfull : 16 ≤ s.lnk.mainQ.length) : placeState f s = { s with lnk.pendingState := some f } := by
  rw [placeState, h, if_neg (by decide), if_neg fun hroom => absurd ((mainHasRoom_one_iff s).1 hroom) (by omega)]

/-- The flow leaves the link but for the CREDIT that it may place (R38). -/
theorem settleFlow_lnk (s : State) :
    (settleFlow s).lnk = { s.lnk with
      creditSlot := (settleFlow s).lnk.creditSlot, onBus := (settleFlow s).lnk.onBus } := by
  have hcredit (t : State) : (placeCredit t).lnk = { t.lnk with
      creditSlot := (placeCredit t).lnk.creditSlot, onBus := (placeCredit t).lnk.onBus } := by
    unfold placeCredit
    split <;> rfl
  unfold settleFlow updatePermit updateRoom
  dsimp only
  split
  · exact hcredit _
  · rfl

/-! ### The period (R159) -/

/-- The state in which the 1 s period has passed. -/
def periodPassed (d : Nat) (s : State) : State := timeTo d { s with lnk.stateAt := none }

theorem stateFallsDue_of {d : Nat} {s : State} (h : s.lnk.stateAt = some d) :
    stateFallsDue s = settleFlow (placeState (stateFrame s) (periodPassed d s)) := by
  rw [stateFallsDue, h]
  rfl

theorem placePendingState_of {f : Frame} {s : State} (h : s.lnk.pendingState = some f) (hroom : s.lnk.mainQ.length < 16) :
    placePendingState s = settleFlow (placeState f s) := by
  rw [placePendingState, h]
  exact if_pos ((mainHasRoom_one_iff s).2 hroom)

/-- What a placement in the main queue leaves once the flow is settled. -/
theorem settleFlow_placeState_placed (f : Frame) {s : State}
    (h : s.lnk.mainQ.any Frame.isState = true ∨ s.lnk.mainQ.length < 16) :
    (settleFlow (placeState f s)).lnk.stateAt = some (s.nowMs + 1000) ∧
      (settleFlow (placeState f s)).lnk.pendingState = none := by
  rw [settleFlow_lnk]
  cases hany : s.lnk.mainQ.any Frame.isState with
  | true =>
    rw [placeState_replaced f hany]
    exact ⟨rfl, rfl⟩
  | false =>
    rw [placeState_joined f hany (h.resolve_left (by rw [hany]; decide))]
    exact ⟨rfl, rfl⟩

/-! ### Reports of the other stations (R160) -/

theorem exec_stationState {src tgt : BitVec 5} {s : State} (h : HeardFrom .stationState src s) (ht : tgt.toNat = 0)
    (role mode : BitVec 8) :
    exec (.stationState src tgt role mode) s = .next (takeStationState src.toNat role mode s) :=
  congrArg Host.Outcome.next (receive_heard h ht _)

theorem takeStationState_malformed {source : Nat} {role mode : BitVec 8} {s : State}
    (h : source = s.own ∨ Role.ofCode role.toNat = none ∨ Mode.ofCode mode.toNat = none) :
    takeStationState source role mode s = countMalformed s := by
  unfold takeStationState
  by_cases hown : source = s.own
  · exact if_pos hown
  · rw [if_neg hown]
    rcases h.resolve_left hown with hr | hm
    · simp only [hr]
    · cases Role.ofCode role.toNat with
      | none => rfl
      | some r => simp only [hm]

theorem takeStationState_kept {source : Nat} {role mode : BitVec 8} {m : Mode} {s : State} (hown : source ≠ s.own)
    (hr : Role.ofCode role.toNat ≠ none) (hm : Mode.ofCode mode.toNat = some m) :
    takeStationState source role mode s = setPeer source { mode := some m, since := some s.nowMs } s := by
  obtain ⟨r, hr⟩ := Option.ne_none_iff_exists'.1 hr
  unfold takeStationState
  rw [if_neg hown]
  simp only [hr, hm]

/-- Settles O47: the peer table and the period by the state they find, the report of a new mode by `exec_followed`. -/
theorem stationReportsAreSentAndKept : Obligations.StationReportsAreSentAndKept := by
  refine ⟨⟨⟨fun src tgt role mode s h ht => ⟨fun hbad => ?_, fun m hown hr hm => ?_⟩, fun n d m s hn hp => ?_⟩,
    fun d s hd hroom => ?_, fun d s hd hfull hnone => ?_, fun f s hf hroom hnone => ?_⟩, fun c s t he hne hstart => ?_⟩
  · exact (exec_stationState h ht role mode).trans (congrArg Host.Outcome.next (takeStationState_malformed hbad))
  · exact (exec_stationState h ht role mode).trans (congrArg Host.Outcome.next (takeStationState_kept hown hr hm))
  · have hout : exec (.peerTimeout n) s = .next (peerOut n s) := rfl
    rw [hout, peerOut, if_neg (by omega), hp]
    rfl
  · have hplaced := settleFlow_placeState_placed (stateFrame s) (s := periodPassed d s) hroom.symm
    refine ⟨_, congrArg Host.Outcome.next (stateFallsDue_of hd), fun hnone => ?_, fun hany => ?_, hplaced.1, hplaced.2, ?_, ?_,
      ?_⟩
    · have hlen : s.lnk.mainQ.length < 16 := hroom.resolve_right (by rw [hnone]; decide)
      rw [settleFlow_mainQ, placeState_joined _ (s := periodPassed d s) hnone hlen]
      rfl
    · rw [settleFlow_mainQ, placeState_replaced _ (s := periodPassed d s) hany]
      rfl
    · simp [periodPassed]
    · simp [periodPassed]
    · simp [periodPassed]
  · refine ⟨_, congrArg Host.Outcome.next (stateFallsDue_of hd), ?_, ?_⟩
    · rw [settleFlow_mainQ, placeState_heldBack _ (s := periodPassed d s) hnone hfull]
      rfl
    · rw [settleFlow_lnk, placeState_heldBack _ (s := periodPassed d s) hnone hfull]
  · have hplaced := settleFlow_placeState_placed f (s := s) (.inr hroom)
    refine ⟨_, congrArg Host.Outcome.next (placePendingState_of hf hroom), ?_, hplaced.2, hplaced.1, ?_, ?_⟩
    · rw [settleFlow_mainQ, placeState_joined f hnone hroom]
    · simp
    · simp
  · exact exec_followed he hne hstart

end Sys2Proof.Machine
end

section

/-! ## Family "other": the offer and its outcomes (R157, R158), and O49 -/

namespace Sys2Proof.Machine

/-! ### The bus stays free while a mode is entered and the flow settled -/

theorem placeState_lnk (f : Frame) (s : State) :
    (placeState f s).lnk = { s.lnk with
      mainQ := (placeState f s).lnk.mainQ, onBus := (placeState f s).lnk.onBus,
      pendingState := (placeState f s).lnk.pendingState, stateAt := (placeState f s).lnk.stateAt } := by
  unfold placeState
  (repeat' split) <;> rfl

theorem placeState_free (f : Frame) {s : State} (h : s.lnk.onBus = none) : (placeState f s).lnk.onBus = none := by
  unfold placeState noteReplaced
  rw [h]
  (repeat' split)
  · rfl
  · exact h
  · exact h

theorem settleFlow_free {s : State} (h : s.lnk.onBus = none) : (settleFlow s).lnk.onBus = none := by
  have hcredit (t : State) (ht : t.lnk.onBus = none) : (placeCredit t).lnk.onBus = none := by
    unfold placeCredit placeInCreditSlot noteReplaced
    split
    · dsimp only
      rw [ht]
      rfl
    · exact ht
  unfold settleFlow updatePermit updateRoom
  dsimp only
  split
  · exact hcredit _ h
  · exact h

/-- The link after a frame is sent: the bus is free, no wait runs, and no failure stands in a row. -/
structure BusFree (n : Nat) (s : State) : Prop where
  onBus : s.lnk.onBus = none
  failures : s.lnk.failures = 0
  waitSince : s.lnk.waitSince = none
  transmitted : s.lnk.transmitted = n

theorem BusFree.settleFlow {n : Nat} {s : State} (h : BusFree n s) : BusFree n (settleFlow s) := by
  have hlnk := settleFlow_lnk s
  refine ⟨settleFlow_free h.onBus, ?_, ?_, ?_⟩ <;> rw [hlnk]
  · exact h.failures
  · exact h.waitSince
  · exact h.transmitted

theorem BusFree.enterRunning {n : Nat} {s : State} (h : BusFree n s) : BusFree n (enterRunning s) := by
  have hlnk : (Machine.enterRunning s).lnk =
      (placeState (stateFrame { s with stc.mode := .running }) { s with stc.mode := .running }).lnk := serve_lnk _
  have hplaced := placeState_lnk (stateFrame { s with stc.mode := .running }) { s with stc.mode := .running }
  refine ⟨by rw [hlnk]; exact placeState_free _ h.onBus, ?_, ?_, ?_⟩ <;> rw [hlnk, hplaced]
  · exact h.failures
  · exact h.waitSince
  · exact h.transmitted

/-! ### The frame that leaves its place (R157) -/

theorem startAnswerTimers_slots (f : Frame) (s : State) :
    { startAnswerTimers f s with dsp.slots := s.dsp.slots } = s := by
  unfold startAnswerTimers
  split <;> rfl

theorem startAnswerTimers_lnk (f : Frame) (s : State) : (startAnswerTimers f s).lnk = s.lnk := by
  have h := congrArg State.lnk (startAnswerTimers_slots f s)
  exact h

theorem takeFromPlace_rest (o : BusOffer) (s : State) : { takeFromPlace o s with lnk := s.lnk } = s := by
  unfold takeFromPlace
  (repeat' split) <;> rfl

theorem takeFromPlace_lnk (o : BusOffer) (s : State) :
    (takeFromPlace o s).lnk = { s.lnk with
      creditSlot := if o.place = .creditSlot ∧ o.replaced = false then none else s.lnk.creditSlot
      answerQ := if o.place = .answerQueue ∧ o.replaced = false then s.lnk.answerQ.tail else s.lnk.answerQ
      mainQ := if o.place = .mainQueue ∧ o.replaced = false then s.lnk.mainQ.tail else s.lnk.mainQ } := by
  unfold takeFromPlace
  cases o.replaced with
  | true => simp
  | false => cases o.place <;> simp

theorem sentTaken_lnk (o : BusOffer) (s : State) :
    (sentTaken o s).lnk = { (takeFromPlace o s).lnk with
      onBus := none, transmitted := bump s.lnk.transmitted 1, failures := 0, waitSince := none } := by
  unfold sentTaken
  dsimp only
  rw [startAnswerTimers_lnk, takeFromPlace_lnk]

theorem sentTaken_rest (o : BusOffer) (s : State) :
    { sentTaken o s with lnk := s.lnk, dsp.slots := s.dsp.slots } = s := by
  have htimers := startAnswerTimers_slots o.frame (takeFromPlace o s)
  have hplace := takeFromPlace_rest o s
  have hdsp : (takeFromPlace o s).dsp = s.dsp := by have h := congrArg State.dsp hplace; exact h
  rw [hdsp] at htimers
  exact (congrArg (fun u : State => { u with lnk := s.lnk }) htimers).trans hplace

theorem busFree_sentTaken (o : BusOffer) (s : State) :
    BusFree (bump s.lnk.transmitted 1) (dropCause .link (sentTaken o s)) := by
  have hlnk : (dropCause .link (sentTaken o s)).lnk = (sentTaken o s).lnk := rfl
  refine ⟨?_, ?_, ?_, ?_⟩ <;> rw [hlnk, sentTaken_lnk]

section Sent

variable (o : BusOffer) (s : State)

theorem sentTaken_hnd : (sentTaken o s).hnd = s.hnd := by have h := congrArg State.hnd (sentTaken_rest o s); exact h

theorem sentTaken_idx : (sentTaken o s).idx = s.idx := by have h := congrArg State.idx (sentTaken_rest o s); exact h

theorem sentTaken_tray : (sentTaken o s).tray = s.tray := by have h := congrArg State.tray (sentTaken_rest o s); exact h

theorem sentTaken_lid : (sentTaken o s).lid = s.lid := by have h := congrArg State.lid (sentTaken_rest o s); exact h

theorem dropped_causes : (dropCause .link (sentTaken o s)).stc.causes = s.stc.causes &&& 0xDF#8 := by
  have hdrop : (dropCause .link (sentTaken o s)).stc.causes = (sentTaken o s).stc.causes &&& 0xDF#8 := rfl
  rw [hdrop, sentTaken_stc]

theorem dropped_mode : (dropCause .link (sentTaken o s)).mode = s.mode := by
  have hdrop : (dropCause .link (sentTaken o s)).mode = (sentTaken o s).mode := rfl
  rw [hdrop, State.mode, sentTaken_stc]
  rfl

theorem dropped_latched : (dropCause .link (sentTaken o s)).stc.latched = s.stc.latched := by
  rw [dropCause_stc_latched, sentTaken_stc]

theorem dropped_roomOf : roomOf (dropCause .link (sentTaken o s)) = roomOf s := by
  have hdrop : roomOf (dropCause .link (sentTaken o s)) = roomOf (sentTaken o s) := rfl
  rw [hdrop]
  exact roomOf_congr (sentTaken_stc o s) (sentTaken_tray o s) (by rw [sentTaken_hnd]) (by rw [sentTaken_hnd])

end Sent

/-! ### A frame reported sent -/

section FrameSent

variable {o : BusOffer} {s : State} (ho : s.lnk.onBus = some o)
include ho

theorem sentFrame_not_held (hm : s.mode ≠ .held) : sentFrame s = settleFlow (dropCause .link (sentTaken o s)) := by
  rw [sentFrame_of ho, runIfClear, dropped_mode, decide_eq_false hm, Bool.false_and, if_neg (by decide)]

theorem sentFrame_held (hm : s.mode = .held) :
    sentFrame s = settleFlow (if s.stc.causes &&& 0xDF#8 = 0#8 then enterRunning (dropCause .link (sentTaken o s))
      else dropCause .link (sentTaken o s)) := by
  rw [sentFrame_of ho, runIfClear, dropped_mode, dropped_causes, decide_eq_true hm, Bool.true_and]
  simp only [decide_eq_true_eq]

end FrameSent

theorem sentTaken_mainQ {f : Frame} {bytes : List Byte} {rest : List Frame} {s : State} (hq : s.lnk.mainQ = f :: rest) :
    (sentTaken { place := .mainQueue, frame := f, bytes, replaced := false } s).lnk.mainQ = rest := by
  rw [sentTaken_lnk, takeFromPlace_lnk, hq]
  rfl

theorem startAnswerTimers_of_other {f : Frame} (h : ∀ id, f.payload ≠ .admitAsk id) (s : State) :
    startAnswerTimers f s = s := by
  unfold startAnswerTimers
  split
  · next id hp => exact absurd hp (h id)
  · rfl

theorem startAnswerTimers_slot {f : Frame} {id : BitVec 32} (h : f.payload = .admitAsk id) (s : State) (j : Nat) :
    (startAnswerTimers f s).slot j = (s.slot j).map (fun x =>
      if x.phase = .asking ∧ x.latestAsk = f.serial then { x with answerAt := some (s.nowMs + s.answerMs) } else x) := by
  unfold startAnswerTimers State.slot
  simp only [h, slotAt_map, Bool.and_eq_true, decide_eq_true_eq]

/-! ### A transmit failure (R158) -/

theorem transmitFailure_below {s : State} (h : s.lnk.failures ≠ 63) : transmitFailure s = failedOnce s := by
  rw [transmitFailure_eq, if_neg (by omega)]

theorem transmitFailure_last {s : State} (h : s.lnk.failures = 63) :
    transmitFailure s = settleFlow (latch .linkFail (addCause .link (failedOnce s))) := by
  rw [transmitFailure_eq, h]
  rfl

theorem addCause_failures (c : Cause) (s : State) : (addCause c s).lnk.failures = s.lnk.failures := by
  unfold addCause
  dsimp only
  split
  · unfold enterMode
    dsimp only
    rw [placeState_lnk]
    rfl
  · rfl

theorem hasCause_of_or {c : Cause} {x : BitVec 8} {s : State} (h : s.stc.causes = x ||| c.mask) : s.hasCause c = true := by
  have hmask : (x ||| c.mask) &&& c.mask = c.mask := by
    ext i
    simp only [BitVec.getElem_and, BitVec.getElem_or]
    cases c.mask[i] <;> simp
  rw [State.hasCause, h, hmask]
  cases c <;> decide

/-! ### The offer (R157) -/

theorem offerFrame_of {p : TxPlace} {f : Frame} {s : State} (hm : s.mode ≠ .starting) (hbus : s.lnk.onBus = none)
    (hnext : nextOffer s = some (p, f)) :
    offerFrame s = { s with
      lnk.onBus := some { place := p, frame := f, bytes := frameBytes s.own f, replaced := false }
      lnk.waitSince := some (s.lnk.waitSince.getD s.nowMs) } := by
  unfold offerFrame
  rw [decide_eq_false hm, hbus, hnext]
  rfl

theorem nextOffer_of {p : TxPlace} {f : Frame} {rest : List Frame} {s : State}
    (h : p = .creditSlot ∧ s.lnk.creditSlot = some f ∨
      p = .answerQueue ∧ s.lnk.creditSlot = none ∧ s.lnk.answerQ = f :: rest ∨
      p = .mainQueue ∧ s.lnk.creditSlot = none ∧ s.lnk.answerQ = [] ∧ s.lnk.mainQ = f :: rest) :
    nextOffer s = some (p, f) := by
  unfold nextOffer
  rcases h with ⟨rfl, hc⟩ | ⟨rfl, hc, ha⟩ | ⟨rfl, hc, ha, hm⟩
  · simp only [hc]
  · simp only [hc, ha]
  · simp only [hc, ha, hm]

/-- Settles O49: the offer by the first place that holds a frame, each outcome by the state it leaves. -/
theorem offersAndTheirOutcomes : Obligations.OffersAndTheirOutcomes := by
  refine ⟨⟨fun p f rest s hm hbus hplace => ?_, fun f bytes rest s ho hq hm hpay => ?_,
    fun f id bytes rest j x s ho hq hpay hm hx => ?_, fun s => rfl, fun o s ho hfail => ?_, fun w s hw hfail => ?_,
    fun o s ho hfail => ?_⟩, fun o s ho hm => ?_, fun o s ho hm hroom => ?_⟩
  · exact congrArg Host.Outcome.next (offerFrame_of hm hbus (nextOffer_of hplace))
  · have hfree := (busFree_sentTaken { place := .mainQueue, frame := f, bytes, replaced := false } s).settleFlow
    have hdsp : (sentTaken { place := .mainQueue, frame := f, bytes, replaced := false } s).dsp = s.dsp := by
      show (startAnswerTimers f (takeFromPlace { place := .mainQueue, frame := f, bytes, replaced := false } s)).dsp = _
      rw [startAnswerTimers_of_other hpay]
      rfl
    refine ⟨_, congrArg Host.Outcome.next (sentFrame_not_held ho hm), ?_, hfree.onBus, hfree.failures, hfree.waitSince,
      hfree.transmitted, ?_, (settleFlow_mode _).trans (dropped_mode _ s), ?_, ?_, settleFlow_permit _⟩
    · rw [settleFlow_mainQ]
      exact sentTaken_mainQ hq
    · rw [settleFlow_stc, dropped_causes]
    · rw [settleFlow_dsp]
      exact hdsp
    · rw [settleFlow_idx]
      exact sentTaken_idx _ s
  · have hfree := (busFree_sentTaken { place := .mainQueue, frame := f, bytes, replaced := false } s).settleFlow
    refine ⟨_, congrArg Host.Outcome.next (sentFrame_not_held ho hm), ?_, hfree.onBus, ?_⟩
    · rw [settleFlow_mainQ]
      exact sentTaken_mainQ hq
    · have hslot := startAnswerTimers_slot hpay
        (takeFromPlace { place := .mainQueue, frame := f, bytes, replaced := false } s) j
      rw [State.slot, settleFlow_dsp]
      refine hslot.trans ?_
      have hbefore : (takeFromPlace { place := .mainQueue, frame := f, bytes, replaced := false } s).slot j = some x := hx
      rw [hbefore]
      rfl
  · have hexec : exec .corruptedOwnFrame s = .next (corruptFrame s) := rfl
    rw [hexec, corruptFrame, ho]
    exact congrArg Host.Outcome.next (transmitFailure_below (s := { s with lnk.onBus := none, lnk.waitSince := none }) hfail)
  · have hexec : exec .longArbitrationLoss s = .next (waitTooLong s) := rfl
    rw [hexec, waitTooLong, hw]
    exact congrArg Host.Outcome.next (transmitFailure_below
      (s := { timeTo (w + 20) s with lnk.waitSince := some (timeTo (w + 20) s).nowMs }) hfail)
  · have hexec : exec .corruptedOwnFrame s =
        .next (transmitFailure { s with lnk.onBus := none, lnk.waitSince := none }) := by
      have h : exec .corruptedOwnFrame s = .next (corruptFrame s) := rfl
      rw [h, corruptFrame, ho]
    rw [hexec, transmitFailure_last (s := { s with lnk.onBus := none, lnk.waitSince := none }) hfail]
    refine ⟨_, rfl, ?_, ?_, ?_, ?_⟩
    · rw [settleFlow_lnk]
      refine (addCause_failures .link _).trans ?_
      show min 255 (s.lnk.failures + 1) = 64
      rw [hfail]
      rfl
    · refine hasCause_of_or (x := s.stc.causes) ?_
      rw [settleFlow_stc]
      exact addCause_causes .link _
    · refine latchedNotice_of_latched_or
        (x := (addCause .link (failedOnce { s with lnk.onBus := none, lnk.waitSince := none })).stc.latched) ?_
      rw [settleFlow_stc, latch_latched]
    · rw [settleFlow_mode]
      exact addCause_mode .link _
  · intro left
    have hfree := busFree_sentTaken o s
    refine ⟨_, congrArg Host.Outcome.next (sentFrame_held ho hm), ?_⟩
    by_cases hleft : left = 0#8
    · have hrun : (if s.stc.causes &&& 0xDF#8 = 0#8 then enterRunning (dropCause .link (sentTaken o s))
          else dropCause .link (sentTaken o s)) = enterRunning (dropCause .link (sentTaken o s)) := if_pos hleft
      have hfree' := hfree.enterRunning.settleFlow
      rw [hrun, if_pos hleft]
      refine ⟨hfree'.onBus, hfree'.failures, hfree'.waitSince, hfree'.transmitted, ?_, ?_, ?_, settleFlow_permit _,
        settleFlow_room _, ?_, ?_, ?_⟩
      · rw [settleFlow_stc, enterRunning_causes, dropped_causes]
      · rw [settleFlow_mode, State.mode, enterRunning_mode]
      · rw [settleFlow_stc, ← dropped_latched o s]
        simp [enterRunning]
      · rw [settleFlow_idx, enterRunning_idx]
        exact sentTaken_idx o s
      · rw [settleFlow_tray, enterRunning_tray]
        exact sentTaken_tray o s
      · rw [settleFlow_lid, enterRunning_lid]
        exact sentTaken_lid o s
    · have hkept : (if s.stc.causes &&& 0xDF#8 = 0#8 then enterRunning (dropCause .link (sentTaken o s))
          else dropCause .link (sentTaken o s)) = dropCause .link (sentTaken o s) := if_neg hleft
      have hfree' := hfree.settleFlow
      rw [hkept, if_neg hleft]
      refine ⟨hfree'.onBus, hfree'.failures, hfree'.waitSince, hfree'.transmitted, ?_, ?_, ?_, settleFlow_permit _,
        settleFlow_room _, ?_, ?_, ?_⟩
      · rw [settleFlow_stc, dropped_causes]
      · rw [settleFlow_mode, dropped_mode, hm]
      · rw [settleFlow_stc, dropped_latched]
      · rw [settleFlow_idx]
        exact sentTaken_idx o s
      · rw [settleFlow_tray]
        exact sentTaken_tray o s
      · rw [settleFlow_lid]
        exact sentTaken_lid o s
  · have hfree := (busFree_sentTaken o s).settleFlow
    have hle : roomOf (dropCause .link (sentTaken o s)) ≤ (dropCause .link (sentTaken o s)).hnd.room := by
      rw [dropped_roomOf, dropCause_hnd, sentTaken_hnd]
      exact hroom
    have hlnk : (dropCause .link (sentTaken o s)).lnk = (sentTaken o s).lnk := rfl
    refine ⟨_, congrArg Host.Outcome.next (sentFrame_not_held ho hm), hfree.onBus, hfree.failures, hfree.waitSince,
      hfree.transmitted, (settleFlow_mode _).trans (dropped_mode o s), ?_, ?_, ?_, ?_⟩
    · rw [settleFlow_stc, dropped_latched]
    · rw [(settleFlow_creditSlot_of_le hle).1, hlnk, sentTaken_lnk, takeFromPlace_lnk]
    · rw [settleFlow_answerQ, hlnk, sentTaken_lnk, takeFromPlace_lnk]
    · rw [settleFlow_mainQ, hlnk, sentTaken_lnk, takeFromPlace_lnk]

end Sys2Proof.Machine
end
